-- ==== Sys2Proof/Word.lean ====
section
/-!
DEFINITION. The word and byte types and the plainest arithmetic on them.
-/

namespace Sys2Proof

/-- A 32-bit register or memory word (R103). -/
abbrev Word := BitVec 32

/-- One byte of a memory window. -/
abbrev Byte := BitVec 8

/-- A store of values keyed by a number, in which an absent key stands for a default value. -/
abbrev SMap (α : Type) := List (Nat × α)

end Sys2Proof
end

