-- ==== Sys2Proof/Syntax.lean ====
section
/-!
DEFINITION. The commands of the block: one constructor per row of spec/opcode_table.json. The table gives no row any
bits, so the operands are the model's: the unit the command concerns, the data that come from outside the device, and
for a register access its address, word, byte enables and port (log entry 1). The first operand `t` of every command is
the tick at which the ordering element grants it (R45, R51).
-/

namespace Sys2Proof

/-- A protection source (R260): a fast comparator, a per-switch return of a stage, or the group return of a stage. -/
inductive Src where
  | cmp (n : Nat)
  | sw (stage k : Nat)
  | grp (stage : Nat)
deriving DecidableEq, Repr

/-- A data frame on a CAN bus (R459): 29-bit identifier, FD format, bit-rate switch, error state indicator, identifier, DLC
and payload. -/
structure CanFrame where
  ide : Bool
  fdf : Bool
  brs : Bool
  esi : Bool
  ident : Nat
  dlc : Nat
  data : List Byte
deriving DecidableEq, Repr

/-- What a frame on a host port carries beside its opcode and payload (R113, R115, R117): the port, the bytes of its header as
numbers, the request CRC as received, whether it came in SPI mode 3, whether nCS rose before the response had ended, and how many
words of the burst the ordering element grants in this step, 0 for all that remain (R104): a burst is not atomic, and the same
command given again goes on with its next words. -/
structure HFrame where
  port : Nat
  len : Nat
  addr : Nat
  seq : Nat
  be : Nat
  crc : Word
  mode3 : Bool
  cut : Bool
  part : Nat := 0
deriving DecidableEq, Repr

/-- The commands (spec/opcode_table.json). -/
inductive Instr where
  /-- POWER_ON_RESET (R581). A supply falls below its POR threshold; the device resets, and the reset is released once all supplies have held their release levels for 1 ms. -/
  | powerOnReset (t : Nat) (refclk pri tmode : Bool)
  /-- NRESET (R581). The nRESET ball is held low past its filter; the device resets and keeps table memory and the pool. -/
  | nreset (t : Nat)
  /-- SOFTWARE_DEVICE_RESET (R582). A write to RSTCMD with KEY 0x5A3C and DEV 1 resets the device at the nCS rise that ends its frame. -/
  | softwareDeviceReset (t : Nat) (refclk pri tmode : Bool)
  /-- REFERENCE_VALID (R587). After a POR the crystal or XIN clock becomes valid and the boot moves on to PLL lock. -/
  | referenceValid (t : Nat) (late : Bool)
  /-- BOOT_COMPLETE (R587). Memory initialisation completes and the device reports CONFIG with TRANS 0, ENTRY 3 and event MODECHG. -/
  | bootComplete (t : Nat)
  /-- PLL_LOCK (R49). The PLL locks and TBSTAT.LOCK rises; TBCNT starts, or continues from its held value. -/
  | pllLock (t : Nat)
  /-- PLL_LOCK_LOST (R52). Lock is lost; timebase instants stop, SSV takes SAFE-HOLD with cause LOCK, and the stages turn off under the RC oscillator. -/
  | pllLockLost (t : Nat)
  /-- INTERPOLATOR_RECALIBRATION (R54). The background recalibration of the delay-line interpolators against the replica line, every 100 µs. -/
  | interpolatorRecalibration (t : Nat) (stages : Nat)
  /-- VCORE_CROSSING (R66). A VCORE band crossing that has persisted for 200 ns sets UVWARN or VCLOW, or trips. -/
  | vcoreCrossing (t : Nat) (mv : Nat)
  /-- VCMEAS_SAMPLE (R66). VCMEAS samples VCORE at each TBCNT multiple of 4,000 ticks. -/
  | vcmeasSample (t : Nat) (mv : Nat)
  /-- SUPPLY_TRIP (R536). A supply comparator crossing that lasts 1 µs sets cause SUPPLY and fault 0x0D02. -/
  | supplyTrip (t : Nat) (idx : Nat)
  /-- TIMEBASE_MONITOR_WINDOW (R535). A 100 µs window of RC cycles ends and is judged; TBN failing windows set cause TBMON. -/
  | timebaseMonitorWindow (t : Nat) (count : Nat)
  /-- MODECMD (R74). A host mode command is checked against the mode in force and the transition table, then started or refused in MODERES. -/
  | modecmd (t : Nat) (target after frm : Nat)
  /-- CALIBRATION_COMPLETE (R71). CALIBRATE ends; a pass goes on to READY and a failure returns to CONFIG with CALFAIL. -/
  | calibrationComplete (t : Nat) (pass : Bool)
  /-- MODE_TRANSITION_COMPLETE (R77). A transition completes: MODESTAT.TRANS falls, the new mode is entered and MODECHG is raised. -/
  | modeTransitionComplete (t : Nat)
  /-- DISCHARGE_TIMEOUT (R73). The link is not below 60 V within 2 s of entry to DISCHARGE; SAFE-HOLD with DISCHFAIL. -/
  | dischargeTimeout (t : Nat)
  /-- REGISTER_WRITE (R94). A write to a register field that has no row of its own, applied by its kind, lock and byte enables. -/
  | registerWrite (t : Nat) (port a : Nat) (w : Word) (be : Nat)
  /-- COR_READ (R94). A read of a COR field returns its value and clears exactly the bits returned, or acts as LV in BRV-5210 status mode. -/
  | corRead (t : Nat) (port a : Nat)
  /-- WIDE_VALUE_LO_READ (R107). A read of a wide value's LO word latches HI for the reading frame. -/
  | wideValueLoRead (t : Nat) (port a : Nat)
  /-- UNIT_ENABLE (R15). A write of UCTL.EN changes effective enables in the subtree and starts the enable checks of the units. -/
  | unitEnable (t : Nat) (page : Nat) (on : Bool)
  /-- UNIT_RESET (R16). UCTL.URST starts a reset of the unit and every descendant; accesses are held until it completes. -/
  | unitReset (t : Nat) (page : Nat)
  /-- UNIT_RESET_COMPLETE (R16). The unit or shell reset completes, its reset values become visible and the held accesses take effect. -/
  | unitResetComplete (t : Nat) (page : Nat)
  /-- FAULT_CLEAR (R90). UCTL.FCLR clears OWNF in the unit and its descendants wherever the cause has gone. -/
  | faultClear (t : Nat) (port page : Nat)
  /-- PAGE_LOCK (R97). UCTL.LOCK locks the page and every descendant page. -/
  | pageLock (t : Nat) (port page : Nat)
  /-- LOCKALL (R100). LOCKALL.ALL starts locking every page in turn. -/
  | lockall (t : Nat) (port : Nat)
  /-- LOCKALL_COMPLETE (R100). The last page is locked and ALL reads 1. -/
  | lockallComplete (t : Nat)
  /-- MBX_SEL_WRITE (R112). A write to MBX_SEL clears VALID and starts a capture of both halves of a wide value. -/
  | mbxSelWrite (t : Nat) (port : Nat) (w : Word) (be : Nat)
  /-- MAILBOX_CAPTURE_DONE (R112). The mailbox capture completes and sets VALID, and BAD where no wide value is named. -/
  | mailboxCaptureDone (t : Nat)
  /-- SIGNAL_HOST_WRITE (R32). A host write to the signal value window takes effect only on a host-claimed signal; otherwise it records FOREIGN. -/
  | signalHostWrite (t : Nat) (port n : Nat) (w : Word) (be : Nat)
  /-- SIGNAL_DIRECTORY_WRITE (R28). A write of TYPE or HOSTW of a directory entry, checked against lock, mode and existing bindings. -/
  | signalDirectoryWrite (t : Nat) (port n : Nat) (w : Word) (be : Nat)
  /-- SIGNAL_BINDING_WRITE (R29). A binding register write is checked against the directory for a second writer and for type. -/
  | signalBindingWrite (t : Nat) (port a : Nat) (w : Word) (be : Nat)
  /-- POOL_ALLOCATION_COMMIT (R36). ALLOCB.VALID written 1 is checked for MODE, CLIENT, RANGE, OVERLAP and DUPCLIENT, and accepted or rejected. -/
  | poolAllocationCommit (t : Nat) (port n : Nat) (w : Word) (be : Nat)
  /-- POOL_HOST_WRITE (R37). A host write to the pool takes effect in CONFIG, partial groups by read-modify-write; otherwise it is refused. -/
  | poolHostWrite (t : Nat) (port off : Nat) (w : Word) (be : Nat)
  /-- TABLE_MEMORY_WRITE (R39). A host write to table memory is refused on the active bank outside CONFIG; otherwise it takes effect and clears BANKOK. -/
  | tableMemoryWrite (t : Nat) (port off : Nat) (w : Word) (be : Nat)
  /-- READ (R116). An H-Link READ frame is checked and returns LEN + 1 words with its status word. -/
  | read (t : Nat) (f : HFrame)
  /-- WRITE (R116). An H-Link WRITE frame is checked and writes LEN + 1 words with one set of byte enables. -/
  | write (t : Nat) (f : HFrame) (data : List Word)
  /-- WRITEM (R116). An H-Link WRITEM frame is checked and writes words with per-word byte enables. -/
  | writem (t : Nat) (f : HFrame) (enables data : List Word)
  /-- NOP (R116). An H-Link NOP frame returns only the status word. -/
  | nop (t : Nat) (f : HFrame)
  /-- UNDEFINED_OPCODE (R118). A frame with an undefined opcode is answered with CRC or OPCODE status and has no effect. -/
  | undefinedOpcode (t : Nat) (f : HFrame) (opcode : Nat)
  /-- FRAME_ABORT (R122). nCS rises before the request CRC is complete; the frame is discarded and ABORTCNT increments. -/
  | frameAbort (t : Nat) (port : Nat)
  /-- EVENT_BALL_PULSE_END (R127). The new-source high pulse on an event ball ends and the ball goes low again. -/
  | eventBallPulseEnd (t : Nat) (x : Nat)
  /-- SRCPEND_CLEAR (R124). A W1C write clears router pending bits, and with them the vector states and the ball levels. -/
  | srcpendClear (t : Nat) (port k : Nat) (w : Word) (be : Nat)
  /-- CADENCE_EVENT (R55). A cadence generator issues an event, which starts pods, queue slots, frames and other consumers. -/
  | cadenceEvent (t : Nat) (n : Nat)
  /-- SYNCSTART (R59). The selected cadence generators start together on one tick. -/
  | syncstart (t : Nat) (mask : Nat)
  /-- SYNCSTOP (R59). The selected running cadence generators stop on one tick. -/
  | syncstop (t : Nat) (mask : Nat)
  /-- CADENCE_PERIOD_WRITE (R57). A PERIOD write to a running free generator applies from the next interval, or is discarded with CADERR PERIOD. -/
  | cadencePeriodWrite (t : Nat) (n v : Nat)
  /-- MARGIN_GAUGE_CLEAR (R65). MGCTL.CLR resets MGMIN and MGPOD. -/
  | marginGaugeClear (t : Nat) (n : Nat)
  /-- POD_CAPTURE (R160). At the capture instant the pod takes its inputs and freeze word and joins the ready set. -/
  | podCapture (t : Nat) (p : Nat)
  /-- POD_DISPATCH (R162). A free lane takes the highest-priority ready pod and performs the run start. -/
  | podDispatch (t : Nat) (n : Nat)
  /-- LD (R147). Micro-op LD loads the accumulator from a source, an immediate, another accumulator or an INT32 input. -/
  | ld (t : Nat) (p : Nat)
  /-- ST (R147). Micro-op ST stores the accumulator into a node, rounded and saturated, or wrapped. -/
  | st (t : Nat) (p : Nat)
  /-- MPY (R147). Micro-op MPY writes the saturated product of two operands into the accumulator. -/
  | mpy (t : Nat) (p : Nat)
  /-- MAC (R147). Micro-op MAC adds a product to the accumulator. -/
  | mac (t : Nat) (p : Nat)
  /-- MSU (R147). Micro-op MSU subtracts a product from the accumulator. -/
  | msu (t : Nat) (p : Nat)
  /-- ADD (R147). Micro-op ADD adds an operand to the accumulator. -/
  | add (t : Nat) (p : Nat)
  /-- SUB (R147). Micro-op SUB subtracts an operand from the accumulator. -/
  | sub (t : Nat) (p : Nat)
  /-- NEG (R147). Micro-op NEG negates the accumulator. -/
  | neg (t : Nat) (p : Nat)
  /-- ABS (R147). Micro-op ABS takes the absolute value of the accumulator. -/
  | abs (t : Nat) (p : Nat)
  /-- SHL (R147). Micro-op SHL shifts the accumulator left, with saturation. -/
  | shl (t : Nat) (p : Nat)
  /-- SHR (R147). Micro-op SHR shifts the accumulator right arithmetically. -/
  | shr (t : Nat) (p : Nat)
  /-- SAT (R147). Micro-op SAT clamps the accumulator to a range chosen by K. -/
  | sat (t : Nat) (p : Nat)
  /-- MIN (R147). Micro-op MIN sets the accumulator to the minimum of itself and an operand. -/
  | min (t : Nat) (p : Nat)
  /-- MAX (R147). Micro-op MAX sets the accumulator to the maximum of itself and an operand. -/
  | max (t : Nat) (p : Nat)
  /-- LIM (R147). Micro-op LIM clamps the accumulator between two nodes and sets LIMHIT on a change. -/
  | lim (t : Nat) (p : Nat)
  /-- SEL (R147). Micro-op SEL loads the accumulator when its condition is true. -/
  | sel (t : Nat) (p : Nat)
  /-- CMP (R147). Micro-op CMP sets the LT, EQ and GT flags. -/
  | cmp (t : Nat) (p : Nat)
  /-- SKIP (R147). Micro-op SKIP skips the next N micro-ops when its condition is true. -/
  | skip (t : Nat) (p : Nat)
  /-- INTEG (R147). Micro-op INTEG integrates E times G and the tracking term, then clamps. -/
  | integ (t : Nat) (p : Nat)
  /-- DIFF (R147). Micro-op DIFF forms the difference from a stored node and updates that node. -/
  | diff (t : Nat) (p : Nat)
  /-- LUT (R147). Micro-op LUT evaluates the CURVE1 table of a slot, or records TBLMISS. -/
  | lut (t : Nat) (p : Nat)
  /-- SINCOS (R148). Micro-op SINCOS writes the sine and cosine of an angle node. -/
  | sincos (t : Nat) (p : Nat)
  /-- CLARKE (R147). Micro-op CLARKE transforms two phase currents into alpha and beta. -/
  | clarke (t : Nat) (p : Nat)
  /-- PARK (R147). Micro-op PARK rotates alpha and beta into the rotor frame. -/
  | park (t : Nat) (p : Nat)
  /-- IPARK (R147). Micro-op IPARK rotates d and q into the stationary frame. -/
  | ipark (t : Nat) (p : Nat)
  /-- VSD (R149). Micro-op VSD splits two sets into the alpha-beta and xy planes. -/
  | vsd (t : Nat) (p : Nat)
  /-- OUT (R147). Micro-op OUT writes a pending output value. -/
  | outOp (t : Nat) (p : Nat)
  /-- END (R132). Micro-op END commits the working copy and stages the outputs; the run has reached END. -/
  | endRun (t : Nat) (p : Nat)
  /-- POD_APPLY (R170). At the apply instant outputs are latched if the run reached END; otherwise the run is an overrun and is abandoned. -/
  | podApply (t : Nat) (p : Nat)
  /-- ROTATION_TICK (R175). At each 2 ms rotation tick the next lane leaves dispatch for its self-test and LNS stands in. -/
  | rotationTick (t : Nat)
  /-- LANE_TEST_DONE (R176). A lane's self-test completes and its result is recorded. -/
  | laneTestDone (t : Nat) (pass : Bool) (step : Nat)
  /-- LBIST_START (R178). LBISTCMD.GO starts the full logic self-test in CONFIG, or is refused with MODE. -/
  | lbistStart (t : Nat)
  /-- LBIST_DONE (R178). The full logic self-test completes; failed lanes are marked and MULTIFAIL is requested where two or more failed. -/
  | lbistDone (t : Nat) (fail : Nat)
  /-- RAMP_SEED (R183). RAMPCTL.SEED makes the next capture a seeding capture. -/
  | rampSeed (t : Nat) (p : Nat)
  /-- ACOMP_WRITE (R195). A competitor entry write is checked for a duplicate pod and rejected with DUPPOD if one is found. -/
  | acompWrite (t : Nat) (port a c : Nat) (w : Word) (be : Nat)
  /-- AREQ_HOST_WRITE (R197). A host write of an arena request word triggers a decision. -/
  | areqHostWrite (t : Nat) (port a c : Nat) (w : Word) (be : Nat)
  /-- ARENA_DECISION (R197). The arena picks the lowest key among valid competitors and publishes the winner. -/
  | arenaDecision (t : Nat) (a : Nat)
  /-- SCOREBOOK_ARM (R223). SCTL.ARM arms a scorebook, or is refused with a cause in SRES. -/
  | scorebookArm (t : Nat) (n : Nat)
  /-- SCOREBOOK_ABORT (R226). ARM written 0 stops the book with ABORTED. -/
  | scorebookAbort (t : Nat) (n : Nat)
  /-- SCOREBOOK_TRIG (R225). SCTL.TRIG forces a trigger at the next sample. -/
  | scorebookTrig (t : Nat) (n : Nat)
  /-- SCOREBOOK_SAMPLE (R217). At the sample instant the book reads its taps and decides on a record and a trigger. -/
  | scorebookSample (t : Nat) (n : Nat) (busy : Bool)
  /-- MACH_WRITE (R229). A write of TA.TCFG.MACH checks the reference bindings of both stages against the configuration. -/
  | machWrite (t : Nat) (port : Nat) (w : Word) (be : Nat)
  /-- CARRIER_PERIOD_WRITE (R232). A carrier PERIOD write applies from the next valley, or stops the carrier with CARPER. -/
  | carrierPeriodWrite (t : Nat) (port st : Nat) (w : Word) (be : Nat)
  /-- TRACTION_LOAD_POINT (R238). At a TA or TB load point the modulator computes duties and edge times from the references. -/
  | tractionLoadPoint (t : Nat) (st : Nat) (peak : Bool)
  /-- SELECTION_INSTANT (R243). The position supervisor makes its state decisions and publishes the selected angle and speed. -/
  | selectionInstant (t : Nat) (st : Nat)
  /-- RELOCK_TIMEOUT (R247). The RELOCK window expires in HOLD; the stage enters LOST and requests ASC or the two-step turn-off. -/
  | relockTimeout (t : Nat) (st : Nat)
  /-- RESEL (R243). TPCTL.RESEL takes the configured position source at the next selection instant where allowed. -/
  | resel (t : Nat) (st : Nat)
  /-- ASC_CURRENT_SIGN_CHANGE (R248). A sign change of TCUR0 under ASC updates TSPD from the measured period. -/
  | ascCurrentSignChange (t : Nat) (st : Nat)
  /-- TSPD_TIMEOUT (R248). No sign change for 50 ms sets TSPD to 0. -/
  | tspdTimeout (t : Nat) (st : Nat)
  /-- PROTECTION_SOURCE_ACTIVE (R263). A protection source becomes active outside blanking; the stage trips, or the activation is logged. -/
  | protectionSourceActive (t : Nat) (src : Src) (stays : Bool)
  /-- BLANKING_END (R266). The blanking of a per-switch return ends; an active return then trips the stage. -/
  | blankingEnd (t : Nat) (st k : Nat) (active : Bool)
  /-- SOFT_STEP_END (R267). At s + GSOFT, SOFT goes low and the stage enters OFF. -/
  | softStepEnd (t : Nat) (st : Nat)
  /-- ASC_START (R267). After dead time the low sides turn on and the stage enters ASC, or stays OFF with ASCFAIL. -/
  | ascStart (t : Nat) (st : Nat)
  /-- RETRY_CHECK (R274). When tRETRY has passed, the sources are checked; the latch sets with RETRYFAIL or a resume is scheduled. -/
  | retryCheck (t : Nat) (st : Nat) (gone : List Src)
  /-- STAGE_RESUME (R274). At the resume point the stage returns to NORMAL and raises RESUME. -/
  | stageResume (t : Nat) (st : Nat) (gone : List Src)
  /-- BOOTSTRAP_REFRESH (R277). A refresh pulse is placed in a leg whose high side has stood on, from instant `p` in 1/32 ticks. -/
  | bootstrapRefresh (t : Nat) (st leg p : Nat)
  /-- DRIVER_READY_FALL (R278). A driver-ready ball falls or is low at a turn-on; the leg takes a ready hold. -/
  | driverReadyFall (t : Nat) (st leg : Nat)
  /-- READY_HOLD_END (R278). After TREFRESH the hold ends if ready is high, or continues. -/
  | readyHoldEnd (t : Nat) (st leg : Nat)
  /-- LINK_SUPERVISION_INSTANT (R290). The link supervisor samples VDC, IBRK and PACK and runs the chopper health tests. -/
  | linkSupervisionInstant (t : Nat)
  /-- CHOPPER_COMPARATOR_CROSSING (R288). A chopper comparator sample outside the window turns the hysteretic chopper on or off. -/
  | chopperComparatorCrossing (t : Nat) (level : Nat)
  /-- CHOPPER_MIN_TIME_END (R288). MINON or MINOFF ends and a waiting change takes effect. -/
  | chopperMinTimeEnd (t : Nat)
  /-- PRECHARGE_GO (R294). LPRECMD.GO starts a precharge in NEG, or is refused. -/
  | prechargeGo (t : Nat)
  /-- PRECHARGE_ABORT (R296). GO written 0 aborts a precharge with cause HOST. -/
  | prechargeAbort (t : Nat)
  /-- CONTACTOR_OPEN (R293). LCONTCMD.OPEN switches both contactor pilots off. -/
  | contactorOpen (t : Nat)
  /-- PRECHARGE_CLOSE_TIMER (R295). TCLOSE expires; the precharge moves from NEG to BOOST or from POS to DONE. -/
  | prechargeCloseTimer (t : Nat)
  /-- PRECHARGE_TIMEOUT (R295). TMAX expires in BOOST; the precharge fails with TIMEOUT and PREFAIL. -/
  | prechargeTimeout (t : Nat)
  /-- DISCHARGE_OPEN_WAIT_END (R297). TOPEN ends and the selected discharge route starts. -/
  | dischargeOpenWaitEnd (t : Nat)
  /-- DISCHARGE_PULSE (R299). Every PER ticks on a chopper route both switches are pulsed on. -/
  | dischargePulse (t : Nat)
  /-- DISCHARGE_PULSE_END (R299). The discharge pulse on-time ends. -/
  | dischargePulseEnd (t : Nat)
  /-- PHASE_VALLEY_CROSSING (R309). A phase's current reaches the valley; an on-pulse starts under the interleave rules. -/
  | phaseValleyCrossing (t : Nat) (n : Nat)
  /-- PHASE_PEAK_CROSSING (R309). A phase's current reaches the peak; the on-pulse ends. -/
  | phasePeakCrossing (t : Nat) (n : Nat)
  /-- PHASE_MIN_ON_END (R309). MINON ends and a peak that has already been reached ends the pulse. -/
  | phaseMinOnEnd (t : Nat) (n : Nat)
  /-- INTERLEAVE_WINDOW_OPEN (R310). A waiting phase turns on at its window opening or at WMAX. -/
  | interleaveWindowOpen (t : Nat) (n : Nat)
  /-- SHED_DWELL_EXPIRY (R319). The below- or above-timer reaches DWELL; a phase is shed or added. -/
  | shedDwellExpiry (t : Nat)
  /-- OVT_CROSSING (R321). The output crosses OVT or REL; on-pulses are truncated or allowed again. -/
  | ovtCrossing (t : Nat) (above : Bool)
  /-- REG_START (R314). RCTL.START sets HOSTREQ, or is refused. -/
  | regStart (t : Nat) (dir : Nat)
  /-- REG_STOP (R314). RCTL.STOP clears HOSTREQ. -/
  | regStop (t : Nat)
  /-- REG_START_ABORT (R314). START written 0 while running aborts the start with HOST. -/
  | regStartAbort (t : Nat)
  /-- VSUP_SUPERVISION_INSTANT (R317). VSUP judges soft start against the target and timeout, and ends REG_DIS. -/
  | vsupSupervisionInstant (t : Nat)
  /-- REG_RETRY_WAIT_END (R318). The WAIT time ends and REG enters SOFTSTART again. -/
  | regRetryWaitEnd (t : Nat)
  /-- STOP_RUNDOWN_END (R322). RDOWN expires and every switch of every phase goes off. -/
  | stopRundownEnd (t : Nat)
  /-- REG_DIS_TIMEOUT (R323). VDIS.TMAX passes; REG_DIS falls with DISFAIL. -/
  | regDisTimeout (t : Nat)
  /-- OBA_LOAD_POINT (R332). The OBA modulator computes its leg duties at a load point. -/
  | obaLoadPoint (t : Nat) (peak : Bool)
  /-- OBD_LOAD_POINT (R334). The OBD phase shift moves toward its clamped target and the bridge edges are placed. -/
  | obdLoadPoint (t : Nat) (peak : Bool)
  /-- PILOT_EDGE (R335). A filtered pilot edge; at a rising edge the period, duty and state are evaluated. -/
  | pilotEdge (t : Nat) (rising : Bool)
  /-- PILOT_LEVEL_SAMPLE (R335). The pilot converter samples the middle of a high or low interval. -/
  | pilotLevelSample (t : Nat) (high : Bool) (mv : Int)
  /-- PILOT_STEADY_EVALUATION (R335). With no edge, the steady pilot is evaluated at its timeout and then every 400,000 ticks. -/
  | pilotSteadyEvaluation (t : Nat) (mv : Int)
  /-- PROXIMITY_MEASUREMENT (R338). Every 1 ms the PROX resistance is measured and decoded. -/
  | proximityMeasurement (t : Nat) (ohms : Nat)
  /-- OEXP_ARM_WRITE (R342). An H-Link write of OEXP.ARM permits or forbids export. -/
  | oexpArmWrite (t : Nat) (arm : Bool)
  /-- AC_LOAD_POINT (R355). A commutation kernel drives its legs for the period by role and share. -/
  | acLoadPoint (t : Nat) (n : Nat)
  /-- AC_START (R359). ACTL.START starts the actuator, or is refused. -/
  | acStart (t : Nat) (n : Nat) (dir : Bool)
  /-- AC_START_ABORT (R359). START written 0 aborts the start with HOST. -/
  | acStartAbort (t : Nat) (n : Nat)
  /-- AC_STOP (R360). ACTL.STOP enters BRAKE or IDLE. -/
  | acStop (t : Nat) (n : Nat)
  /-- ALIGN_END (R361). ALIGN ends and the first ramp commutation follows. -/
  | alignEnd (t : Nat) (n : Nat)
  /-- RAMP_COMMUTATION (R361). An open-loop commutation falls T60_j after the previous one; STARTFAIL follows at NMAX. -/
  | rampCommutation (t : Nat) (n : Nat)
  /-- ZERO_CROSS_ARM (R357). The floating phase's detector is armed ZBLANK after the outgoing share reaches 0. -/
  | zeroCrossArm (t : Nat) (n : Nat)
  /-- ZERO_CROSSING (R357). A counted zero crossing validates the handover, or sets T60 and the next commutation. -/
  | zeroCrossing (t : Nat) (n k : Nat) (rising : Bool) (stamp : Nat)
  /-- COMMUTATION (R362). At instant c the sector, ASTEPS and the roles change. -/
  | commutation (t : Nat) (n : Nat)
  /-- CROSSING_DEADLINE (R364). No crossing by the deadline: a miss, or at the second miss loss of the rotor and CATCH. -/
  | crossingDeadline (t : Nat) (n : Nat)
  /-- CATCH_END (R365). CATCH ends without a consistent sequence; the kernel enters FAULTED with LOSTROT. -/
  | catchEnd (t : Nat) (n : Nat)
  /-- BRAKE_END (R360). The BRAKE time ends and the kernel enters IDLE. -/
  | brakeEnd (t : Nat) (n : Nat)
  /-- HALL_EDGE (R367). A Hall state change commutates, or faults with HALLSEQ. -/
  | hallEdge (t : Nat) (n : Nat)
  /-- QUAD_STEP (R376). A filtered A or B change steps RAW and POS, or is an illegal step. -/
  | quadStep (t : Nat) (c : Nat) (a b : Bool) (stamp : Nat)
  /-- WIRE_FAULT (R375). Legs equal for TDIS ticks set a wire fault. -/
  | wireFault (t : Nat) (c j : Nat)
  /-- Z_EDGE (R378). A rising Z edge latches DZLAT, or homes the channel. -/
  | zEdge (t : Nat) (c stamp : Nat)
  /-- HALL_STATE_CHANGE (R385). Filtered U, V, W levels change the HALL quantity. -/
  | hallStateChange (t : Nat) (c code : Nat)
  /-- ZARM (R378). CHCTL.ZARM arms homing at the next Z edge. -/
  | zarm (t : Nat) (c : Nat)
  /-- CHANNEL_ALIGN (R382). CHCTL.ALIGN clears ALIGNED until the next good frame. -/
  | channelAlign (t : Nat) (c : Nat)
  /-- CHANNEL_CONFIG_WRITE (R373). A CHCFG write checks the channel configuration. -/
  | channelConfigWrite (t : Nat) (port c : Nat) (w : Word) (be : Nat)
  /-- DRAW_PRESET (R377). A host preset of DRAW sets RAW, POS and dir. -/
  | drawPreset (t : Nat) (port c : Nat) (w : Word) (be : Nat)
  /-- COMPARE_ARM (R388). A KCTL.ARM or KPOS write arms a compare kernel against POS. -/
  | compareArm (t : Nat) (port idx : Nat) (pos : Bool) (w : Word) (be : Nat)
  /-- SSI_FRAME_START (R379). An SSI frame starts clocking, or is skipped for the gap. -/
  | ssiFrameStart (t : Nat) (c : Nat)
  /-- SSI_FRAME_END (R381). A received frame is judged good or bad, updates the position and may align the channel. -/
  | ssiFrameEnd (t : Nat) (c raw : Nat)
  /-- FEEDBACK_LATCH (R384). At the latch instant ANGLE, POS, RAW and SPEED are computed and published. -/
  | feedbackLatch (t : Nat) (c : Nat)
  /-- EMULATION_STEP (R391). The emulated count steps one count toward its target. -/
  | emulationStep (t : Nat) (c : Nat)
  /-- CONVERTER_SAMPLE (R403). A converter samples the first due item on its grid tick. -/
  | converterSample (t : Nat) (n : Nat)
  /-- CONVERSION_COMPLETE (R405). A conversion's result is calibrated, averaged, published and recorded. -/
  | conversionComplete (t : Nat) (n : Nat) (raw : Int)
  /-- WINDOW_COMPARATOR_ACTIVE (R414). A window comparator becomes active and counts WACT. -/
  | windowComparatorActive (t : Nat) (n level : Nat)
  /-- URGENT_HOST_TRIGGER (R407). CVCTL.UTRIG0 or UTRIG1 requests an urgent conversion. -/
  | urgentHostTrigger (t : Nat) (n e : Nat)
  /-- CONVERTER_CAL (R409). CVCTL.CAL starts a calibration, or is refused. -/
  | converterCal (t : Nat) (n : Nat)
  /-- CONVERTER_CAL_DONE (R409). The calibration ends and writes CALF, or records CALFAIL. -/
  | converterCalDone (t : Nat) (n gain : Nat) (ofs : Int)
  /-- CONVERTER_RELEASE (R410). CVCTL.REL releases a converter, so that its partner covers its slots. -/
  | converterRelease (t : Nat) (n : Nat)
  /-- CONVERTER_RESTORE (R411). CVCTL.RESTORE returns the slots to the converter. -/
  | converterRestore (t : Nat) (n : Nat)
  /-- RDPTR_WRITE (R413). A write of CVRDPTR consumes records. -/
  | rdptrWrite (t : Nat) (port n : Nat) (w : Word) (be : Nat)
  /-- BANK_CHECK (R436). TBCTL.CHECK starts a check of a bank, or is refused. -/
  | bankCheck (t : Nat) (bank : Nat)
  /-- BANK_CHECK_DONE (R436). The bank check passes and sets BANKOK, or fails with a cause in TBFAIL. -/
  | bankCheckDone (t : Nat)
  /-- BANK_SWITCH (R438). TBCTL.SWITCH requests a switch to the inactive bank. -/
  | bankSwitch (t : Nat) (cad : Nat)
  /-- BANK_SWITCH_ABORT (R438). SWITCH written 0 aborts a pending switch. -/
  | bankSwitchAbort (t : Nat)
  /-- BANK_SWITCH_BOUNDARY (R438). At the cadence event the active bank changes and SWITCHED is raised. -/
  | bankSwitchBoundary (t : Nat)
  /-- MAP_EVALUATION (R428). A map evaluator reads a CURVE2 table and writes OUTSIG. -/
  | mapEvaluation (t : Nat) (m : Nat)
  /-- SEQUENCER_STEP (R442). A sequencer step snapshots, evaluates the guards and takes at most one transition. -/
  | sequencerStep (t : Nat) (n : Nat)
  /-- SEQUENCER_RESTART (R440). SQCTL.RESTART makes the sequencer enter INIT at its next step. -/
  | sequencerRestart (t : Nat) (n : Nat)
  /-- WREG (R432). Action WREG writes one word of a unit page, as a third port. -/
  | wreg (t : Nat) (n : Nat)
  /-- SETSIG (R432). Action SETSIG writes the signal bound to an SQSIG slot. -/
  | setsig (t : Nat) (n : Nat)
  /-- POD (R432). Action POD starts or stops a pod through its UCTL.EN. -/
  | podAction (t : Nat) (n : Nat)
  /-- AREQ (R432). Action AREQ writes an arena request word. -/
  | areqAction (t : Nat) (n : Nat)
  /-- EMIT (R432). Action EMIT raises sequencer event 8 + k. -/
  | emit (t : Nat) (n : Nat)
  /-- CANTX (R466). Action CANTX packs an FMT table into its transmit buffer and requests it. -/
  | cantx (t : Nat) (n : Nat)
  /-- CAN_FRAME_ACCEPTED (R458). A received frame is accepted and stored in its object, or counted as unmatched. -/
  | canFrameAccepted (t : Nat) (n : Nat) (frame : CanFrame) (sof : Nat)
  /-- CAN_REMOTE_FRAME (R452). A received remote frame is counted and not stored. -/
  | canRemoteFrame (t : Nat) (n : Nat)
  /-- CAN_RX_ACK (R460). CNRXACK acknowledges an object whose SEQ matches. -/
  | canRxAck (t : Nat) (n obj seq : Nat)
  /-- CAN_TX_REQUEST (R462). TXCMD.REQ requests a frame, or is refused. -/
  | canTxRequest (t : Nat) (n b : Nat)
  /-- CAN_TX_ABORT (R465). REQ written 0 aborts a transmit buffer. -/
  | canTxAbort (t : Nat) (n b : Nat)
  /-- CAN_SELECTION_INSTANT (R463). The controller chooses the pending buffer to send next. -/
  | canSelectionInstant (t : Nat) (n : Nat)
  /-- CAN_TX_SUCCESS (R464). A sent frame succeeds with DONE and TXDONE. -/
  | canTxSuccess (t : Nat) (n sof tdcv : Nat)
  /-- CAN_TX_ATTEMPT_FAIL (R464). Lost arbitration or an error ends the attempt; the frame is retried or ends one-shot. -/
  | canTxAttemptFail (t : Nat) (n cause : Nat) (tdcv : Option Nat)
  /-- CAN_ERROR (R467). A detected bus error updates TEC, REC, CNLEC and the confinement state. -/
  | canError (t : Nat) (n cause : Nat) (tx data exc : Bool)
  /-- CAN_RECOVER (R468). CNCTL.RECOVER starts bus-off recovery. -/
  | canRecover (t : Nat) (n : Nat)
  /-- BUS_OFF_RECOVERY_DONE (R468). 128 sequences of 11 recessive bits end recovery in ACTIVE with BUSON. -/
  | busOffRecoveryDone (t : Nat) (n : Nat)
  /-- CAN_INTEGRATION_DONE (R467). 11 recessive bits complete integration and the controller becomes ACTIVE. -/
  | canIntegrationDone (t : Nat) (n : Nat)
  /-- SERVE_CLAIM (R479). SVCMD.CLAIM takes the serve in READY, or is refused. -/
  | serveClaim (t : Nat)
  /-- SWAP_DRILL (R505). SVCMD.DRILL starts a swap drill, or is refused. -/
  | swapDrill (t : Nat)
  /-- DRILL_TEST_END (R506). The drill test time ends and the partner hands the serve back. -/
  | drillTestEnd (t : Nat) (pass : Bool)
  /-- RALLY_LINK_TRAINED (R481). Link training completes; UP sets, the latency is measured and LINKUP is raised. -/
  | rallyLinkTrained (t : Nat) (lat : Nat)
  /-- RALLY_LINK_DOWN (R510). The receiver loses training or becomes erroneous; UP falls with LINKDOWN. -/
  | rallyLinkDown (t : Nat) (lost : Bool)
  /-- HB_SEND (R484). An HB message is sent every HBPER ticks. -/
  | hbSend (t : Nat)
  /-- HB_MESSAGE (R483). A received HB message updates the partner's state and SVSEQ. -/
  | hbMessage (t : Nat) (w0 w1 w2 w3 : Word)
  /-- CLAIM_MESSAGE (R479). A received CLAIM message resolves crossed claims. -/
  | claimMessage (t : Nat) (w0 w1 w2 w3 : Word)
  /-- OFFER_MESSAGE (R499). A received OFFER starts the handover on the standby. -/
  | offerMessage (t : Nat) (w0 w1 w2 w3 : Word)
  /-- PARTNER_SILENT (R484). No valid word for HBTO ticks; the partner is silent and trigger HBLOSS is recognised. -/
  | partnerSilent (t : Nat)
  /-- CARRIER_SYNC_RECEIVE (R485). A received carrier sync phases the standby's carriers. -/
  | carrierSyncReceive (t : Nat) (st delay : Nat)
  /-- RALLY_FRAME_RECEIVE (R489). A received frame is accepted by its gap and applied, or discarded. -/
  | rallyFrameReceive (t : Nat) (w : List Word)
  /-- TAKEOVER_GUARD_END (R496). The 9.9 µs guard ends without a cancelling HB. -/
  | takeoverGuardEnd (t : Nat)
  /-- TAKEOVER_ENTRY (R496). At the first valley after the guard the device takes the serve, enters RUN and raises AUTH. -/
  | takeoverEntry (t : Nat)
  /-- HANDOVER_TAKE (R499). At tick V the standby takes the serve and raises AUTH. -/
  | handoverTake (t : Nat)
  /-- SERVE_IN_RISE (R499). SERVE_IN is high at four samples; a releaser drops AUTH, or contention begins. -/
  | serveInRise (t : Nat)
  /-- HANDOVER_DEADLINE (R499). SERVE_IN is not high by V + 40; the handover aborts with SERVE. -/
  | handoverDeadline (t : Nat)
  /-- CONTENTION_DECISION (R501). At c0 + 40 ticks the device withdraws by SVSEQ or PRI. -/
  | contentionDecision (t : Nat) (high : Bool)
  /-- CONTENTION_BACKSTOP (R501). At c0 + 72 ticks a device still contending withdraws unless PRI is high. -/
  | contentionBackstop (t : Nat) (high : Bool)
  /-- CONTENTION_LIMIT (R501). At c0 + 400 ticks the device withdraws and sets PRICONF. -/
  | contentionLimit (t : Nat) (high : Bool)
  /-- READBACK_FAILURE (R477). AUTH or SERVE_OUT differs from its command at 8 samples; the serve is dropped with RBFAIL. -/
  | readbackFailure (t : Nat)
  /-- STO_INPUT_CHANGE (R517). A filtered STO input changes; STO is forced or released. -/
  | stoInputChange (t : Nat) (a b : Bool)
  /-- STO_SOFT_RELEASE (R517). The SOFT hold under STO ends and the SOFT balls are released. -/
  | stoSoftRelease (t : Nat)
  /-- STO_DISCREPANCY (R519). The inputs differ for DISC ms and STODISC is set. -/
  | stoDiscrepancy (t : Nat)
  /-- SHCMD_REQUEST (R512). SHCMD.REQ sets cause HOST. -/
  | shcmdRequest (t : Nat)
  /-- SHCMD_CLEAR (R516). SHCMD.CLR clears every cause whose condition has gone. -/
  | shcmdClear (t : Nat)
  /-- SAFETY_SAMPLE (R522). Every 50 µs SFK samples the speeds and positions and tests discrepancy, SDI, SLP and SS1. -/
  | safetySample (t : Nat)
  /-- SAFETY_EVALUATION (R523). Every 200 µs the window mean is compared with the SLS limit. -/
  | safetyEvaluation (t : Nat)
  /-- SFCMD_WRITE (R527). A complemented SFCMD write changes the active safety functions, or is ignored. -/
  | sfcmdWrite (t : Nat) (port : Nat) (w : Word) (be : Nat)
  /-- SLS_DECEL_END (R524). The DEC time ends and the lower limit governs. -/
  | slsDecelEnd (t : Nat)
  /-- SS1_TIMEOUT (R525). SS1 TIME expires and internal STO follows. -/
  | ss1Timeout (t : Nat)
  /-- SAFE_OUTPUT_COMMAND_CHANGE (R531). A safe output's command changes and its switches close, or open within 0.99 ms. -/
  | safeOutputCommandChange (t : Nat) (k : Nat) (on : Bool)
  /-- SAFE_OUTPUT_READBACK_SAMPLE (R532). Every 10 µs the readback is compared; 8 mismatches fault the output. -/
  | safeOutputReadbackSample (t : Nat) (k : Nat) (rbh rbl : Bool)
  /-- SAFE_OUTPUT_TEST_DUE (R534). A periodic HS or LS OFF test of an output starts. -/
  | safeOutputTestDue (t : Nat) (k : Nat)
  /-- SAFE_OUTPUT_TEST_TIMEOUT (R534). The test pulse reaches TPW without the expected readback; the test fails. -/
  | safeOutputTestTimeout (t : Nat) (k : Nat)
  /-- TESTALL (R534). SOTCMD.TESTALL runs the tests of every eligible output, or is refused. -/
  | testall (t : Nat)
  /-- DIAGNOSTIC_LOSS_TIMEOUT (R537). A coverage loss lasts its timeout and sets DGLOSS. -/
  | diagnosticLossTimeout (t : Nat) (b : Nat)
  /-- LOSS_INSTANT (R552). A slot adds its conduction and switching energy. -/
  | lossInstant (t : Nat) (slot h n : Nat)
  /-- THERMAL_INSTANT (R553). Each slot forms P, updates its Foster network and sets Tj. -/
  | thermalInstant (t : Nat)
  /-- SCRUB_READ (R575). The scrubber reads and decodes one codeword every 2,600 ticks. -/
  | scrubRead (t : Nat)
  /-- SIGNATURE_CHECK (R578). Every 2 ms a signature check starts. -/
  | signatureCheck (t : Nat)
  /-- SIGNATURE_CHECK_DONE (R578). The check completes and a mismatch sets cause SIG. -/
  | signatureCheckDone (t : Nat)
  /-- NRESET_RELEASE (R581). nRESET has been high for 10 µs, so the device reset is released, the straps are sampled and the boot begins. -/
  | nresetRelease (t : Nat) (refclk pri tmode : Bool)
  /-- DRIVER_READY_RISE (R278). A driver-ready ball rises during a ready hold that was extended, which starts the final TREFRESH before the hold ends. -/
  | driverReadyRise (t : Nat) (st leg : Nat)
  /-- PHASE_ZERO_CURRENT (R309). A phase current sample at or below IZ turns the freewheel switch off in SOFTSTART, or takes a SHEDDING phase to IDLE, which can end a stop. -/
  | phaseZeroCurrent (t : Nat) (n : Nat)
  /-- PHASE_MIN_OFF_END (R309). RPULSE.MINOFF ends after a turn-off, and an on-pulse that has been waiting on a valley sample may then start. -/
  | phaseMinOffEnd (t : Nat) (n : Nat)
  /-- WIRE_FAULT_END (R375). The legs of a pair that has a wire fault differ again, so the held filtered level is released and CHSTAT.WIRE clears. -/
  | wireFaultEnd (t : Nat) (c j : Nat)
  /-- SUPPLY_RETURN (R536). A monitored supply comes back inside its range, so its DGSTAT.SUPPLY bit clears and the SUPPLY condition has gone. -/
  | supplyReturn (t : Nat) (idx : Nat)
  /-- CAN_PROTOCOL_EXCEPTION (R472). With PXE set, a recessive res bit starts integration without an error frame and raises event PXE. -/
  | canProtocolException (t : Nat) (n : Nat)
  /-- SAFE_OUTPUT_OVERLOAD (R532). A safe-output switch reaches its current limit or thermal shutdown, so the output faults with cause OVERLOAD and both switches open. -/
  | safeOutputOverload (t : Nat) (k : Nat)
  /-- STATUS_HOLD_END (R98). In BRV-5210 status mode, the 250 µs hold of a COR field ends after its cause was last present, and the field reads 0 again. -/
  | statusHoldEnd (t : Nat) (page o lo : Nat)
deriving DecidableEq, Repr

end Sys2Proof
end

