-- ==== Sys2Proof/Config.lean ====
section
/-!
DEFINITION. The values that the spec leaves open, as constants without a body: nothing can be proved of their values.
Each is applied to the operands it depends on, or to the counter of free values in State (log entry 6).
-/

namespace Sys2Proof

/-- Four or more symbols in error (R571): `none` is a decode that detects them; `some e` a miscorrection that leaves
the data bytes differing by `e`, a list of byte offset in the group and difference. No guarantee is given. -/
opaque Config.fourErrors : Nat → Option (List (Nat × Byte))

/-- The overmodulation gain k(MI) of R239 less 1, in 1/65,536, for MI in Q15: the internal table is not given. -/
opaque Config.overmodGain : Nat → Nat

/-- A value that the spec leaves undefined, for the n-th use. -/
opaque Config.freeWord : Nat → Word

end Sys2Proof
end

