-- ==== Sys2Proof/Machine/State.lean ====
section
/-!
DEFINITION. The state of the block as plain data, the reasons a step can stop, and the state after reset.
-/

namespace Sys2Proof.Machine

/-- The operating modes (R69). -/
inductive Mode where
  | dormant | config | calibrate | ready | run | shadow | safeHold | discharge
deriving DecidableEq, Repr

/-- The code of a mode in MODESTAT and MODECMD (R69). -/
def Mode.code : Mode → Nat
  | .dormant => 0
  | .config => 1
  | .calibrate => 2
  | .ready => 3
  | .run => 4
  | .shadow => 5
  | .safeHold => 6
  | .discharge => 7

/-- The steps of the boot after a device reset (R587). -/
inductive Boot where
  | held | reference | lock | memory | done
deriving DecidableEq, Repr

/-- What of a phase of the converter no register shows (R309 to R311, R320). -/
structure PhaseH where
  /-- The tick of its last turn-on. -/
  on : Option Nat := none
  /-- The tick of its last turn-off. -/
  off : Option Nat := none
  /-- The tick of a valley sample whose on-pulse waits. -/
  wait : Option Nat := none
  /-- A peak sample was seen inside MINON. -/
  peak : Bool := false
deriving DecidableEq, Repr

/-- What of the converter no register shows (R308 to R323). -/
structure RegH where
  /-- The direction of the HOST request: RCTL.DIR at its START (R313). -/
  hostDir : Nat := 0
  /-- The master's last turn-on (R310). -/
  master : Option Nat := none
  /-- P of R310: the ticks between the master's last two turn-ons. -/
  period : Nat := 0
  /-- The master's turn-ons since interleave was suspended (R311). -/
  seen : Nat := 0
  /-- The tick of entry to SOFTSTART (R317). -/
  softAt : Nat := 0
  /-- The below-timer of R319: its start. -/
  below : Option Nat := none
  /-- The above-timer of R319: its start. -/
  above : Option Nat := none
  /-- The end of the WAIT time (R318). -/
  waitEnd : Nat := 0
  /-- The tick at which the stop in progress began (R322). -/
  stopAt : Nat := 0
  /-- What the stop in progress ends in: 0 IDLE, 1 WAIT, 2 LATCHED, 3 SOFTSTART in a new direction (R313, R318, R322). -/
  stopTo : Nat := 0
  /-- The stop asserts REG_DIS where it leaves REG IDLE (R323). -/
  stopDis : Bool := false
  /-- The output was above OVT and has not been below REL since (R321): the tick of it. -/
  ovt : Option Nat := none
  /-- Phases that start with the next turn-on of one that was ACTIVE before a load step (R320). -/
  join : List Nat := []
  /-- The phases that were ACTIVE before that load step. -/
  joinWith : List Nat := []
  /-- The tick of that load step. -/
  stepAt : Nat := 0
  /-- The thresholds as last computed (R308). -/
  peak : Int := 0
  valley : Int := 0
  /-- The codes that the threshold DACs had before, and the tick from which those of the thresholds are in force (R308). -/
  oldPeak : Int := 0
  oldValley : Int := 0
  codeAt : Nat := 0
  /-- The events of VCFG.CAD whose supervision instant is still to come (R317). -/
  events : List Nat := []
deriving DecidableEq, Repr

/-- One placed edge of a command ball: the switch index, the edge time in 1/32 ticks (R53) and the new level. -/
structure Edge where
  sw : Nat
  at32 : Nat
  level : Bool
deriving DecidableEq, Repr

/-- A ready hold of a leg (R278): the leg, the tick of its start, the tick at which its low side may turn off, and
whether it was extended because ready was still low. -/
structure ReadyHold where
  leg : Nat
  start : Nat
  until_ : Nat
  extended : Bool
deriving DecidableEq, Repr

/-- A change of a leg's command by its command source (R257, block 1): high side on, low side on or neither, at a time in 1/32 ticks. -/
structure LegCmd where
  leg : Nat
  at32 : Nat
  hi : Bool
  lo : Bool
deriving DecidableEq, Repr

/-- A time in which a refresh pulse or a ready hold commands a leg's low side on in place of its command (R257, block 2), in 1/32 ticks;
no end while a hold lasts. -/
structure LegOver where
  leg : Nat
  from32 : Nat
  to32 : Option Nat
deriving DecidableEq, Repr

/-- What of a stage's protection and balls no register shows (R257 to R279). -/
structure StageH where
  /-- The instant s of the turn-off under way (R267). -/
  start : Nat := 0
  /-- The ASC choice of the present turn-off (R268). -/
  asc : Bool := false
  /-- A trip episode is open (R264). -/
  episode : Bool := false
  /-- REACT.SEL0 was applied in the present episode (R275). -/
  reacted : Bool := false
  /-- The tick of the retry check that waits (R274). -/
  retryAt : Option Nat := none
  /-- A resume is scheduled for the next resume point: by a retry check (`some false`, R274), or by the clear of the
  latch (`some true`, R275), after which the stage resumes once it acts. -/
  resuming : Option Bool := none
  /-- The stamps of the trips that were granted a retry (R273). -/
  grants : List Nat := []
  /-- The SOFT ball as the turn-off commands it (R267); the mode gates it at the ball (R79). -/
  soft : Bool := false
  /-- The commands of the legs: the last ones and those to come, oldest first (R257, block 1). -/
  cmds : List LegCmd := []
  /-- The refresh pulses and ready holds that stand in their place (R257, block 2). -/
  overs : List LegOver := []
  /-- The resume point, before which no on-command counts (R274), in 1/32 ticks. -/
  since32 : Nat := 0
  /-- The edges that leave the overlap check, oldest first (R53, R257). -/
  edges : List Edge := []
  /-- The turn-ons that the overlap check blocked, as switch and time (R259). -/
  blocked : List (Nat × Nat) := []
  /-- The last turn-on of each switch before the balls were last cut, plus 1, keyed by switch (R265). -/
  lastOns : SMap Nat := []
  /-- The ready holds in progress (R278). -/
  holds : List ReadyHold := []
  /-- The ticks of the ready holds within the BOOTUV window (R279). -/
  holdTicks : List Nat := []
  /-- Consecutive carrier periods, or refresh periods, of unbroken high-side command, keyed by leg (R277). -/
  onPeriods : SMap Nat := []
deriving DecidableEq, Repr

/-- A mode transition in progress (R74, R77): the mode being entered, the mode after it, and its initiator (MODESTAT.ENTRY). -/
structure Trans where
  target : Nat
  after : Nat
  entry : Nat
deriving DecidableEq, Repr



/-- A run on a lane: the lane's working copy and the run's flags (R131 to R137). -/
structure PodRun where
  /-- The lane that holds the run. -/
  lane : Nat := 0
  /-- The index of the next micro-op. -/
  pc : Nat := 0
  /-- The working copy of the nodes (raw Q15). -/
  nodes : SMap Int := []
  /-- The working copy of the accumulators (raw Q9.30). -/
  accs : SMap Int := []
  /-- The gains loaded at run start: mantissa and shift (R137). -/
  gains : List (Int × Nat) := []
  /-- The flags of the last CMP (R146). -/
  lt : Bool := false
  eq : Bool := true
  gt : Bool := false
  /-- The sticky flags set in this run (R131, R146, R156). -/
  accSat : Bool := false
  stSat : Bool := false
  /-- The freeze of this run (R138). -/
  freeze : Bool := false
  /-- The tracking term that INTEG has not used up yet (R147, R203). -/
  track : Int := 0
  /-- Outputs written in this run, keyed by index, each with its pending word (R136). -/
  outs : List (Nat × Word) := []
  /-- The bank matched to the run (R40). -/
  bank : Nat := 0
  /-- The working set-point that stands for an input in this run: the index of I[SPIN] and the value (R181, R182). -/
  setp : Option (Nat × Int) := none
  /-- The stamp of the run's start (R133, BUSYT). -/
  started : Nat := 0
deriving DecidableEq, Repr

/-- A pod between its cadence event and its apply instant, and what persists of it that no register shows. -/
structure PodH where
  /-- The tick of the cadence event that started the pod, until its apply instant (R160). -/
  event : Option Nat := none
  /-- The pod has captured in this interval (R160). -/
  captured : Bool := false
  /-- The tick at which the pod became ready (R162). -/
  readyAt : Nat := 0
  /-- The freeze word taken at the capture was not zero (R138). -/
  freeze : Bool := false
  /-- The tracking term taken at the capture (R203). -/
  term : Int := 0
  /-- The bank matched to the run (R40). -/
  bank : Nat := 0
  /-- The run in progress. -/
  run : Option PodRun := none
  /-- The outputs that a run which reached END staged for the apply instant (R136). -/
  staged : Option (List (Nat × Word)) := none
  /-- The OVRLIM reaction was taken in the present series of overruns (R171). -/
  reacted : Bool := false
  /-- The last latch of each output counts for R196: outputs latched at least once since enable. -/
  latched : List Nat := []
  /-- The offsets do not fit the present interval (R61, R172). -/
  unfit : Bool := false
  /-- The ramp values staged by the capture, W and Rt, until END commits them (R184). -/
  rampW : Option (Int × Int) := none
  /-- The staged ramp came from a seed (R183). -/
  rampSeed : Bool := false
  /-- The next capture seeds the ramp, because of the enable, of an entry to RUN or of a SEED written since the last capture (R183). -/
  seedNext : Bool := true
  /-- The ramp's target as last captured, in units of W (R184, R186). -/
  rampT : Int := 0
  /-- The region decided at the capture, rx and ry, and whether the run start loads its gains (R190, R191). -/
  region : Option (Nat × Nat × Bool) := none
  /-- The bank that the last run with its schedule table present read (R190, R192). -/
  ranBank : Option Nat := none
deriving DecidableEq, Repr

/-- What of an armed scorebook no register shows (R219 to R225). -/
structure ScbH where
  /-- The region's first byte. -/
  base : Nat := 0
  /-- The words of a record, R. -/
  words : Nat := 0
  /-- The pre-trigger slots, P. -/
  pre : Nat := 0
  /-- SEQ of the next record. -/
  seq : Nat := 0
  /-- Samples since the last record; none before the first sample. -/
  since : Option Nat := none
  /-- The trigger tap's word at the previous sample. -/
  last : Option Int := none
  /-- Records made before the trigger, as far as P counts them. -/
  made : Nat := 0
  /-- Records still to make in state POST. -/
  left : Nat := 0
  /-- A record was lost since the last record written. -/
  gap : Bool := false
  /-- Occurrences of the trigger event at the arming. -/
  events : Nat := 0
  /-- The event of SCFG.CAD whose sample instant is still to come (R217). -/
  event : Option Nat := none
  /-- The sample instant of the last record of this arming. -/
  recAt : Nat := 0
deriving DecidableEq, Repr

/-- What of a traction stage no register shows (R230 to R248). -/
structure TracH where
  /-- The carrier period in force (R232); 0 while no valley has fallen. -/
  period : Nat := 0
  /-- The length of the present period, which TB's lock can make longer or shorter than the one in force (R232). -/
  len : Nat := 0
  /-- The next point of a running carrier, and whether it is a peak. -/
  next : Option Nat := none
  nextPeak : Bool := false
  /-- The tick of the last load point. -/
  loadAt : Option Nat := none
  /-- The duties of the last load point, of each set, which the stage applies in the half periods until the next; none outside
  RUN (R240). -/
  held : List (List (Int × Nat)) := []
  /-- The last load point chose six-step (R239). -/
  heldSix : Bool := false
  /-- The valley whose selection instant is still to come (R241). -/
  selFrom : Option Nat := none
  /-- The tick of the last latch of THETA (R237). -/
  thetaAt : Option Nat := none
  /-- The present series of load points with a low link word (R238). -/
  vdcLow : Bool := false
  /-- Consecutive failing valleys of the offset check (R235). -/
  offsetRun : Nat := 0
  /-- The present run of TB valleys at which the two periods differ (R232). -/
  syncBad : Bool := false
  /-- The tick of the last valley. -/
  valley : Nat := 0
  /-- FADE (R244). -/
  fade : Int := 32767
  /-- OBSERVER was reached by fallback (R244). -/
  fallback : Bool := false
  /-- Consecutive unlocked selection instants (R243). -/
  unlocked : Nat := 0
  /-- Consecutive locked selection instants since the entry to HOLD (R243). -/
  locked : Nat := 0
  /-- The tick of the last entry to HOLD, t0 (R246). -/
  holdAt : Nat := 0
  /-- A protection turn-off has fallen in the present HOLD, which stops its timing (R249). -/
  holdOff : Bool := false
  /-- The held speed (R246). -/
  heldSpeed : Int := 0
  /-- The selected angle from which the held angle is computed, and the tick of the valley it refers to (R246). -/
  heldFrom : Nat := 0
  heldTick : Nat := 0
  /-- The selected angle and speed of the last selection instant. -/
  lastAngle : Nat := 0
  lastSpeed : Int := 0
  /-- Consecutive diverging selection instants (R245). -/
  diverge : Nat := 0
  /-- The tick of the last sign change of TCUR0 in ASC (R248). -/
  signAt : Option Nat := none
deriving DecidableEq, Repr

/-- What of the link supervisor no register shows (R285 to R300). -/
structure LinkH where
  /-- The chopper comparator as last sampled: 0 inside its window, 1 above, 2 below (R288). -/
  level : Nat := 0
  /-- The tick of the last turn-on of the hysteretic command. -/
  onAt : Nat := 0
  /-- The tick of its last turn-off. -/
  offAt : Option Nat := none
  /-- The tick from which LONTIME is still to be counted (R289). -/
  countAt : Nat := 0
  /-- The switches the command drives: bit 0 BRK_G0, bit 1 BRK_G1. -/
  switches : Nat := 0
  /-- The switch that the next turn-on uses in alternate mode (R289). -/
  next : Nat := 0
  /-- No sample has been taken since the turn-on (R290). -/
  fresh : Bool := false
  /-- The slope test of this turn-on has passed. -/
  sloped : Bool := false
  /-- Consecutive low current samples. -/
  low : Nat := 0
  /-- The last VDC and PACK samples (R294). -/
  vdc : Int := 0
  pack : Int := 0
  /-- The tick of the precharge command, and of entry to its present state (R295). -/
  preAt : Nat := 0
  stateAt : Nat := 0
  /-- Consecutive in-window instants. -/
  inWindow : Nat := 0
  /-- The tick of entry to DISCHARGE; LDISDUR is still to be recorded (R298, R300). -/
  disAt : Nat := 0
  disTiming : Bool := false
  /-- The end of the discharge pulse in progress, and the tick of the next pulse of the chopper route (R299). -/
  pulseEnd : Option Nat := none
  nextPulse : Nat := 0
  /-- The events of LCFG.CAD whose supervision instant is still to come (R285). -/
  events : List Nat := []
deriving DecidableEq, Repr

/-- What of the pilot and proximity kernel no register shows (R335 to R338). -/
structure PilotH where
  /-- The tick of the last edge, and of the last rising edge of an oscillating pilot. -/
  edge : Nat := 0
  rise : Option Nat := none
  /-- The high time of the period in progress. -/
  high : Nat := 0
  /-- The tick of the last evaluation of a steady pilot. -/
  steady : Option Nat := none
  /-- The new candidate of the last evaluations, and how many agreed. -/
  cand : Nat := 0
  count : Nat := 0
  /-- The decode of the last proximity measurements, and how many agreed. -/
  pp : Nat := 0
  ppCount : Nat := 0
  /-- The tick of the next proximity measurement, one every 1 ms (R338). -/
  ppNext : Nat := 0
deriving DecidableEq, Repr

/-- A commutation with its soft window (R356): the instant, the window's length in ticks, the sectors before and after, and
whether the window starts at the instant (R367). -/
structure Commut where
  at_ : Nat
  ts : Nat
  from_ : Nat
  goal : Nat
  after : Bool
deriving DecidableEq, Repr

/-- What of a commutation kernel no register shows (R354 to R367). -/
structure KernH where
  /-- The tick of entry to ALIGN, BRAKE or CATCH. -/
  stateAt : Nat := 0
  /-- A STOP waits for the next load point (R360). -/
  stopping : Bool := false
  /-- The tick at which the last START completed (R101, R359). -/
  doneAt : Option Nat := none
  /-- The state before a trip (R366). -/
  before : Nat := 0
  /-- CATCH was entered at a resume point from ALIGN, RAMP or CLOSED (R366). -/
  restart : Bool := false
  /-- CATCH follows a loss (R368). -/
  lost : Bool := false
  /-- The commutation of the ramp, j, its instant and T60_j (R361). -/
  j : Nat := 0
  rampAt : Nat := 0
  t60j : Nat := 0
  /-- The bank of the ramp table (R40, R361). -/
  bank : Nat := 0
  /-- Consecutive valid crossings, and whether this sector has had one (R361). -/
  valid : Nat := 0
  validHere : Bool := false
  /-- The last crossing or Hall edge, real or synthetic (R362, R364, R367). -/
  cross : Option Nat := none
  /-- T60 has been set since the start (R367). -/
  timed : Bool := false
  /-- The last commutation and the one that is scheduled (R356). -/
  prev : Option Commut := none
  next : Option Commut := none
  /-- A commutation without softening waits for the next load point (R364). -/
  hard : Bool := false
  /-- The first load point of this sector at which the outgoing share was 0, and whether the detector is armed (R357). -/
  outZero : Option Nat := none
  armed : Bool := false
  /-- The crossings seen in CATCH, newest first: stamp and sector under DIR (R365). -/
  seen : List (Nat × Nat) := []
deriving DecidableEq, Repr

/-- What of a feedback channel no register shows (R374 to R391). -/
structure ChanH where
  /-- The filtered levels of IN0 to IN2, bit j for pair j (R374). -/
  levels : Nat := 0
  /-- The reported direction is −1 (R377). -/
  down : Bool := false
  /-- The count steps that the speed estimate needs, newest first: tick and whether the step was −1 (R386). -/
  steps : List (Nat × Bool) := []
  /-- The start of the window of illegal steps, and how many it holds (R376). -/
  illAt : Option Nat := none
  illN : Nat := 0
  /-- The events of CHLAT.CAD and of SSTRIG.CAD whose latch instant or frame start is still to come (R379, R384). -/
  latches : List Nat := []
  starts : List Nat := []
  /-- The SSI frame in progress: t0, POS at t0 (R379, R382). -/
  frame : Option (Nat × Int) := none
  /-- The frame in progress started before the last ALIGN (R392). -/
  frameOld : Bool := false
  /-- The data pair had a wire fault during the frame (R381). -/
  frameWire : Bool := false
  /-- The last rising clock edge of the last frame (R379). -/
  rise : Option Nat := none
  /-- The last two good frames since enable, newest first: t0 and SSI angle (R386, R387). -/
  good : List (Nat × Nat) := []
  /-- The emulation source signal has been written since enable (R391). -/
  emuWritten : Bool := false
  /-- The tick of the last emulated edge, and the lag limit is exceeded (R391). -/
  emuAt : Option Nat := none
  emuLag : Bool := false
deriving DecidableEq, Repr

/-- An item of a converter's queue (R402, R407): the converter that owns it, the slot (32 and 33 for urgent entries U0 and U1),
its due tick, its input code, its filter order at the trigger, and whether it is a check. -/
structure CvItem where
  owner : Nat
  slot : Nat
  due : Nat
  input : Nat
  fk : Nat
  check : Bool
deriving DecidableEq, Repr

/-- A conversion in progress (R405, R406): its item, its sampling instant, and whether it is invalid after a gain change. -/
structure CvConv where
  item : CvItem
  at_ : Nat
  invalid : Bool
deriving DecidableEq, Repr

/-- What of a converter no register shows (R401 to R413). -/
structure ConvH where
  /-- The last sampling instant. -/
  last : Option Nat := none
  /-- Triggers of each slot since queue start. -/
  trig : SMap Nat := []
  /-- The pending items of the converter's own slots and urgent entries, in the order of their triggers. -/
  due : List CvItem := []
  /-- The conversions in progress, oldest first. -/
  run : List CvConv := []
  /-- The filter of each slot: its order, and code, invalid and clip of its last conversions, newest first. -/
  filt : SMap (Nat × List (Int × Bool × Bool)) := []
  /-- The code of a check conversion whose partner's is still to come, and whether it clipped. -/
  code : Option (Int × Bool) := none
  /-- The last instant at which it sampled for its partner. -/
  covered : Option Nat := none
deriving DecidableEq, Repr

/-- A step of a sequencer whose actions run (R442): the actions still to run, each with its index in the action list; the
state and the transition it commits; its instant; whether it enters INIT; and the event occurrences at its snapshot. -/
structure SqRun where
  acts : List (Word × Word × Nat)
  target : Nat
  tr : Option Nat
  at_ : Nat
  entering : Bool
  marks : SMap Nat
  /-- The bank matched to the step (R40). -/
  bank : Nat := 0
deriving DecidableEq, Repr

/-- What of a sequencer no register shows (R440 to R443). -/
structure SqH where
  /-- The step in progress. -/
  run : Option SqRun := none
  /-- The entry tick of the present state; a state taken from a partner's frame may have been entered before tick 0 (R490). -/
  entry : Int := 0
  /-- The event occurrences at the snapshot from which the event latches restarted. -/
  marks : SMap Nat := []
  /-- Event latches that a rally frame set (R490), keyed as the occurrences are. -/
  latched : List Nat := []
  /-- The events of SQCFG.CAD whose trigger is still to come, and the occurrences of its trigger event that have had theirs (R441). -/
  events : List Nat := []
  taken : Nat := 0
deriving DecidableEq, Repr

/-- A loaded entry of a receive directory (R456, R457): its key, HOST, and its FMT table where FMTEN is 1. -/
structure CanObj where
  key : Nat
  host : Bool
  fmt : Option Nat
deriving DecidableEq, Repr

/-- What of a CAN controller no register shows (R457, R463 to R468). -/
structure CanH where
  /-- The loaded entries, object 0 first. -/
  objs : List CanObj := []
  /-- The buffer whose frame is on the bus (R463). -/
  sending : Option Nat := none
  /-- The host has aborted that buffer during its frame (R465). -/
  aborting : Bool := false
deriving DecidableEq, Repr



/-- What of a safe output no register shows (R532 to R537). -/
structure SoH where
  /-- The tick of the last change of its command. -/
  changed : Nat := 0
  /-- Consecutive samples that differ from the expected levels, and in a test consecutive samples that meet them. -/
  bad : Nat := 0
  good : Nat := 0
  /-- The test in progress: 0 none, 1 HS test, 2 gap, 3 LS test; and the start of its pulse or gap. -/
  phase : Nat := 0
  testAt : Nat := 0
  /-- A test is due, and the test period in which the last test fell due, counted from tick 0 (R534). -/
  due : Bool := false
  period : Nat := 0
  /-- The time of the last readback sample (R532). -/
  sampled : Option Nat := none
  /-- The test is part of the TESTALL that runs. -/
  batch : Bool := false
  /-- The last passing test, or the turn-on from which tests count (R537). -/
  ref : Option Nat := none
  /-- The tick of the last turn-off. -/
  offAt : Option Nat := none
deriving DecidableEq, Repr

/-- What of the safety function kernel no register shows (R522 to R528). -/
structure SfkH where
  /-- v of the last samples, newest first, at most 64. -/
  vs : List Nat := []
  /-- The ticks of the last sample and of the last evaluation (R522, R523). -/
  sampled : Option Nat := none
  evaluated : Option Nat := none
  /-- Consecutive samples with a discrepancy. -/
  disc : Nat := 0
  /-- The set to which DEC leads, and the end of DEC (R524). -/
  decTo : Nat := 4
  decEnd : Nat := 0
  /-- SS1: the tick of its request and the limit of the ramp (R525). -/
  ss1At : Nat := 0
  ramp : Int := 0
  /-- The next sample captures SDIREF (R526). -/
  sdiWait : Bool := false
  /-- Functions in violation: bit 0 SLS, 1 SDI, 2 SLP, 3 SS1. -/
  viol : Nat := 0
  /-- A source of an active function was invalid at the last sample. -/
  srcBad : Bool := false
deriving DecidableEq, Repr

/-- What of a cadence generator no register shows (R55 to R58): the configuration taken at its start, its start t0, the
interval in force of a free generator, the ticks at which events are due, the carrier points counted since the last event,
and whether a selected carrier has been seen to run. -/
structure CadH where
  slaved : Bool := false
  src : Nat := 0
  peak : Bool := false
  div : Nat := 0
  phase : Nat := 0
  start : Nat := 0
  interval : Nat := 0
  due : List Nat := []
  count : Nat := 0
  carrier : Bool := false
  /-- The interval that the last event began. -/
  last : Nat := 0
deriving DecidableEq, Repr

/-- What of a thermal slot no register shows (R551 to R556, R562): the sums of h·|raw|, h·raw² and n·|raw|·rawV since the
last thermal instant, the four element temperatures in 2^-16 LSB, the present extremum and direction, the stack of
turning points, newest first, and the cycle words that wait for a rally frame, oldest first. -/
structure ThmH where
  a1 : Int := 0
  a2 : Int := 0
  a3 : Int := 0
  temp : List Int := [0, 0, 0, 0]
  x : Option Int := none
  up : Option Bool := none
  stack : List Int := []
  queue : List Word := []
  /-- The tick of the last loss instant (R551). -/
  lossAt : Option Nat := none
deriving DecidableEq, Repr



/-- What of the pair no register shows (R478 to R506). -/
structure PairH where
  /-- The last message sent, four words (R483). -/
  sent : List Word := []
  /-- The tick of the next heartbeat (R484). -/
  hbAt : Nat := 0
  /-- The last sync sent: the stage and the tick of its valley (R485). -/
  sync : Option (Nat × Nat) := none
  /-- The tick at which the device last took the serve (R506). -/
  tookAt : Nat := 0
  /-- The number of the next frame sent. -/
  txNum : Nat := 0
  /-- Word 0 of the partner's last valid message; one has arrived since the device reset (R501). -/
  msg : Word := 0
  heard : Bool := false
  /-- The arrival of the last valid word, and the partner has been found silent since (R484). -/
  lastWord : Nat := 0
  silent : Bool := false
  /-- The partner's TBCNT[31:0] added to this number is the own TBCNT[31:0] (R485). -/
  shift : Option Nat := none
  /-- The next accepted frame is a resynchronising one that raises no event (R489). -/
  resync : Bool := true
  /-- The UNITS record of the last applied frame (R490), its capture tick and its apply tick. -/
  units : List Word := []
  capAt : Nat := 0
  appliedAt : Option Nat := none
  /-- Consecutive frames whose arena records differ, keyed by arena (R492). -/
  arnDiff : SMap Nat := []
  /-- TAKING: trigger, tick of recognition, trigger instant (R494, R496). -/
  take : Option (Nat × Nat × Nat) := none
  /-- The guard of the takeover is over (R496). -/
  guardOver : Bool := false
  /-- The device has withdrawn from a contention in DISCHARGE: its balls stay low (R501). -/
  withdrawn : Bool := false
  /-- The standby has taken an OFFER and takes the serve at its tick V (R499). -/
  offerV : Option Nat := none
  /-- RELEASING until V (R499). -/
  release : Option Nat := none
  /-- The contention in progress began at this tick (R501). -/
  cont : Option Nat := none
  /-- The arrival of the last CLAIM or message that showed TOKEN, and the SVSEQ it showed (R501). -/
  claimAt : Option (Nat × Nat) := none
  /-- The swap drill: 0 none; holder: 1 handing over, 2 the partner is under test; tested partner: 3 handing back (R506). -/
  drill : Nat := 0
  /-- TAKEOVER_ARM before the drill. -/
  armBefore : Word := 0
  /-- The device declares FLT: it has RBFAIL, or has failed a drill (R483, R506). -/
  flt : Bool := false
  /-- The tick at which this device last passed as the tested partner (R509, DRELAPSE). -/
  passedAt : Option Nat := none
deriving DecidableEq, Repr

/-- The opcodes (R116). -/
inductive Op where
  | read
  | write
  | writem
  | nop
  | undef (code : Nat)
deriving DecidableEq, Repr

/-- The outcome of a frame's words so far: what they read, latest first, the first word refused or ignored, and the two flags. -/
structure FrameRun where
  words : List Word := []
  first : Option Nat := none
  refused : Bool := false
  lockwr : Bool := false
deriving DecidableEq, Repr

/-- A burst whose words are not all ordered yet (R104): the frame, its payload, the next word and the outcome so far. -/
structure Burst where
  op : Op
  frame : HFrame
  payload : List Word
  next : Nat
  run : FrameRun
deriving DecidableEq, Repr

/-- What of an H-Link port no register shows (R104, R107, R119, R121). -/
structure PortH where
  /-- SEQ, request CRC and response of the last frame executed with SEQ other than 0 (R121). -/
  stored : Option (Nat × Word × List Byte) := none
  /-- The bytes of the last response sent: start byte, status word, data words, CRC (R119); none where it was discarded (R122). -/
  resp : List Byte := []
  /-- The burst in progress (R104). -/
  burst : Option Burst := none
  /-- The word that the last single access read, and the outcome of the last single access: 0 good, 1 REFUSED, 2 LOCKWR, 3 ALIGN,
  4 ADDR. -/
  word : Word := 0
  stat : Nat := 0
  /-- The address of a HI word and the value latched for it by the read of its LO word in the present frame (R107, R155). -/
  latch : Option (Nat × Word) := none
deriving DecidableEq, Repr

/-- The whole state of the block. -/
structure State where
  /-- The commands that wait, first in, first out. -/
  pending : List Instr
  /-- The count of ticks, of which TBCNT is the low 64 bits (R50). -/
  tick : Nat
  /-- The time that the RC oscillator has reached while lock is lost, in ticks, from the tick at which it was lost (R52). -/
  rc : Nat
  /-- The tick of the last recalibration of the interpolators, the stages per tick before it, and the stages per tick that
  each stage's interpolators use, keyed by stage (R54). -/
  dlAt : Option Nat
  dlPrev : Nat
  dlStage : SMap Nat
  /-- The register words, keyed by word address; an absent address holds its reset word (R88, R94 and the register
  tables), and the signal values and directory entries are among them (R27). -/
  regs : SMap Word
  /-- The pool and table memory (R33, R39), keyed by byte address. -/
  mem : List Host.Cell
  /-- Signals whose stored parity bit is wrong (R32), ascending. -/
  badParity : List Nat
  /-- In BRV-5210 status mode, the tick after the last occurrence of each held COR field (R98), keyed by address * 32 + bit. -/
  holds : SMap Nat
  /-- How often each event has occurred, keyed by page * 32 + event bit (R225, R431, R441). -/
  evSeen : SMap Nat
  /-- The tick of the last occurrences, and how many each event had on it: a trigger falls on the tick after (R441). -/
  evNow : Nat × SMap Nat
  /-- The event balls in the high pulse of R127: bit x for nEVTx. -/
  pulse : Nat
  /-- The model's own counter of free values drawn (not the spec's). -/
  freeCtr : Nat
  /-- How far the boot of R587 has come: reset asserted, waiting for the reference, waiting for PLL lock, initialising memory, or in CONFIG and after. -/
  boot : Boot
  /-- A power-on reset has not yet been followed by a whole boot: the memories are still to be initialised (R587, R593). -/
  porBoot : Bool
  /-- The reference of this boot became valid more than 10 ms after the release (R587). -/
  refLate : Bool
  /-- What of the converter no register shows (R308 to R323). -/
  conv : RegH
  /-- What of each phase of the converter no register shows, keyed by phase number. -/
  convPhases : SMap PhaseH
  /-- Pages of units whose own enable check failed at their enable: they stay at readiness STARTING and their work does not start (R14, R229, R259, R285, R315). -/
  failedCheck : List Nat
  /-- The protection state of each stage (R264 to R279), keyed by stage number. -/
  stages : SMap StageH
  /-- The protection sources that are active now: comparators, switch returns and group returns (R255, R260). -/
  srcActive : List Src
  /-- The raw output of each window comparator, inside (0), above (1) or below (2), whether or not its group reports it (R414). -/
  cmpRaw : SMap Nat
  /-- Legs whose driver-ready ball is low, as stage * 8 + leg (R255, R278). -/
  notReady : List Nat
  /-- The stage, converter, charger and actuator quantities as last updated, keyed by stage * 16 + index; PPX, SESS and the other fixed-function sources follow under their WINST (R216, R251, R252). -/
  qty : SMap Word
  /-- Units whose outputs a HOLD (1) or ZERO (2) reaction holds, keyed by page (R92). -/
  outHold : SMap Nat
  /-- The mode transition in progress (R77). -/
  trans : Option Trans
  /-- The mode that follows DISCHARGE: the AFTER of the command (R71, R74). -/
  afterDis : Nat
  /-- DORMANT was entered from READY (R71). -/
  fromReady : Bool
  /-- SAFE-HOLD was entered from RUN or DISCHARGE with the serve held, and the device has not released the serve since (R476). -/
  authKeep : Bool
  /-- The pilots that the present precharge switched on: bit 0 NEG, bit 1 POS (R293, R296). -/
  preOn : Nat
  /-- The tick at which REG_DIS last asserted (R323). -/
  regDisAt : Nat
  /-- Symbols in error in the three memories (R568, R571): key codeword number * 37 + symbol, value the difference from the symbol stored; codewords are numbered pod state memory first, then table memory, then the pool (R569, R575). -/
  flips : SMap Byte
  /-- Codewords that an uncorrectable decode has found and no full write has replaced (R572, R573), ascending. -/
  uncorr : List Nat
  /-- Corrections within the present scrub pass (R575). -/
  passCorr : Nat
  /-- The tick at which the present scrub pass began (R580, PASSDUR). -/
  passStart : Nat
  /-- Each pod between its instants, keyed by pod number (R131 to R139, R160, R182 to R204, R208 to R213). -/
  pods : SMap PodH
  /-- The pods of the ready set (R160, R162), in the order in which they became ready. -/
  ready : List Nat
  /-- Stage references as last latched, keyed by stage * 256 + index (R41, R136). -/
  refs : SMap Word
  /-- The pod output bound to each stage reference, as pod * 8 + output + 1, keyed by stage * 256 + index; 0 none (R25, R136). -/
  refOwner : SMap Nat
  /-- The tracking terms of the last arena decisions, keyed by pod (R202). -/
  terms : SMap Int
  /-- The index that each arena published at its last decision, plus 2, keyed by arena; 0 none since it became enabled (R200). -/
  arenaPrev : SMap Nat
  /-- Competitors whose TYPE error has been reported, as arena * 8 + competitor (R196). -/
  typeSeen : List Nat
  /-- The lane that the next rotation tick tests (R174). -/
  rotNext : Nat
  /-- Lanes whose effective enable has been 0 in the present rotating modes, and which no rotation tick has returned to dispatch since (R625). -/
  laneAway : List Nat
  /-- Lanes that were out of service at a configuration reset and have passed no test since (R177, R584). -/
  laneBad : List Nat
  /-- The tick at which the lane test in progress began (R176, STDUR). -/
  testAt : Nat
  /-- The tick of the last host register writes, and their word addresses (R101). -/
  wrote : Nat × List Nat
  /-- The tick of the last hardware updates that meet host writes by R101, and what they updated: word addresses of counters and of hardware-updated fields, pending bits as 0x1000000 + source, faults as 0x2000000 + page, an event ball whose last pending
  source was cleared as 0x3000000 + ball (R128). -/
  updated : Nat × List Nat
  /-- What of each scorebook no register shows, keyed by its number. -/
  books : SMap ScbH
  /-- What of TA (0) and TB (1) no register shows; of the carriers of OBA (3), OBD (4) and AC0 to AC2 (5 to 7) the period and the valley (R331, R350). -/
  trac : SMap TracH
  /-- What of the link supervisor no register shows. -/
  link : LinkH
  /-- The link was found discharged, and the transition to the mode after DISCHARGE is to complete (R74, R298). -/
  discharged : Bool
  /-- What of the pilot and proximity kernel no register shows. -/
  pilot : PilotH
  /-- What of each commutation kernel no register shows, keyed by its number. -/
  kern : SMap KernH
  /-- What of each feedback channel no register shows, keyed by its number. -/
  chans : SMap ChanH
  /-- What of each converter no register shows, keyed by its number. -/
  convs : SMap ConvH
  /-- Conversions of each external input that are still invalid after a change of its gain (R406). -/
  gainInv : SMap Nat
  /-- A calibration has failed in the present CALIBRATE mode (R71, R409). -/
  calFailed : Bool
  /-- What of each sequencer no register shows, keyed by its number. -/
  seqs : SMap SqH
  /-- What of each CAN controller no register shows, keyed by its number. -/
  cans : SMap CanH
  /-- The events of MAPAm.CAD whose evaluation is still to come, keyed by evaluator (R428). -/
  mapDue : SMap (List Nat)
  /-- The pending bank switch waits for this cadence, TBCTL.CAD as it was at the request (R438). -/
  switchCad : Nat
  /-- The bank that the running check checks: CBANK at its CHECK (R436). -/
  checkBankNo : Nat
  /-- What of each safe output no register shows, keyed by its number. -/
  souts : SMap SoH
  /-- The TESTALL that runs has had a failing test (R534). -/
  testFail : Bool
  /-- What of the safety function kernel no register shows. -/
  sfk : SfkH
  /-- A filtered STO input is low and requests STO (R517). Before the first change of an input after a reset none does. -/
  stoIn : Bool
  /-- The SOFT balls are forced high by STO, and the time at which that began (R517). -/
  stoSoft : Bool
  stoSoftAt : Nat
  /-- An input was low in DORMANT D4 (R517). -/
  stoD4 : Bool
  /-- The tick at which the STO inputs began to differ (R519). -/
  stoDiff : Nat
  /-- A discrepancy of the STO inputs has been found, and they have not agreed at high since (R519). -/
  stoDisc : Bool
  /-- Router sources of the units whose reactions set cause UNIT (R512). -/
  shUnits : List Nat
  /-- The ticks from which the bits of DGSTAT.LOSS have been set, keyed by bit (R537). -/
  lossAt : SMap Nat
  /-- Consecutive failing windows of the timebase monitor, and the tick at which the present window began (R535). -/
  tbBad : Nat
  tbWin : Nat
  /-- VCORE in mV as last filtered (R66). -/
  vcore : Nat
  /-- The last signature check found a mismatch (R512, R578). -/
  sigBad : Bool
  /-- What of each cadence generator no register shows, keyed by its number. -/
  cads : SMap CadH
  /-- What of each thermal slot no register shows, keyed by its number. -/
  slots : SMap ThmH
  /-- The tick at which the next thermal instant is due (R553), and the interval that its cadence's event began. -/
  thermDue : Option (Nat × Nat)
  /-- The next codeword that the scrubber reads, in the order of its pass (R575). -/
  scrubNext : Nat
  /-- The multiple of 2,600 ticks of the last scrub read since the pass sequence began. -/
  scrubAt : Option Nat
  /-- What of the pair no register shows. -/
  pair : PairH
  /-- Pod records of rally frames that wait for their pod's next capture (R490), keyed by pod: the header word and what follows it. -/
  podRecs : SMap (List Word)
  /-- What of the H-Link ports no register shows, keyed by port (R113 to R123). -/
  ports : SMap PortH
  /-- The locking of every page by LOCKALL is in progress (R100). -/
  lockBusy : Bool
  /-- The mailbox capture in progress: the captured value, none where ADDR names no wide value (R112). -/
  mbxCap : Option (Option Nat)
  /-- A write of RSTCMD has asked for a device reset, which comes when its frame ends (R582). -/
  swReset : Bool
deriving DecidableEq, Repr

/-- Why a step can stop with a fault. No meaning of this model raises one: the spec gives the block no stop. -/
inductive Fault where
  /-- Never raised; the block goes on after every command (safe). -/
  | none
deriving DecidableEq, Repr

/-- Why a step can be refused. -/
inductive Refusal where
  /-- A command that has no meaning yet, named by its mnemonic (safe). -/
  | notModelled (mnemonic : String)
  /-- An access to the test pages while test access is on (R85, R86): the spec gives their contents nowhere (safe). Raised by the
  accesses of `Access.lean` and `HostRows.lean` and the frames of `Frames.lean`. -/
  | testPages
deriving DecidableEq, Repr

/-- The block right after a device reset by POR with every strap low: every register at its reset value, CONFIG entered
by a reset (R587), and no command waiting. -/
def State.reset : State where
  pending := []
  tick := 0
  rc := 0
  dlAt := none
  dlPrev := 0
  dlStage := []
  regs := [(0xC0, 0x30111#32), (0xF0, 1#32)]
  mem := []
  badParity := []
  holds := []
  evSeen := []
  evNow := (0, [])
  pulse := 0
  freeCtr := 0
  boot := .reference
  porBoot := true
  refLate := false
  conv := {}
  convPhases := []
  failedCheck := []
  stages := []
  srcActive := []
  cmpRaw := []
  notReady := []
  qty := []
  outHold := []
  trans := none
  afterDis := 0
  fromReady := false
  authKeep := false
  preOn := 0
  regDisAt := 0
  flips := []
  uncorr := []
  passCorr := 0
  passStart := 0
  pods := []
  ready := []
  refs := []
  refOwner := []
  terms := []
  arenaPrev := []
  typeSeen := []
  rotNext := 0
  laneAway := []
  laneBad := []
  testAt := 0
  wrote := (0, [])
  updated := (0, [])
  books := []
  trac := []
  link := {}
  discharged := false
  pilot := {}
  kern := []
  chans := []
  convs := []
  gainInv := []
  calFailed := false
  seqs := []
  cans := []
  mapDue := []
  switchCad := 0
  checkBankNo := 0
  souts := []
  testFail := false
  sfk := {}
  stoIn := false
  stoSoft := false
  stoSoftAt := 0
  stoD4 := false
  stoDiff := 0
  stoDisc := false
  shUnits := []
  lossAt := []
  tbBad := 0
  tbWin := 0
  vcore := 750
  sigBad := false
  cads := []
  slots := []
  thermDue := none
  scrubNext := 0
  scrubAt := none
  pair := {}
  podRecs := []
  ports := []
  lockBusy := false
  mbxCap := none
  swReset := false

end Sys2Proof.Machine
end

