-- ==== Sys2Proof/Machine/Field.lean ====
section
/-!
DEFINITION. Register fields, field kinds (R94) and the rows of a register table, with the functions that find a
register's row by its offset in a page and read the fields and the reset word off it.
-/

namespace Sys2Proof.Machine

/-- A field of a page: the offset of its register, its lowest bit and its width in bits. -/
structure Fld where
  off : Nat
  lo : Nat
  w : Nat
deriving DecidableEq, Repr

/-- The field kinds of R94. `ext` is an RO field that reads as the sign extension of the bit below it. -/
inductive FKind where
  | rw | rwl | ro | wo | w1s | w1c | cor | lv | cnt | cmd | ext
deriving DecidableEq, Repr

/-- One field of a register-table row: lowest bit, width, kind and reset value. -/
structure FieldSpec where
  lo : Nat
  w : Nat
  kind : FKind
  reset : Nat
deriving DecidableEq, Repr

/-- One register-table row: `n1` copies `s1` bytes apart of `n2` copies `s2` bytes apart, from offset `off`. -/
structure RegRow where
  off : Nat
  n1 : Nat
  s1 : Nat
  n2 : Nat
  s2 : Nat
  fields : List FieldSpec
deriving DecidableEq, Repr

/-- Does the row hold a register at offset `o`? -/
def RegRow.hits (r : RegRow) (o : Nat) : Bool :=
  r.off ≤ o && (o - r.off) / r.s1 < r.n1 && ((o - r.off) % r.s1) / r.s2 < r.n2 &&
    ((o - r.off) % r.s1) % r.s2 = 0

/-- The fields of the register at offset `o` of a page with these rows; none where the page lists no register there,
which then reads as 0 and ignores writes (R96). -/
def fieldsIn : List RegRow → Nat → List FieldSpec
  | [], _ => []
  | r :: rs, o => if r.hits o then r.fields else fieldsIn rs o

/-- Does any row of the page list a register at offset `o`? -/
def listedIn : List RegRow → Nat → Bool
  | [], _ => false
  | r :: rs, o => r.hits o || listedIn rs o

/-- The mask of a field in its word. -/
def fieldMask (lo w : Nat) : Word := BitVec.ofNat 32 ((2 ^ w - 1) * 2 ^ lo)

/-- The mask of all the fields of one kind in a register. -/
def kindMask (k : FKind) : List FieldSpec → Word
  | [] => 0
  | f :: fs => if f.kind = k then fieldMask f.lo f.w ||| kindMask k fs else kindMask k fs

/-- The reset word that the field resets of a register make together. -/
def resetOf : List FieldSpec → Word
  | [] => 0
  | f :: fs => BitVec.ofNat 32 (f.reset * 2 ^ f.lo) ||| resetOf fs

/-- The value of a field of a word. -/
def Fld.get (f : Fld) (x : Word) : Nat := x.toNat / 2 ^ f.lo % 2 ^ f.w

/-- A word with a field replaced; bits of `v` above the field's width are dropped. -/
def Fld.put (f : Fld) (x : Word) (v : Nat) : Word :=
  (x &&& ~~~ fieldMask f.lo f.w) ||| BitVec.ofNat 32 (v % 2 ^ f.w * 2 ^ f.lo)

/-- The signed value of a two's-complement number of `w` bits. -/
def signed (w v : Nat) : Int :=
  if 2 ^ (w - 1) ≤ v % 2 ^ w then (v % 2 ^ w : Nat) - (2 ^ w : Nat) else (v % 2 ^ w : Nat)

/-- The `w`-bit two's-complement pattern of an integer. -/
def unsigned (w : Nat) (v : Int) : Nat := (v % (2 ^ w : Nat)).toNat

/-- Fill the `ext` fields of a register with the bit below them. -/
def extend : List FieldSpec → Word → Word
  | [], x => x
  | f :: fs, x =>
    if f.kind = .ext then
      extend fs (if x.getLsbD (f.lo - 1) then x ||| fieldMask f.lo f.w else x &&& ~~~ fieldMask f.lo f.w)
    else extend fs x

end Sys2Proof.Machine
end

