-- ==== Sys2Proof/Machine/RegMapCore.lean ====
section
/-!
DEFINITION. The register map, part 1: the common header, the SYS, HLK, LEN, SCB and POOL families and the mailbox.
Each `<page>_<REGISTER>_<FIELD>` names one field by its offset in the page, its lowest bit and its width,
and each `<page>Rows` lists the registers of a page with the kind (R94) and the reset value of every field,
as the register tables of the rules named in front of it give them.
-/

namespace Sys2Proof.Machine

/-! `hdr` page: the register tables under R88 of spec/04_register_conventions.md. -/

def hdr_UID_SHELL : Fld := ⟨0x0, 31, 1⟩
def hdr_UID_FAMILY : Fld := ⟨0x0, 26, 5⟩
def hdr_UID_KIND : Fld := ⟨0x0, 20, 6⟩
def hdr_UID_INST : Fld := ⟨0x0, 8, 12⟩
def hdr_UID_VER : Fld := ⟨0x0, 0, 8⟩
def hdr_UDIR_LEVEL : Fld := ⟨0x4, 29, 3⟩
def hdr_UDIR_PARENT : Fld := ⟨0x4, 12, 12⟩
def hdr_UDIR_COUNT : Fld := ⟨0x4, 0, 5⟩
def hdr_USTAT_FSUM : Fld := ⟨0x8, 31, 1⟩
def hdr_USTAT_OWNF : Fld := ⟨0x8, 30, 1⟩
def hdr_USTAT_STATE : Fld := ⟨0x8, 16, 8⟩
def hdr_USTAT_LOSTUPD : Fld := ⟨0x8, 4, 1⟩
def hdr_USTAT_READY : Fld := ⟨0x8, 0, 2⟩
def hdr_UCTL_LOCK : Fld := ⟨0xC, 31, 1⟩
def hdr_UCTL_FCLR : Fld := ⟨0xC, 2, 1⟩
def hdr_UCTL_URST : Fld := ⟨0xC, 1, 1⟩
def hdr_UCTL_EN : Fld := ⟨0xC, 0, 1⟩
def hdr_EVSTAT_EV : Fld := ⟨0x10, 0, 32⟩
def hdr_EVMASK_EN : Fld := ⟨0x14, 0, 32⟩
def hdr_EVROUTE_VEC : Fld := ⟨0x18, 0, 6⟩
def hdr_FAULTCODE_VALID : Fld := ⟨0x1C, 31, 1⟩
def hdr_FAULTCODE_NUM : Fld := ⟨0x1C, 16, 8⟩
def hdr_FAULTCODE_CODE : Fld := ⟨0x1C, 0, 16⟩
def hdr_REACT_SEL : Fld := ⟨0x20, 0, 32⟩
def hdr_STAMP_TICKS : Fld := ⟨0x24, 0, 32⟩

/-- The registers of the `hdr` page (R88 of spec/04_register_conventions.md). -/
def hdrRows : List RegRow := [
  ⟨0x0, 1, 4, 1, 1, [⟨31, 1, .ro, 0⟩, ⟨26, 5, .ro, 0⟩, ⟨20, 6, .ro, 0⟩, ⟨8, 12, .ro, 0⟩, ⟨0, 8, .ro, 0xB0⟩]⟩,
  ⟨0x4, 1, 4, 1, 1, [⟨29, 3, .ro, 0⟩, ⟨12, 12, .ro, 0⟩, ⟨0, 5, .ro, 0⟩]⟩,
  ⟨0x8, 1, 4, 1, 1, [⟨31, 1, .lv, 0⟩, ⟨30, 1, .lv, 0⟩, ⟨16, 8, .lv, 0⟩, ⟨4, 1, .cor, 0⟩, ⟨0, 2, .lv, 0⟩]⟩,
  ⟨0xC, 1, 4, 1, 1, [⟨31, 1, .w1s, 0⟩, ⟨2, 1, .cmd, 0⟩, ⟨1, 1, .cmd, 0⟩, ⟨0, 1, .rw, 0⟩]⟩,
  ⟨0x10, 1, 4, 1, 1, [⟨0, 32, .cor, 0⟩]⟩,
  ⟨0x14, 1, 4, 1, 1, [⟨0, 32, .rw, 0⟩]⟩,
  ⟨0x18, 1, 4, 1, 1, [⟨0, 6, .rwl, 0⟩]⟩,
  ⟨0x1C, 1, 4, 1, 1, [⟨31, 1, .cor, 0⟩, ⟨16, 8, .cor, 0⟩, ⟨0, 16, .cor, 0⟩]⟩,
  ⟨0x20, 1, 4, 1, 1, [⟨0, 32, .rwl, 0x44444444⟩]⟩,
  ⟨0x24, 1, 4, 1, 1, [⟨0, 32, .ro, 0⟩]⟩]

/-! `sys` page: the register tables under R84 of spec/03_modes_power.md, R99 of spec/04_register_conventions.md, R594 of spec/24_reset_startup.md. -/

def sys_MODESTAT_ENTRY : Fld := ⟨0xC0, 16, 2⟩
def sys_MODESTAT_VARIANT : Fld := ⟨0xC0, 12, 3⟩
def sys_MODESTAT_PREV : Fld := ⟨0xC0, 8, 4⟩
def sys_MODESTAT_TRANS : Fld := ⟨0xC0, 4, 1⟩
def sys_MODESTAT_MODE : Fld := ⟨0xC0, 0, 4⟩
def sys_MODECMD_GO : Fld := ⟨0xC4, 31, 1⟩
def sys_MODECMD_FROM : Fld := ⟨0xC4, 8, 4⟩
def sys_MODECMD_AFTER : Fld := ⟨0xC4, 4, 4⟩
def sys_MODECMD_TARGET : Fld := ⟨0xC4, 0, 4⟩
def sys_MODERES_DONE : Fld := ⟨0xC8, 31, 1⟩
def sys_MODERES_REFUSED : Fld := ⟨0xC8, 30, 1⟩
def sys_MODERES_ABORTED : Fld := ⟨0xC8, 29, 1⟩
def sys_MODERES_CAUSE : Fld := ⟨0xC8, 0, 4⟩
def sys_WAKE_BUDGET_US : Fld := ⟨0xCC, 0, 16⟩
def sys_MODESTAMP_STAMP : Fld := ⟨0xD0, 0, 32⟩
def sys_CFG_STMODE : Fld := ⟨0xE0, 0, 1⟩
def sys_LOCKALL_ALL : Fld := ⟨0xE4, 0, 1⟩
def sys_ACCERR_ERR : Fld := ⟨0xE8, 31, 1⟩
def sys_ACCERR_CAUSE : Fld := ⟨0xE8, 28, 3⟩
def sys_ACCERR_PORT : Fld := ⟨0xE8, 24, 1⟩
def sys_ACCERR_ADDR : Fld := ⟨0xE8, 2, 22⟩
def sys_RSTSTAT_MEMKEPT : Fld := ⟨0xF0, 8, 1⟩
def sys_RSTSTAT_CAUSE : Fld := ⟨0xF0, 0, 2⟩
def sys_STRAPS_TMODE : Fld := ⟨0xF4, 2, 1⟩
def sys_STRAPS_PRI : Fld := ⟨0xF4, 1, 1⟩
def sys_STRAPS_REFCLK : Fld := ⟨0xF4, 0, 1⟩
def sys_RSTCMD_KEY : Fld := ⟨0xF8, 16, 16⟩
def sys_RSTCMD_DEV : Fld := ⟨0xF8, 0, 1⟩

/-- The registers of the `sys` page (R84 of spec/03_modes_power.md, R99 of spec/04_register_conventions.md, R594 of spec/24_reset_startup.md). -/
def sysRows : List RegRow := [
  ⟨0xC0, 1, 4, 1, 1, [⟨16, 2, .ro, 3⟩, ⟨12, 3, .ro, 0⟩, ⟨8, 4, .ro, 1⟩, ⟨4, 1, .lv, 0⟩, ⟨0, 4, .lv, 1⟩]⟩,
  ⟨0xC4, 1, 4, 1, 1, [⟨31, 1, .cmd, 0⟩, ⟨8, 4, .rw, 0⟩, ⟨4, 4, .rw, 0⟩, ⟨0, 4, .rw, 0⟩]⟩,
  ⟨0xC8, 1, 4, 1, 1, [⟨31, 1, .cor, 0⟩, ⟨30, 1, .cor, 0⟩, ⟨29, 1, .cor, 0⟩, ⟨0, 4, .cor, 0⟩]⟩,
  ⟨0xCC, 1, 4, 1, 1, [⟨0, 16, .rw, 0⟩]⟩,
  ⟨0xD0, 1, 4, 1, 1, [⟨0, 32, .ro, 0⟩]⟩,
  ⟨0xE0, 1, 4, 1, 1, [⟨0, 1, .rwl, 0⟩]⟩,
  ⟨0xE4, 1, 4, 1, 1, [⟨0, 1, .w1s, 0⟩]⟩,
  ⟨0xE8, 1, 4, 1, 1, [⟨31, 1, .cor, 0⟩, ⟨28, 3, .cor, 0⟩, ⟨24, 1, .cor, 0⟩, ⟨2, 22, .cor, 0⟩]⟩,
  ⟨0xF0, 1, 4, 1, 1, [⟨8, 1, .ro, 0⟩, ⟨0, 2, .ro, 0⟩]⟩,
  ⟨0xF4, 1, 4, 1, 1, [⟨2, 1, .ro, 0⟩, ⟨1, 1, .ro, 0⟩, ⟨0, 1, .ro, 0⟩]⟩,
  ⟨0xF8, 1, 4, 1, 1, [⟨16, 16, .wo, 0⟩, ⟨0, 1, .wo, 0⟩]⟩]

/-! `tb` page: the register tables under R52 of spec/02_timing_model.md. -/

def tb_TBCFG_REFSRC : Fld := ⟨0x40, 0, 1⟩
def tb_TBSTAT_DLCAL : Fld := ⟨0x44, 2, 1⟩
def tb_TBSTAT_LOCKLOST : Fld := ⟨0x44, 1, 1⟩
def tb_TBSTAT_LOCK : Fld := ⟨0x44, 0, 1⟩
def tb_TBCNTLO_COUNT : Fld := ⟨0x48, 0, 32⟩
def tb_TBCNTHI_COUNT : Fld := ⟨0x4C, 0, 32⟩
def tb_DLSTAT_CALCNT : Fld := ⟨0x50, 16, 16⟩
def tb_DLSTAT_STAGES : Fld := ⟨0x50, 0, 8⟩

/-- The registers of the `tb` page (R52 of spec/02_timing_model.md). -/
def tbRows : List RegRow := [
  ⟨0x40, 1, 4, 1, 1, [⟨0, 1, .rwl, 0⟩]⟩,
  ⟨0x44, 1, 4, 1, 1, [⟨2, 1, .lv, 0⟩, ⟨1, 1, .cor, 0⟩, ⟨0, 1, .lv, 0⟩]⟩,
  ⟨0x48, 1, 4, 1, 1, [⟨0, 32, .ro, 0⟩]⟩,
  ⟨0x4C, 1, 4, 1, 1, [⟨0, 32, .ro, 0⟩]⟩,
  ⟨0x50, 1, 4, 1, 1, [⟨16, 16, .cnt, 0⟩, ⟨0, 8, .ro, 0⟩]⟩]

/-! `cadsh` page: the register tables under R60 of spec/02_timing_model.md. -/

def cadsh_SYNCSTART_MASK : Fld := ⟨0x80, 0, 16⟩
def cadsh_SYNCSTOP_MASK : Fld := ⟨0x84, 0, 16⟩
def cadsh_RUNNING_CAD : Fld := ⟨0x88, 0, 16⟩

/-- The registers of the `cadsh` page (R60 of spec/02_timing_model.md). -/
def cadshRows : List RegRow := [
  ⟨0x80, 1, 4, 1, 1, [⟨0, 16, .cmd, 0⟩]⟩,
  ⟨0x84, 1, 4, 1, 1, [⟨0, 16, .cmd, 0⟩]⟩,
  ⟨0x88, 1, 4, 1, 1, [⟨0, 16, .lv, 0⟩]⟩]

/-! `cad` page: the register tables under R60 of spec/02_timing_model.md. -/

def cad_CADCFG_DIV : Fld := ⟨0x40, 12, 4⟩
def cad_CADCFG_POINT : Fld := ⟨0x40, 8, 1⟩
def cad_CADCFG_SRC : Fld := ⟨0x40, 4, 4⟩
def cad_CADCFG_MODE : Fld := ⟨0x40, 0, 1⟩
def cad_PERIOD_TICKS : Fld := ⟨0x44, 0, 28⟩
def cad_PHASE_TICKS : Fld := ⟨0x48, 0, 28⟩
def cad_LASTEV_STAMP : Fld := ⟨0x4C, 0, 32⟩
def cad_EVCNT_COUNT : Fld := ⟨0x50, 0, 32⟩
def cad_CADERR_ERR : Fld := ⟨0x54, 31, 1⟩
def cad_CADERR_CAUSE : Fld := ⟨0x54, 0, 3⟩

/-- The registers of the `cad` page (R60 of spec/02_timing_model.md). -/
def cadRows : List RegRow := [
  ⟨0x40, 1, 4, 1, 1, [⟨12, 4, .rw, 0⟩, ⟨8, 1, .rw, 0⟩, ⟨4, 4, .rw, 0⟩, ⟨0, 1, .rw, 0⟩]⟩,
  ⟨0x44, 1, 4, 1, 1, [⟨0, 28, .rw, 0⟩]⟩,
  ⟨0x48, 1, 4, 1, 1, [⟨0, 28, .rw, 0⟩]⟩,
  ⟨0x4C, 1, 4, 1, 1, [⟨0, 32, .ro, 0⟩]⟩,
  ⟨0x50, 1, 4, 1, 1, [⟨0, 32, .cnt, 0⟩]⟩,
  ⟨0x54, 1, 4, 1, 1, [⟨31, 1, .cor, 0⟩, ⟨0, 3, .cor, 0⟩]⟩]

/-! `vmon` page: the register tables under R67 of spec/02_timing_model.md. -/

def vmon_VCSTAT_OVTRIP : Fld := ⟨0x40, 3, 1⟩
def vmon_VCSTAT_UVTRIP : Fld := ⟨0x40, 2, 1⟩
def vmon_VCSTAT_UVWARN : Fld := ⟨0x40, 0, 1⟩
def vmon_VCMEAS_MV : Fld := ⟨0x44, 0, 10⟩
def vmon_VCWARN_MV : Fld := ⟨0x48, 0, 10⟩

/-- The registers of the `vmon` page (R67 of spec/02_timing_model.md). -/
def vmonRows : List RegRow := [
  ⟨0x40, 1, 4, 1, 1, [⟨3, 1, .cor, 0⟩, ⟨2, 1, .cor, 0⟩, ⟨0, 1, .lv, 0⟩]⟩,
  ⟨0x44, 1, 4, 1, 1, [⟨0, 10, .ro, 0⟩]⟩,
  ⟨0x48, 1, 4, 1, 1, [⟨0, 10, .rw, 0x2DA⟩]⟩]

/-! `sigb` page: the register tables under R32 of spec/01_architecture.md. -/

def sigb_SIGERR_ERR : Fld := ⟨0x40, 31, 1⟩
def sigb_SIGERR_CAUSE : Fld := ⟨0x40, 12, 3⟩
def sigb_SIGERR_SIGNUM : Fld := ⟨0x40, 0, 12⟩
def sigb_BOUNDCNT_COUNT : Fld := ⟨0x44, 0, 13⟩

/-- The registers of the `sigb` page (R32 of spec/01_architecture.md). -/
def sigbRows : List RegRow := [
  ⟨0x40, 1, 4, 1, 1, [⟨31, 1, .cor, 0⟩, ⟨12, 3, .cor, 0⟩, ⟨0, 12, .cor, 0⟩]⟩,
  ⟨0x44, 1, 4, 1, 1, [⟨0, 13, .ro, 0⟩]⟩]

/-! `palloc` page: the register tables under R34 of spec/01_architecture.md. -/

def palloc_ALLOCERR_ERR : Fld := ⟨0x40, 31, 1⟩
def palloc_ALLOCERR_CAUSE : Fld := ⟨0x40, 8, 3⟩
def palloc_ALLOCERR_ENTRY : Fld := ⟨0x40, 0, 6⟩
def palloc_FREEBLK_COUNT : Fld := ⟨0x44, 0, 13⟩
def palloc_ALLOCA_SIZEM1 (i : Nat) : Fld := ⟨0x100 + 8 * i, 16, 12⟩
def palloc_ALLOCA_BASE (i : Nat) : Fld := ⟨0x100 + 8 * i, 0, 12⟩
def palloc_ALLOCB_VALID (i : Nat) : Fld := ⟨0x104 + 8 * i, 31, 1⟩
def palloc_ALLOCB_CLIENT (i : Nat) : Fld := ⟨0x104 + 8 * i, 0, 8⟩

/-- The registers of the `palloc` page (R34 of spec/01_architecture.md). -/
def pallocRows : List RegRow := [
  ⟨0x40, 1, 4, 1, 1, [⟨31, 1, .cor, 0⟩, ⟨8, 3, .cor, 0⟩, ⟨0, 6, .cor, 0⟩]⟩,
  ⟨0x44, 1, 4, 1, 1, [⟨0, 13, .ro, 0x1000⟩]⟩,
  ⟨0x100, 64, 8, 1, 1, [⟨16, 12, .rw, 0⟩, ⟨0, 12, .rw, 0⟩]⟩,
  ⟨0x104, 64, 8, 1, 1, [⟨31, 1, .rw, 0⟩, ⟨0, 8, .rw, 0⟩]⟩]

/-! `mbx` page: the register tables under R111 of spec/04_register_conventions.md. -/

def mbx_MBX_SEL_ADDR : Fld := ⟨0x0, 2, 22⟩
def mbx_MBX_VALID_PORT : Fld := ⟨0x4, 8, 1⟩
def mbx_MBX_VALID_BAD : Fld := ⟨0x4, 1, 1⟩
def mbx_MBX_VALID_VALID : Fld := ⟨0x4, 0, 1⟩
def mbx_MBX_LO_VALUE : Fld := ⟨0x8, 0, 32⟩
def mbx_MBX_HI_VALUE : Fld := ⟨0xC, 0, 32⟩

/-- The registers of the `mbx` page (R111 of spec/04_register_conventions.md). -/
def mbxRows : List RegRow := [
  ⟨0x0, 1, 4, 1, 1, [⟨2, 22, .rw, 0⟩]⟩,
  ⟨0x4, 1, 4, 1, 1, [⟨8, 1, .ro, 0⟩, ⟨1, 1, .lv, 0⟩, ⟨0, 1, .lv, 0⟩]⟩,
  ⟨0x8, 1, 4, 1, 1, [⟨0, 32, .ro, 0⟩]⟩,
  ⟨0xC, 1, 4, 1, 1, [⟨0, 32, .ro, 0⟩]⟩]

/-! `hp` page: the register tables under R123 of spec/05_host_link.md. -/

def hp_PCFG_QUAD : Fld := ⟨0x40, 0, 1⟩
def hp_PSTAT_QUADACT : Fld := ⟨0x44, 1, 1⟩
def hp_PSTAT_SPIMODE : Fld := ⟨0x44, 0, 1⟩
def hp_FRAMES_COUNT : Fld := ⟨0x48, 0, 32⟩
def hp_CRCCNT_COUNT : Fld := ⟨0x4C, 0, 32⟩
def hp_REJCNT_COUNT : Fld := ⟨0x50, 0, 32⟩
def hp_REPLAYCNT_COUNT : Fld := ⟨0x54, 0, 32⟩
def hp_ABORTCNT_COUNT : Fld := ⟨0x58, 0, 32⟩

/-- The registers of the `hp` page (R123 of spec/05_host_link.md). -/
def hpRows : List RegRow := [
  ⟨0x40, 1, 4, 1, 1, [⟨0, 1, .rw, 0⟩]⟩,
  ⟨0x44, 1, 4, 1, 1, [⟨1, 1, .lv, 0⟩, ⟨0, 1, .lv, 0⟩]⟩,
  ⟨0x48, 1, 4, 1, 1, [⟨0, 32, .cnt, 0⟩]⟩,
  ⟨0x4C, 1, 4, 1, 1, [⟨0, 32, .cnt, 0⟩]⟩,
  ⟨0x50, 1, 4, 1, 1, [⟨0, 32, .cnt, 0⟩]⟩,
  ⟨0x54, 1, 4, 1, 1, [⟨0, 32, .cnt, 0⟩]⟩,
  ⟨0x58, 1, 4, 1, 1, [⟨0, 32, .cnt, 0⟩]⟩]

/-! `rt` page: the register tables under R129 of spec/05_host_link.md. -/

def rt_VECPEND0_PEND : Fld := ⟨0x40, 0, 32⟩
def rt_VECPEND1_PEND : Fld := ⟨0x44, 0, 32⟩
def rt_VECBALL_BALL (i : Nat) : Fld := ⟨0x48 + 4 * i, 0, 32⟩
def rt_EVTCTL_EDGE1 : Fld := ⟨0x58, 1, 1⟩
def rt_EVTCTL_EDGE0 : Fld := ⟨0x58, 0, 1⟩
def rt_SRCPEND_PEND (i : Nat) : Fld := ⟨0x100 + 4 * i, 0, 32⟩
def rt_VSUM_PEND (i : Nat) : Fld := ⟨0x200 + 4 * i, 31, 1⟩
def rt_VSUM_COUNT (i : Nat) : Fld := ⟨0x200 + 4 * i, 16, 10⟩
def rt_VSUM_FIRST (i : Nat) : Fld := ⟨0x200 + 4 * i, 0, 9⟩
def rt_SRCMAP_VALID1 (i : Nat) : Fld := ⟨0x400 + 4 * i, 31, 1⟩
def rt_SRCMAP_PAGE1 (i : Nat) : Fld := ⟨0x400 + 4 * i, 16, 12⟩
def rt_SRCMAP_VALID0 (i : Nat) : Fld := ⟨0x400 + 4 * i, 15, 1⟩
def rt_SRCMAP_PAGE0 (i : Nat) : Fld := ⟨0x400 + 4 * i, 0, 12⟩

/-- The registers of the `rt` page (R129 of spec/05_host_link.md). -/
def rtRows : List RegRow := [
  ⟨0x40, 1, 4, 1, 1, [⟨0, 32, .lv, 0⟩]⟩,
  ⟨0x44, 1, 4, 1, 1, [⟨0, 32, .lv, 0⟩]⟩,
  ⟨0x48, 4, 4, 1, 1, [⟨0, 32, .rwl, 0⟩]⟩,
  ⟨0x58, 1, 4, 1, 1, [⟨1, 1, .rwl, 0⟩, ⟨0, 1, .rwl, 0⟩]⟩,
  ⟨0x100, 16, 4, 1, 1, [⟨0, 32, .w1c, 0⟩]⟩,
  ⟨0x200, 64, 4, 1, 1, [⟨31, 1, .lv, 0⟩, ⟨16, 10, .lv, 0⟩, ⟨0, 9, .lv, 0⟩]⟩,
  ⟨0x400, 256, 4, 1, 1, [⟨31, 1, .ro, 0⟩, ⟨16, 12, .ro, 0⟩, ⟨15, 1, .ro, 0⟩, ⟨0, 12, .ro, 0⟩]⟩]

/-! `ln` page: the register tables under R65 of spec/02_timing_model.md, R133 of spec/06_loop_datapath.md, R179 of spec/07_pod_scheduling.md. -/

def ln_MGMIN_TICKS : Fld := ⟨0x100, 0, 28⟩
def ln_MGPOD_POD : Fld := ⟨0x104, 0, 7⟩
def ln_MGLAST_TICKS : Fld := ⟨0x108, 0, 28⟩
def ln_MGCTL_CLR : Fld := ⟨0x10C, 0, 1⟩
def ln_MGWARN_TICKS : Fld := ⟨0x110, 0, 28⟩
def ln_LNSTAT_RUNNING : Fld := ⟨0x40, 15, 1⟩
def ln_LNSTAT_POD : Fld := ⟨0x40, 0, 7⟩
def ln_RUNS_COUNT : Fld := ⟨0x44, 0, 32⟩
def ln_BUSYT_TICKS : Fld := ⟨0x48, 0, 32⟩
def ln_STSTAT_RESULT : Fld := ⟨0x80, 30, 2⟩
def ln_STSTAT_FAILSTEP : Fld := ⟨0x80, 0, 4⟩
def ln_STCNT_COUNT : Fld := ⟨0x84, 0, 32⟩
def ln_STSTAMP_STAMP : Fld := ⟨0x88, 0, 32⟩
def ln_STDUR_TICKS : Fld := ⟨0x8C, 0, 20⟩

/-- The registers of the `ln` page (R65 of spec/02_timing_model.md, R133 of spec/06_loop_datapath.md, R179 of spec/07_pod_scheduling.md). -/
def lnRows : List RegRow := [
  ⟨0x100, 1, 4, 1, 1, [⟨0, 28, .ro, 0xFFFFFFF⟩]⟩,
  ⟨0x104, 1, 4, 1, 1, [⟨0, 7, .ro, 0⟩]⟩,
  ⟨0x108, 1, 4, 1, 1, [⟨0, 28, .ro, 0⟩]⟩,
  ⟨0x10C, 1, 4, 1, 1, [⟨0, 1, .cmd, 0⟩]⟩,
  ⟨0x110, 1, 4, 1, 1, [⟨0, 28, .rw, 0⟩]⟩,
  ⟨0x40, 1, 4, 1, 1, [⟨15, 1, .lv, 0⟩, ⟨0, 7, .lv, 0⟩]⟩,
  ⟨0x44, 1, 4, 1, 1, [⟨0, 32, .cnt, 0⟩]⟩,
  ⟨0x48, 1, 4, 1, 1, [⟨0, 32, .cnt, 0⟩]⟩,
  ⟨0x80, 1, 4, 1, 1, [⟨30, 2, .lv, 0⟩, ⟨0, 4, .ro, 0⟩]⟩,
  ⟨0x84, 1, 4, 1, 1, [⟨0, 32, .cnt, 0⟩]⟩,
  ⟨0x88, 1, 4, 1, 1, [⟨0, 32, .ro, 0⟩]⟩,
  ⟨0x8C, 1, 4, 1, 1, [⟨0, 20, .ro, 0⟩]⟩]

/-! `lnsh` page: the register tables under R180 of spec/07_pod_scheduling.md. -/

def lnsh_ROTSTAT_SUSP : Fld := ⟨0x80, 31, 1⟩
def lnsh_ROTSTAT_SUBST : Fld := ⟨0x80, 8, 4⟩
def lnsh_ROTSTAT_TEST : Fld := ⟨0x80, 0, 4⟩
def lnsh_ROTCNT_COUNT : Fld := ⟨0x84, 0, 32⟩
def lnsh_LBISTCMD_GO : Fld := ⟨0x88, 0, 1⟩
def lnsh_LBISTRES_DONE : Fld := ⟨0x8C, 31, 1⟩
def lnsh_LBISTRES_REFUSED : Fld := ⟨0x8C, 30, 1⟩
def lnsh_LBISTRES_ABORTED : Fld := ⟨0x8C, 29, 1⟩
def lnsh_LBISTRES_ABORTLATE : Fld := ⟨0x8C, 28, 1⟩
def lnsh_LBISTRES_CAUSE : Fld := ⟨0x8C, 0, 4⟩
def lnsh_LBISTMAP_FAIL : Fld := ⟨0x90, 0, 9⟩

/-- The registers of the `lnsh` page (R180 of spec/07_pod_scheduling.md). -/
def lnshRows : List RegRow := [
  ⟨0x80, 1, 4, 1, 1, [⟨31, 1, .lv, 0⟩, ⟨8, 4, .lv, 0xF⟩, ⟨0, 4, .lv, 0xF⟩]⟩,
  ⟨0x84, 1, 4, 1, 1, [⟨0, 32, .cnt, 0⟩]⟩,
  ⟨0x88, 1, 4, 1, 1, [⟨0, 1, .cmd, 0⟩]⟩,
  ⟨0x8C, 1, 4, 1, 1, [⟨31, 1, .cor, 0⟩, ⟨30, 1, .cor, 0⟩, ⟨29, 1, .cor, 0⟩, ⟨28, 1, .cor, 0⟩, ⟨0, 4, .cor, 0⟩]⟩,
  ⟨0x90, 1, 4, 1, 1, [⟨0, 9, .ro, 0⟩]⟩]

/-! `pod` page: the register tables under R158 of spec/06_loop_datapath.md, R205 of spec/08_setpoints_schedules_arenas.md, R214 of spec/09_supervision_scorebooks.md. -/

def pod_PCFG_AFFLANE : Fld := ⟨0x40, 17, 3⟩
def pod_PCFG_AFFEN : Fld := ⟨0x40, 16, 1⟩
def pod_PCFG_PRIO : Fld := ⟨0x40, 8, 7⟩
def pod_PCFG_CAD : Fld := ⟨0x40, 0, 4⟩
def pod_CAPOFS_TICKS : Fld := ⟨0x44, 0, 28⟩
def pod_APPLY_TICKS : Fld := ⟨0x48, 0, 28⟩
def pod_OVR_CONSEC : Fld := ⟨0x4C, 8, 8⟩
def pod_OVR_LIM : Fld := ⟨0x4C, 0, 8⟩
def pod_OVRCNT_COUNT : Fld := ⟨0x50, 0, 32⟩
def pod_PROGSTAT_OK : Fld := ⟨0x54, 31, 1⟩
def pod_PROGSTAT_ERRIDX : Fld := ⟨0x54, 8, 8⟩
def pod_PROGSTAT_ENDIDX : Fld := ⟨0x54, 0, 8⟩
def pod_FRZ_EN : Fld := ⟨0x58, 31, 1⟩
def pod_FRZ_SIG : Fld := ⟨0x58, 0, 12⟩
def pod_RUNSTAT_RUNNING : Fld := ⟨0x5C, 31, 1⟩
def pod_RUNSTAT_LANE : Fld := ⟨0x5C, 24, 4⟩
def pod_RUNSTAT_LIMHIT : Fld := ⟨0x5C, 2, 1⟩
def pod_RUNSTAT_STSAT : Fld := ⟨0x5C, 1, 1⟩
def pod_RUNSTAT_ACCSAT : Fld := ⟨0x5C, 0, 1⟩
def pod_RUNCNT_COUNT : Fld := ⟨0x60, 0, 32⟩
def pod_LASTEND_STAMP : Fld := ⟨0x64, 0, 32⟩
def pod_TBL_EN (i : Nat) : Fld := ⟨0x70 + 4 * i, 31, 1⟩
def pod_TBL_TABLE (i : Nat) : Fld := ⟨0x70 + 4 * i, 0, 16⟩
def pod_INBIND_EN (i : Nat) : Fld := ⟨0x80 + 4 * i, 31, 1⟩
def pod_INBIND_TYPE (i : Nat) : Fld := ⟨0x80 + 4 * i, 30, 1⟩
def pod_INBIND_SIG (i : Nat) : Fld := ⟨0x80 + 4 * i, 0, 12⟩
def pod_OUTBIND_KIND (i : Nat) : Fld := ⟨0xC0 + 4 * i, 30, 2⟩
def pod_OUTBIND_TYPE (i : Nat) : Fld := ⟨0xC0 + 4 * i, 29, 1⟩
def pod_OUTBIND_TARGET (i : Nat) : Fld := ⟨0xC0 + 4 * i, 0, 12⟩
def pod_GAIN_SHIFT (i : Nat) : Fld := ⟨0xE0 + 4 * i, 16, 4⟩
def pod_GAIN_MANT (i : Nat) : Fld := ⟨0xE0 + 4 * i, 0, 16⟩
def pod_NODE_VALUE (i : Nat) : Fld := ⟨0x200 + 4 * i, 0, 16⟩
def pod_ACCLO_VALUE (i : Nat) : Fld := ⟨0x300 + 8 * i, 0, 32⟩
def pod_ACCHI_VALUE (i : Nat) : Fld := ⟨0x304 + 8 * i, 0, 8⟩
def pod_IN_VALUE (i : Nat) : Fld := ⟨0x380 + 4 * i, 0, 32⟩
def pod_OUT_VALUE (i : Nat) : Fld := ⟨0x3C0 + 4 * i, 0, 32⟩
def pod_PROG_WORD (i : Nat) : Fld := ⟨0x400 + 4 * i, 0, 32⟩
def pod_RAMPCFG_EN : Fld := ⟨0x100, 31, 1⟩
def pod_RAMPCFG_SPIN : Fld := ⟨0x100, 8, 4⟩
def pod_RAMPCFG_PVIN : Fld := ⟨0x100, 0, 4⟩
def pod_RSLOPE_RATE : Fld := ⟨0x104, 0, 31⟩
def pod_RJERK_STEP : Fld := ⟨0x108, 0, 31⟩
def pod_RAMPCTL_SEED : Fld := ⟨0x10C, 0, 1⟩
def pod_RAMPW_VALUE : Fld := ⟨0x110, 0, 32⟩
def pod_RAMPR_VALUE : Fld := ⟨0x114, 0, 32⟩
def pod_RAMPSTAT_SEEDED : Fld := ⟨0x118, 1, 1⟩
def pod_RAMPSTAT_ACTIVE : Fld := ⟨0x118, 0, 1⟩
def pod_SCHCFG_EN : Fld := ⟨0x120, 31, 1⟩
def pod_SCHCFG_SYEN : Fld := ⟨0x120, 24, 1⟩
def pod_SCHCFG_SYIN : Fld := ⟨0x120, 20, 4⟩
def pod_SCHCFG_SXIN : Fld := ⟨0x120, 16, 4⟩
def pod_SCHCFG_TABLE : Fld := ⟨0x120, 0, 16⟩
def pod_SCHHYS_HYSY : Fld := ⟨0x124, 16, 15⟩
def pod_SCHHYS_HYSX : Fld := ⟨0x124, 0, 15⟩
def pod_SCHSTAT_VALID : Fld := ⟨0x128, 31, 1⟩
def pod_SCHSTAT_NG : Fld := ⟨0x128, 16, 4⟩
def pod_SCHSTAT_REGION : Fld := ⟨0x128, 8, 8⟩
def pod_SCHSTAT_RY : Fld := ⟨0x128, 4, 4⟩
def pod_SCHSTAT_RX : Fld := ⟨0x128, 0, 4⟩
def pod_SCHCHG_COUNT : Fld := ⟨0x12C, 0, 32⟩
def pod_TRKCFG_EN : Fld := ⟨0x140, 31, 1⟩
def pod_TRKCFG_ACC : Fld := ⟨0x140, 0, 4⟩
def pod_TRKGAIN_SHIFT : Fld := ⟨0x144, 16, 4⟩
def pod_TRKGAIN_MANT : Fld := ⟨0x144, 0, 15⟩
def pod_TRKTLO_VALUE : Fld := ⟨0x148, 0, 32⟩
def pod_TRKTHI_VALUE : Fld := ⟨0x14C, 0, 8⟩
def pod_TRKSTAT_MEMBER : Fld := ⟨0x150, 31, 1⟩
def pod_TRKSTAT_ARENA : Fld := ⟨0x150, 8, 4⟩
def pod_TRKSTAT_COMP : Fld := ⟨0x150, 4, 3⟩
def pod_TRKSTAT_WIN : Fld := ⟨0x150, 0, 1⟩
def pod_FECFG_EN : Fld := ⟨0x180, 31, 1⟩
def pod_FECFG_WRAP : Fld := ⟨0x180, 30, 1⟩
def pod_FECFG_REFIN : Fld := ⟨0x180, 8, 4⟩
def pod_FECFG_MEASIN : Fld := ⟨0x180, 0, 4⟩
def pod_FELIM_LIM : Fld := ⟨0x184, 0, 16⟩
def pod_FETIME_TICKS : Fld := ⟨0x188, 0, 28⟩
def pod_FESTAT_FOLLOW : Fld := ⟨0x18C, 31, 1⟩
def pod_FESTAT_EXCESS : Fld := ⟨0x18C, 30, 1⟩
def pod_FESTART_STAMP : Fld := ⟨0x190, 0, 32⟩
def pod_FELAST_VALUE : Fld := ⟨0x194, 0, 32⟩
def pod_FEPEAK_VALUE : Fld := ⟨0x198, 0, 16⟩
def pod_FECNT_COUNT : Fld := ⟨0x19C, 0, 32⟩

/-- The registers of the `pod` page (R158 of spec/06_loop_datapath.md, R205 of spec/08_setpoints_schedules_arenas.md, R214 of spec/09_supervision_scorebooks.md). -/
def podRows : List RegRow := [
  ⟨0x40, 1, 4, 1, 1, [⟨17, 3, .rwl, 0⟩, ⟨16, 1, .rwl, 0⟩, ⟨8, 7, .rwl, 0⟩, ⟨0, 4, .rwl, 0⟩]⟩,
  ⟨0x44, 1, 4, 1, 1, [⟨0, 28, .rwl, 0⟩]⟩,
  ⟨0x48, 1, 4, 1, 1, [⟨0, 28, .rwl, 0⟩]⟩,
  ⟨0x4C, 1, 4, 1, 1, [⟨8, 8, .ro, 0⟩, ⟨0, 8, .rwl, 1⟩]⟩,
  ⟨0x50, 1, 4, 1, 1, [⟨0, 32, .cnt, 0⟩]⟩,
  ⟨0x54, 1, 4, 1, 1, [⟨31, 1, .lv, 0⟩, ⟨8, 8, .ro, 0⟩, ⟨0, 8, .ro, 0⟩]⟩,
  ⟨0x58, 1, 4, 1, 1, [⟨31, 1, .rwl, 0⟩, ⟨0, 12, .rwl, 0⟩]⟩,
  ⟨0x5C, 1, 4, 1, 1, [⟨31, 1, .lv, 0⟩, ⟨24, 4, .lv, 0xF⟩, ⟨2, 1, .cor, 0⟩, ⟨1, 1, .cor, 0⟩, ⟨0, 1, .cor, 0⟩]⟩,
  ⟨0x60, 1, 4, 1, 1, [⟨0, 32, .cnt, 0⟩]⟩,
  ⟨0x64, 1, 4, 1, 1, [⟨0, 32, .ro, 0⟩]⟩,
  ⟨0x70, 4, 4, 1, 1, [⟨31, 1, .rwl, 0⟩, ⟨0, 16, .rwl, 0⟩]⟩,
  ⟨0x80, 16, 4, 1, 1, [⟨31, 1, .rwl, 0⟩, ⟨30, 1, .rwl, 0⟩, ⟨0, 12, .rwl, 0⟩]⟩,
  ⟨0xC0, 8, 4, 1, 1, [⟨30, 2, .rwl, 0⟩, ⟨29, 1, .rwl, 0⟩, ⟨0, 12, .rwl, 0⟩]⟩,
  ⟨0xE0, 8, 4, 1, 1, [⟨16, 4, .rw, 0⟩, ⟨0, 16, .rw, 0⟩]⟩,
  ⟨0x200, 64, 4, 1, 1, [⟨16, 16, .ext, 0⟩, ⟨0, 16, .rw, 0⟩]⟩,
  ⟨0x300, 16, 8, 1, 1, [⟨0, 32, .rw, 0⟩]⟩,
  ⟨0x304, 16, 8, 1, 1, [⟨8, 24, .ext, 0⟩, ⟨0, 8, .rw, 0⟩]⟩,
  ⟨0x380, 16, 4, 1, 1, [⟨0, 32, .ro, 0⟩]⟩,
  ⟨0x3C0, 8, 4, 1, 1, [⟨0, 32, .ro, 0⟩]⟩,
  ⟨0x400, 256, 4, 1, 1, [⟨0, 32, .rwl, 0⟩]⟩,
  ⟨0x100, 1, 4, 1, 1, [⟨31, 1, .rwl, 0⟩, ⟨8, 4, .rwl, 0⟩, ⟨0, 4, .rwl, 0⟩]⟩,
  ⟨0x104, 1, 4, 1, 1, [⟨0, 31, .rw, 0⟩]⟩,
  ⟨0x108, 1, 4, 1, 1, [⟨0, 31, .rw, 0⟩]⟩,
  ⟨0x10C, 1, 4, 1, 1, [⟨0, 1, .cmd, 0⟩]⟩,
  ⟨0x110, 1, 4, 1, 1, [⟨0, 32, .ro, 0⟩]⟩,
  ⟨0x114, 1, 4, 1, 1, [⟨0, 32, .ro, 0⟩]⟩,
  ⟨0x118, 1, 4, 1, 1, [⟨1, 1, .cor, 0⟩, ⟨0, 1, .lv, 0⟩]⟩,
  ⟨0x120, 1, 4, 1, 1, [⟨31, 1, .rwl, 0⟩, ⟨24, 1, .rwl, 0⟩, ⟨20, 4, .rwl, 0⟩, ⟨16, 4, .rwl, 0⟩, ⟨0, 16, .rwl, 0⟩]⟩,
  ⟨0x124, 1, 4, 1, 1, [⟨16, 15, .rwl, 0⟩, ⟨0, 15, .rwl, 0⟩]⟩,
  ⟨0x128, 1, 4, 1, 1, [⟨31, 1, .lv, 0⟩, ⟨16, 4, .lv, 0⟩, ⟨8, 8, .lv, 0⟩, ⟨4, 4, .lv, 0⟩, ⟨0, 4, .lv, 0⟩]⟩,
  ⟨0x12C, 1, 4, 1, 1, [⟨0, 32, .cnt, 0⟩]⟩,
  ⟨0x140, 1, 4, 1, 1, [⟨31, 1, .rwl, 0⟩, ⟨0, 4, .rwl, 0⟩]⟩,
  ⟨0x144, 1, 4, 1, 1, [⟨16, 4, .rw, 0⟩, ⟨0, 15, .rw, 0⟩]⟩,
  ⟨0x148, 1, 4, 1, 1, [⟨0, 32, .ro, 0⟩]⟩,
  ⟨0x14C, 1, 4, 1, 1, [⟨8, 24, .ext, 0⟩, ⟨0, 8, .ro, 0⟩]⟩,
  ⟨0x150, 1, 4, 1, 1, [⟨31, 1, .lv, 0⟩, ⟨8, 4, .lv, 0⟩, ⟨4, 3, .lv, 0⟩, ⟨0, 1, .lv, 0⟩]⟩,
  ⟨0x180, 1, 4, 1, 1, [⟨31, 1, .rwl, 0⟩, ⟨30, 1, .rwl, 0⟩, ⟨8, 4, .rwl, 0⟩, ⟨0, 4, .rwl, 0⟩]⟩,
  ⟨0x184, 1, 4, 1, 1, [⟨0, 16, .rw, 0xFFFF⟩]⟩,
  ⟨0x188, 1, 4, 1, 1, [⟨0, 28, .rw, 0⟩]⟩,
  ⟨0x18C, 1, 4, 1, 1, [⟨31, 1, .lv, 0⟩, ⟨30, 1, .lv, 0⟩]⟩,
  ⟨0x190, 1, 4, 1, 1, [⟨0, 32, .ro, 0⟩]⟩,
  ⟨0x194, 1, 4, 1, 1, [⟨0, 32, .ro, 0⟩]⟩,
  ⟨0x198, 1, 4, 1, 1, [⟨0, 16, .cor, 0⟩]⟩,
  ⟨0x19C, 1, 4, 1, 1, [⟨0, 32, .cnt, 0⟩]⟩]

/-! `arsh` page: the register tables under R206 of spec/08_setpoints_schedules_arenas.md. -/

def arsh_WINSUM0_ARN : Fld := ⟨0x80, 0, 32⟩
def arsh_WINSUM1_ARN : Fld := ⟨0x84, 0, 32⟩

/-- The registers of the `arsh` page (R206 of spec/08_setpoints_schedules_arenas.md). -/
def arshRows : List RegRow := [
  ⟨0x80, 1, 4, 1, 1, [⟨0, 32, .lv, 0⟩]⟩,
  ⟨0x84, 1, 4, 1, 1, [⟨0, 32, .lv, 0⟩]⟩]

/-! `arq` page: the register tables under R207 of spec/08_setpoints_schedules_arenas.md. -/

def arq_QERR_ERR : Fld := ⟨0x40, 31, 1⟩
def arq_QERR_CAUSE : Fld := ⟨0x40, 12, 4⟩
def arq_QERR_ARENA : Fld := ⟨0x40, 4, 2⟩
def arq_QERR_COMP : Fld := ⟨0x40, 0, 3⟩
def arq_ACFG_EN (i : Nat) : Fld := ⟨0x100 + 0x80 * i, 31, 1⟩
def arq_ACFG_EMPTY (i : Nat) : Fld := ⟨0x100 + 0x80 * i, 1, 1⟩
def arq_ACFG_MODE (i : Nat) : Fld := ⟨0x100 + 0x80 * i, 0, 1⟩
def arq_APUB_IDXEN (i : Nat) : Fld := ⟨0x104 + 0x80 * i, 31, 1⟩
def arq_APUB_IDXSIG (i : Nat) : Fld := ⟨0x104 + 0x80 * i, 16, 12⟩
def arq_APUB_VALEN (i : Nat) : Fld := ⟨0x104 + 0x80 * i, 15, 1⟩
def arq_APUB_VALSIG (i : Nat) : Fld := ⟨0x104 + 0x80 * i, 0, 12⟩
def arq_ASTAT_EMPTY (i : Nat) : Fld := ⟨0x108 + 0x80 * i, 31, 1⟩
def arq_ASTAT_VALID (i : Nat) : Fld := ⟨0x108 + 0x80 * i, 8, 8⟩
def arq_ASTAT_WIN (i : Nat) : Fld := ⟨0x108 + 0x80 * i, 0, 3⟩
def arq_AWIN_VALUE (i : Nat) : Fld := ⟨0x10C + 0x80 * i, 0, 16⟩
def arq_ACHG_COUNT (i : Nat) : Fld := ⟨0x110 + 0x80 * i, 0, 32⟩
def arq_ADEC_COUNT (i : Nat) : Fld := ⟨0x114 + 0x80 * i, 0, 32⟩
def arq_ASTAMP_STAMP (i : Nat) : Fld := ⟨0x118 + 0x80 * i, 0, 32⟩
def arq_ACOMP_EN (i : Nat) (j : Nat) : Fld := ⟨0x120 + 0x80 * i + 4 * j, 31, 1⟩
def arq_ACOMP_KIND (i : Nat) (j : Nat) : Fld := ⟨0x120 + 0x80 * i + 4 * j, 30, 1⟩
def arq_ACOMP_POD (i : Nat) (j : Nat) : Fld := ⟨0x120 + 0x80 * i + 4 * j, 8, 7⟩
def arq_ACOMP_OUT (i : Nat) (j : Nat) : Fld := ⟨0x120 + 0x80 * i + 4 * j, 0, 3⟩
def arq_AREQ_ACTIVE (i : Nat) (j : Nat) : Fld := ⟨0x140 + 0x80 * i + 4 * j, 31, 1⟩
def arq_AREQ_VALUE (i : Nat) (j : Nat) : Fld := ⟨0x140 + 0x80 * i + 4 * j, 0, 16⟩
def arq_AVAL_VALUE (i : Nat) (j : Nat) : Fld := ⟨0x160 + 0x80 * i + 4 * j, 0, 16⟩

/-- The registers of the `arq` page (R207 of spec/08_setpoints_schedules_arenas.md). -/
def arqRows : List RegRow := [
  ⟨0x40, 1, 4, 1, 1, [⟨31, 1, .cor, 0⟩, ⟨12, 4, .cor, 0⟩, ⟨4, 2, .cor, 0⟩, ⟨0, 3, .cor, 0⟩]⟩,
  ⟨0x100, 4, 128, 1, 1, [⟨31, 1, .rwl, 0⟩, ⟨1, 1, .rwl, 0⟩, ⟨0, 1, .rwl, 0⟩]⟩,
  ⟨0x104, 4, 128, 1, 1, [⟨31, 1, .rwl, 0⟩, ⟨16, 12, .rwl, 0⟩, ⟨15, 1, .rwl, 0⟩, ⟨0, 12, .rwl, 0⟩]⟩,
  ⟨0x108, 4, 128, 1, 1, [⟨31, 1, .lv, 0⟩, ⟨8, 8, .lv, 0⟩, ⟨0, 3, .lv, 0⟩]⟩,
  ⟨0x10C, 4, 128, 1, 1, [⟨16, 16, .ext, 0⟩, ⟨0, 16, .ro, 0⟩]⟩,
  ⟨0x110, 4, 128, 1, 1, [⟨0, 32, .cnt, 0⟩]⟩,
  ⟨0x114, 4, 128, 1, 1, [⟨0, 32, .cnt, 0⟩]⟩,
  ⟨0x118, 4, 128, 1, 1, [⟨0, 32, .ro, 0⟩]⟩,
  ⟨0x120, 4, 128, 8, 4, [⟨31, 1, .rwl, 0⟩, ⟨30, 1, .rwl, 0⟩, ⟨8, 7, .rwl, 0⟩, ⟨0, 3, .rwl, 0⟩]⟩,
  ⟨0x140, 4, 128, 8, 4, [⟨31, 1, .rw, 0⟩, ⟨0, 16, .rw, 0⟩]⟩,
  ⟨0x160, 4, 128, 8, 4, [⟨16, 16, .ext, 0⟩, ⟨0, 16, .ro, 0⟩]⟩]

/-! `scb` page: the register tables under R227 of spec/09_supervision_scorebooks.md. -/

def scb_SCFG_MODE : Fld := ⟨0x40, 31, 1⟩
def scb_SCFG_TS64 : Fld := ⟨0x40, 30, 1⟩
def scb_SCFG_PRE : Fld := ⟨0x40, 16, 8⟩
def scb_SCFG_CAD : Fld := ⟨0x40, 0, 4⟩
def scb_SOFS_TICKS : Fld := ⟨0x44, 0, 28⟩
def scb_SDEC_DEC : Fld := ⟨0x48, 0, 16⟩
def scb_TRIGCFG_KIND : Fld := ⟨0x4C, 28, 3⟩
def scb_TRIGCFG_TAP : Fld := ⟨0x4C, 0, 4⟩
def scb_TRIGLVL_LEVEL : Fld := ⟨0x50, 0, 32⟩
def scb_TRIGEV_SRC : Fld := ⟨0x54, 16, 9⟩
def scb_TRIGEV_BIT : Fld := ⟨0x54, 0, 5⟩
def scb_SCTL_TRIG : Fld := ⟨0x58, 1, 1⟩
def scb_SCTL_ARM : Fld := ⟨0x58, 0, 1⟩
def scb_SRES_DONE : Fld := ⟨0x5C, 31, 1⟩
def scb_SRES_REFUSED : Fld := ⟨0x5C, 30, 1⟩
def scb_SRES_ABORTED : Fld := ⟨0x5C, 29, 1⟩
def scb_SRES_ABORTLATE : Fld := ⟨0x5C, 28, 1⟩
def scb_SRES_CAUSE : Fld := ⟨0x5C, 0, 4⟩
def scb_SSTAT_STATE : Fld := ⟨0x60, 29, 3⟩
def scb_NREC_SLOTS : Fld := ⟨0x64, 0, 16⟩
def scb_WRPTR_SLOT : Fld := ⟨0x68, 0, 16⟩
def scb_TRIGIDX_VALID : Fld := ⟨0x6C, 31, 1⟩
def scb_TRIGIDX_SLOT : Fld := ⟨0x6C, 0, 16⟩
def scb_PRECNT_COUNT : Fld := ⟨0x70, 0, 16⟩
def scb_SKIPCNT_COUNT : Fld := ⟨0x74, 0, 32⟩
def scb_TRIGSTAMP_STAMP : Fld := ⟨0x78, 0, 32⟩
def scb_TAP_EN (i : Nat) : Fld := ⟨0x80 + 4 * i, 31, 1⟩
def scb_TAP_KIND (i : Nat) : Fld := ⟨0x80 + 4 * i, 28, 3⟩
def scb_TAP_POD (i : Nat) : Fld := ⟨0x80 + 4 * i, 16, 7⟩
def scb_TAP_IDX (i : Nat) : Fld := ⟨0x80 + 4 * i, 0, 12⟩

/-- The registers of the `scb` page (R227 of spec/09_supervision_scorebooks.md). -/
def scbRows : List RegRow := [
  ⟨0x40, 1, 4, 1, 1, [⟨31, 1, .rw, 0⟩, ⟨30, 1, .rw, 0⟩, ⟨16, 8, .rw, 0⟩, ⟨0, 4, .rw, 0⟩]⟩,
  ⟨0x44, 1, 4, 1, 1, [⟨0, 28, .rw, 0⟩]⟩,
  ⟨0x48, 1, 4, 1, 1, [⟨0, 16, .rw, 0⟩]⟩,
  ⟨0x4C, 1, 4, 1, 1, [⟨28, 3, .rw, 0⟩, ⟨0, 4, .rw, 0⟩]⟩,
  ⟨0x50, 1, 4, 1, 1, [⟨0, 32, .rw, 0⟩]⟩,
  ⟨0x54, 1, 4, 1, 1, [⟨16, 9, .rw, 0⟩, ⟨0, 5, .rw, 0⟩]⟩,
  ⟨0x58, 1, 4, 1, 1, [⟨1, 1, .cmd, 0⟩, ⟨0, 1, .cmd, 0⟩]⟩,
  ⟨0x5C, 1, 4, 1, 1, [⟨31, 1, .cor, 0⟩, ⟨30, 1, .cor, 0⟩, ⟨29, 1, .cor, 0⟩, ⟨28, 1, .cor, 0⟩, ⟨0, 4, .cor, 0⟩]⟩,
  ⟨0x60, 1, 4, 1, 1, [⟨29, 3, .lv, 0⟩]⟩,
  ⟨0x64, 1, 4, 1, 1, [⟨0, 16, .ro, 0⟩]⟩,
  ⟨0x68, 1, 4, 1, 1, [⟨0, 16, .ro, 0⟩]⟩,
  ⟨0x6C, 1, 4, 1, 1, [⟨31, 1, .ro, 0⟩, ⟨0, 16, .ro, 0⟩]⟩,
  ⟨0x70, 1, 4, 1, 1, [⟨0, 16, .ro, 0⟩]⟩,
  ⟨0x74, 1, 4, 1, 1, [⟨0, 32, .cnt, 0⟩]⟩,
  ⟨0x78, 1, 4, 1, 1, [⟨0, 32, .ro, 0⟩]⟩,
  ⟨0x80, 16, 4, 1, 1, [⟨31, 1, .rw, 0⟩, ⟨28, 3, .rw, 0⟩, ⟨16, 7, .rw, 0⟩, ⟨0, 12, .rw, 0⟩]⟩]

end Sys2Proof.Machine
end

