-- ==== Sys2Proof/Machine/RegMapIo.lean ====
section
/-!
DEFINITION. The register map, part 3: the FBK, ADC, CAN, SEQ, PAIR, SSV and THM families and the scrubber.
Each `<page>_<REGISTER>_<FIELD>` names one field by its offset in the page, its lowest bit and its width,
and each `<page>Rows` lists the registers of a page with the kind (R94) and the reset value of every field,
as the register tables of the rules named in front of it give them.
-/

namespace Sys2Proof.Machine

/-! `fb` page: the register tables under R393 of spec/16_feedback.md. -/

def fb_CHCFG_FN : Fld := ⟨0x80, 16, 6⟩
def fb_CHCFG_FK : Fld := ⟨0x80, 8, 3⟩
def fb_CHCFG_HYST : Fld := ⟨0x80, 6, 1⟩
def fb_CHCFG_QDIR : Fld := ⟨0x80, 5, 1⟩
def fb_CHCFG_ZEN : Fld := ⟨0x80, 4, 1⟩
def fb_CHCFG_MODE : Fld := ⟨0x80, 0, 3⟩
def fb_CHWIRE_TDIS : Fld := ⟨0x84, 0, 12⟩
def fb_CHILL_ILLIM : Fld := ⟨0x88, 16, 8⟩
def fb_CHILL_ILWIN : Fld := ⟨0x88, 0, 16⟩
def fb_CHLAT_OFS : Fld := ⟨0x8C, 16, 12⟩
def fb_CHLAT_CAD : Fld := ⟨0x8C, 0, 4⟩
def fb_CHCPR_CPR : Fld := ⟨0x90, 0, 24⟩
def fb_CHPOSOFS_OFS : Fld := ⟨0x94, 0, 24⟩
def fb_CHSPD0_SSHIFT : Fld := ⟨0x98, 16, 4⟩
def fb_CHSPD0_NHI : Fld := ⟨0x98, 8, 8⟩
def fb_CHSPD0_NLO : Fld := ⟨0x98, 0, 8⟩
def fb_CHSPD1_SWIN : Fld := ⟨0x9C, 0, 20⟩
def fb_CHSPD2_STMO : Fld := ⟨0xA0, 0, 28⟩
def fb_CHOUT_ESIG : Fld := ⟨0xA4, 16, 12⟩
def fb_CHOUT_ESRC : Fld := ⟨0xA4, 4, 3⟩
def fb_CHOUT_OMODE : Fld := ⟨0xA4, 0, 2⟩
def fb_CHEMU_ELAG : Fld := ⟨0xA8, 16, 16⟩
def fb_CHEMU_ELINES : Fld := ⟨0xA8, 0, 16⟩
def fb_CHCTL_ZARM : Fld := ⟨0xAC, 1, 1⟩
def fb_CHCTL_ALIGN : Fld := ⟨0xAC, 0, 1⟩
def fb_CHSTAT_VALID : Fld := ⟨0xB0, 31, 1⟩
def fb_CHSTAT_ALIGNED : Fld := ⟨0xB0, 30, 1⟩
def fb_CHSTAT_WIRE : Fld := ⟨0xB0, 16, 3⟩
def fb_CHSTAT_EMUHOLD : Fld := ⟨0xB0, 1, 1⟩
def fb_CHEMUPOS_COUNT : Fld := ⟨0xB4, 0, 32⟩
def fb_CHPUB_EN (i : Nat) : Fld := ⟨0xC0 + 4 * i, 31, 1⟩
def fb_CHPUB_QIDX (i : Nat) : Fld := ⟨0xC0 + 4 * i, 16, 4⟩
def fb_CHPUB_SIG (i : Nat) : Fld := ⟨0xC0 + 4 * i, 0, 12⟩

/-- The registers of the `fb` page (R393 of spec/16_feedback.md). -/
def fbRows : List RegRow := [
  ⟨0x80, 1, 4, 1, 1, [⟨16, 6, .rwl, 4⟩, ⟨8, 3, .rwl, 0⟩, ⟨6, 1, .rwl, 1⟩, ⟨5, 1, .rwl, 0⟩, ⟨4, 1, .rwl, 0⟩, ⟨0, 3, .rwl, 0⟩]⟩,
  ⟨0x84, 1, 4, 1, 1, [⟨0, 12, .rwl, 0xC8⟩]⟩,
  ⟨0x88, 1, 4, 1, 1, [⟨16, 8, .rwl, 4⟩, ⟨0, 16, .rwl, 0xA⟩]⟩,
  ⟨0x8C, 1, 4, 1, 1, [⟨16, 12, .rwl, 0⟩, ⟨0, 4, .rwl, 0⟩]⟩,
  ⟨0x90, 1, 4, 1, 1, [⟨0, 24, .rwl, 4⟩]⟩,
  ⟨0x94, 1, 4, 1, 1, [⟨0, 24, .rw, 0⟩]⟩,
  ⟨0x98, 1, 4, 1, 1, [⟨16, 4, .rwl, 0xC⟩, ⟨8, 8, .rwl, 0x20⟩, ⟨0, 8, .rwl, 8⟩]⟩,
  ⟨0x9C, 1, 4, 1, 1, [⟨0, 20, .rwl, 0x61A8⟩]⟩,
  ⟨0xA0, 1, 4, 1, 1, [⟨0, 28, .rwl, 0x3D0900⟩]⟩,
  ⟨0xA4, 1, 4, 1, 1, [⟨16, 12, .rwl, 0⟩, ⟨4, 3, .rwl, 0⟩, ⟨0, 2, .rwl, 0⟩]⟩,
  ⟨0xA8, 1, 4, 1, 1, [⟨16, 16, .rwl, 0x40⟩, ⟨0, 16, .rwl, 0⟩]⟩,
  ⟨0xAC, 1, 4, 1, 1, [⟨1, 1, .cmd, 0⟩, ⟨0, 1, .cmd, 0⟩]⟩,
  ⟨0xB0, 1, 4, 1, 1, [⟨31, 1, .lv, 0⟩, ⟨30, 1, .lv, 0⟩, ⟨16, 3, .lv, 0⟩, ⟨1, 1, .lv, 0⟩]⟩,
  ⟨0xB4, 1, 4, 1, 1, [⟨0, 32, .ro, 0⟩]⟩,
  ⟨0xC0, 4, 4, 1, 1, [⟨31, 1, .rwl, 0⟩, ⟨16, 4, .rwl, 0⟩, ⟨0, 12, .rwl, 0⟩]⟩]

/-! `dec` page: the register tables under R394 of spec/16_feedback.md. -/

def dec_DRAW_COUNT : Fld := ⟨0x40, 0, 32⟩
def dec_DPOS_COUNT : Fld := ⟨0x44, 0, 32⟩
def dec_DZLAT_COUNT : Fld := ⟨0x48, 0, 32⟩
def dec_DILLCNT_COUNT : Fld := ⟨0x4C, 0, 32⟩
def dec_DSPEED_SPEED : Fld := ⟨0x50, 0, 16⟩
def dec_DANGLE_ANGLE : Fld := ⟨0x54, 0, 16⟩
def dec_DPER_TICKS : Fld := ⟨0x58, 0, 28⟩
def dec_DSTEP_STAMP : Fld := ⟨0x5C, 0, 32⟩

/-- The registers of the `dec` page (R394 of spec/16_feedback.md). -/
def decRows : List RegRow := [
  ⟨0x40, 1, 4, 1, 1, [⟨0, 32, .cnt, 0⟩]⟩,
  ⟨0x44, 1, 4, 1, 1, [⟨0, 32, .ro, 0⟩]⟩,
  ⟨0x48, 1, 4, 1, 1, [⟨0, 32, .ro, 0⟩]⟩,
  ⟨0x4C, 1, 4, 1, 1, [⟨0, 32, .cnt, 0⟩]⟩,
  ⟨0x50, 1, 4, 1, 1, [⟨16, 16, .ext, 0⟩, ⟨0, 16, .lv, 0⟩]⟩,
  ⟨0x54, 1, 4, 1, 1, [⟨0, 16, .lv, 0⟩]⟩,
  ⟨0x58, 1, 4, 1, 1, [⟨0, 28, .ro, 0⟩]⟩,
  ⟨0x5C, 1, 4, 1, 1, [⟨0, 32, .ro, 0⟩]⟩]

/-! `ssi` page: the register tables under R395 of spec/16_feedback.md. -/

def ssi_SSFRM0_GRAY : Fld := ⟨0x40, 31, 1⟩
def ssi_SSFRM0_EPOL : Fld := ⟨0x40, 30, 1⟩
def ssi_SSFRM0_PW : Fld := ⟨0x40, 24, 6⟩
def ssi_SSFRM0_STW : Fld := ⟨0x40, 16, 6⟩
def ssi_SSFRM0_LZ : Fld := ⟨0x40, 8, 3⟩
def ssi_SSFRM0_EW : Fld := ⟨0x40, 4, 2⟩
def ssi_SSFRM0_CW : Fld := ⟨0x40, 0, 4⟩
def ssi_SSFRM1_CXOR : Fld := ⟨0x44, 8, 8⟩
def ssi_SSFRM1_CPOLY : Fld := ⟨0x44, 0, 8⟩
def ssi_SSCLK_SDLY : Fld := ⟨0x48, 16, 12⟩
def ssi_SSCLK_DIV : Fld := ⟨0x48, 0, 12⟩
def ssi_SSTRIG_OFS : Fld := ⟨0x4C, 16, 12⟩
def ssi_SSTRIG_BADN : Fld := ⟨0x4C, 8, 8⟩
def ssi_SSTRIG_CAD : Fld := ⟨0x4C, 0, 4⟩
def ssi_SSGAP_TICKS : Fld := ⟨0x50, 0, 16⟩
def ssi_SSDEV_LIM : Fld := ⟨0x54, 0, 16⟩
def ssi_SSPOS_VALUE : Fld := ⟨0x58, 0, 32⟩
def ssi_SSSTAT_GOOD : Fld := ⟨0x5C, 31, 1⟩
def ssi_SSSTAT_CAUSE : Fld := ⟨0x5C, 24, 3⟩
def ssi_SSSTAT_BADRUN : Fld := ⟨0x5C, 16, 8⟩
def ssi_SSSTAT_ANGLE : Fld := ⟨0x5C, 0, 16⟩
def ssi_SSDEVL_DEV : Fld := ⟨0x60, 0, 16⟩
def ssi_SSGOOD_COUNT : Fld := ⟨0x64, 0, 32⟩
def ssi_SSBAD_COUNT : Fld := ⟨0x68, 0, 32⟩
def ssi_SSSKIP_COUNT : Fld := ⟨0x6C, 0, 32⟩

/-- The registers of the `ssi` page (R395 of spec/16_feedback.md). -/
def ssiRows : List RegRow := [
  ⟨0x40, 1, 4, 1, 1, [⟨31, 1, .rwl, 0⟩, ⟨30, 1, .rwl, 0⟩, ⟨24, 6, .rwl, 0x19⟩, ⟨16, 6, .rwl, 0xD⟩, ⟨8, 3, .rwl, 0⟩, ⟨4, 2, .rwl, 0⟩, ⟨0, 4, .rwl, 0⟩]⟩,
  ⟨0x44, 1, 4, 1, 1, [⟨8, 8, .rwl, 0⟩, ⟨0, 8, .rwl, 0⟩]⟩,
  ⟨0x48, 1, 4, 1, 1, [⟨16, 12, .rwl, 0⟩, ⟨0, 12, .rwl, 0x32⟩]⟩,
  ⟨0x4C, 1, 4, 1, 1, [⟨16, 12, .rwl, 0⟩, ⟨8, 8, .rwl, 3⟩, ⟨0, 4, .rwl, 0⟩]⟩,
  ⟨0x50, 1, 4, 1, 1, [⟨0, 16, .rwl, 0x1F40⟩]⟩,
  ⟨0x54, 1, 4, 1, 1, [⟨0, 16, .rwl, 0x40⟩]⟩,
  ⟨0x58, 1, 4, 1, 1, [⟨0, 32, .ro, 0⟩]⟩,
  ⟨0x5C, 1, 4, 1, 1, [⟨31, 1, .lv, 0⟩, ⟨24, 3, .lv, 0⟩, ⟨16, 8, .lv, 0⟩, ⟨0, 16, .lv, 0⟩]⟩,
  ⟨0x60, 1, 4, 1, 1, [⟨16, 16, .ext, 0⟩, ⟨0, 16, .ro, 0⟩]⟩,
  ⟨0x64, 1, 4, 1, 1, [⟨0, 32, .cnt, 0⟩]⟩,
  ⟨0x68, 1, 4, 1, 1, [⟨0, 32, .cnt, 0⟩]⟩,
  ⟨0x6C, 1, 4, 1, 1, [⟨0, 32, .cnt, 0⟩]⟩]

/-! `ck` page: the register tables under R396 of spec/16_feedback.md. -/

def ck_KCTL_FIREPAST : Fld := ⟨0x40, 1, 1⟩
def ck_KCTL_ARM : Fld := ⟨0x40, 0, 1⟩
def ck_KPOS_VALUE : Fld := ⟨0x44, 0, 32⟩
def ck_KSTEP_VALUE : Fld := ⟨0x48, 0, 32⟩
def ck_KSTAT_FIRED : Fld := ⟨0x4C, 31, 1⟩
def ck_KSTAT_BEHIND : Fld := ⟨0x4C, 30, 1⟩
def ck_KSTAMP_STAMP : Fld := ⟨0x50, 0, 32⟩
def ck_KFIRECNT_COUNT : Fld := ⟨0x54, 0, 32⟩

/-- The registers of the `ck` page (R396 of spec/16_feedback.md). -/
def ckRows : List RegRow := [
  ⟨0x40, 1, 4, 1, 1, [⟨1, 1, .rw, 0⟩, ⟨0, 1, .rw, 0⟩]⟩,
  ⟨0x44, 1, 4, 1, 1, [⟨0, 32, .rw, 0⟩]⟩,
  ⟨0x48, 1, 4, 1, 1, [⟨0, 32, .rw, 0⟩]⟩,
  ⟨0x4C, 1, 4, 1, 1, [⟨31, 1, .cor, 0⟩, ⟨30, 1, .lv, 0⟩]⟩,
  ⟨0x50, 1, 4, 1, 1, [⟨0, 32, .ro, 0⟩]⟩,
  ⟨0x54, 1, 4, 1, 1, [⟨0, 32, .cnt, 0⟩]⟩]

/-! `adc` page: the register tables under R417 of spec/17_converters.md. -/

def adc_AINCFG_GAIN (i : Nat) : Fld := ⟨0x100 + 4 * i, 0, 2⟩

/-- The registers of the `adc` page (R417 of spec/17_converters.md). -/
def adcRows : List RegRow := [
  ⟨0x100, 64, 4, 1, 1, [⟨0, 2, .rw, 0⟩]⟩]

/-! `pr` page: the register tables under R418 of spec/17_converters.md. -/

def pr_PCFG_N : Fld := ⟨0x80, 24, 8⟩
def pr_PCFG_WIN : Fld := ⟨0x80, 0, 14⟩
def pr_PSTAT_SUSP : Fld := ⟨0x84, 31, 1⟩
def pr_PSTAT_MISM : Fld := ⟨0x84, 30, 1⟩
def pr_PSTAT_RUN : Fld := ⟨0x84, 0, 8⟩
def pr_PCHKV_CODEB : Fld := ⟨0x88, 16, 14⟩
def pr_PCHKV_CODEA : Fld := ⟨0x88, 0, 14⟩
def pr_PMISCNT_COUNT : Fld := ⟨0x8C, 0, 32⟩
def pr_PCHKCNT_COUNT : Fld := ⟨0x90, 0, 32⟩

/-- The registers of the `pr` page (R418 of spec/17_converters.md). -/
def prRows : List RegRow := [
  ⟨0x80, 1, 4, 1, 1, [⟨24, 8, .rwl, 3⟩, ⟨0, 14, .rwl, 0x20⟩]⟩,
  ⟨0x84, 1, 4, 1, 1, [⟨31, 1, .lv, 0⟩, ⟨30, 1, .lv, 0⟩, ⟨0, 8, .lv, 0⟩]⟩,
  ⟨0x88, 1, 4, 1, 1, [⟨16, 14, .ro, 0⟩, ⟨0, 14, .ro, 0⟩]⟩,
  ⟨0x8C, 1, 4, 1, 1, [⟨0, 32, .cnt, 0⟩]⟩,
  ⟨0x90, 1, 4, 1, 1, [⟨0, 32, .cnt, 0⟩]⟩]

/-! `cv` page: the register tables under R419 of spec/17_converters.md. -/

def cv_CVCFG_LP : Fld := ⟨0x40, 0, 1⟩
def cv_CVCTL_UTRIG1 : Fld := ⟨0x44, 9, 1⟩
def cv_CVCTL_UTRIG0 : Fld := ⟨0x44, 8, 1⟩
def cv_CVCTL_RESTORE : Fld := ⟨0x44, 2, 1⟩
def cv_CVCTL_REL : Fld := ⟨0x44, 1, 1⟩
def cv_CVCTL_CAL : Fld := ⟨0x44, 0, 1⟩
def cv_CVRES_DONE : Fld := ⟨0x48, 31, 1⟩
def cv_CVRES_REFUSED : Fld := ⟨0x48, 30, 1⟩
def cv_CVRES_ABORTED : Fld := ⟨0x48, 29, 1⟩
def cv_CVRES_ABORTLATE : Fld := ⟨0x48, 28, 1⟩
def cv_CVRES_CAUSE : Fld := ⟨0x48, 0, 4⟩
def cv_CVSTAT_RELEASED : Fld := ⟨0x4C, 31, 1⟩
def cv_CVSTAT_CALIB : Fld := ⟨0x4C, 30, 1⟩
def cv_CVSTAT_COVERING : Fld := ⟨0x4C, 29, 1⟩
def cv_CALF_GAIN : Fld := ⟨0x50, 16, 16⟩
def cv_CALF_OFS : Fld := ⟨0x50, 0, 16⟩
def cv_CVCOVER_MAP : Fld := ⟨0x54, 0, 32⟩
def cv_CVCONV_COUNT : Fld := ⟨0x58, 0, 32⟩
def cv_CVLATE_COUNT : Fld := ⟨0x5C, 0, 32⟩
def cv_CVBUFCFG_FMT : Fld := ⟨0x60, 31, 1⟩
def cv_CVBUFCFG_WMARK : Fld := ⟨0x60, 0, 16⟩
def cv_CVWRPTR_OFFSET : Fld := ⟨0x64, 0, 20⟩
def cv_CVRDPTR_OFFSET : Fld := ⟨0x68, 0, 20⟩
def cv_CVFILL_COUNT : Fld := ⟨0x6C, 0, 19⟩
def cv_CVOVF_OVF : Fld := ⟨0x70, 31, 1⟩
def cv_CVOVFCNT_COUNT : Fld := ⟨0x74, 0, 32⟩
def cv_CVSEQ_SEQ : Fld := ⟨0x78, 0, 8⟩
def cv_UREQA_EN (i : Nat) : Fld := ⟨0x80 + 8 * i, 31, 1⟩
def cv_UREQA_KIND (i : Nat) : Fld := ⟨0x80 + 8 * i, 29, 2⟩
def cv_UREQA_REC (i : Nat) : Fld := ⟨0x80 + 8 * i, 28, 1⟩
def cv_UREQA_SRCNUM (i : Nat) : Fld := ⟨0x80 + 8 * i, 0, 7⟩
def cv_UREQB_PUB (i : Nat) : Fld := ⟨0x84 + 8 * i, 31, 1⟩
def cv_UREQB_IN (i : Nat) : Fld := ⟨0x84 + 8 * i, 12, 7⟩
def cv_UREQB_SIG (i : Nat) : Fld := ⟨0x84 + 8 * i, 0, 12⟩
def cv_UCNT_COUNT : Fld := ⟨0x90, 0, 32⟩
def cv_UMERGE_COUNT : Fld := ⟨0x94, 0, 32⟩
def cv_QSLOTA_EN (i : Nat) : Fld := ⟨0x100 + 8 * i, 31, 1⟩
def cv_QSLOTA_KIND (i : Nat) : Fld := ⟨0x100 + 8 * i, 30, 1⟩
def cv_QSLOTA_ALT (i : Nat) : Fld := ⟨0x100 + 8 * i, 29, 1⟩
def cv_QSLOTA_REC (i : Nat) : Fld := ⟨0x100 + 8 * i, 28, 1⟩
def cv_QSLOTA_CAD (i : Nat) : Fld := ⟨0x100 + 8 * i, 24, 4⟩
def cv_QSLOTA_OFS (i : Nat) : Fld := ⟨0x100 + 8 * i, 0, 20⟩
def cv_QSLOTB_PUB (i : Nat) : Fld := ⟨0x104 + 8 * i, 31, 1⟩
def cv_QSLOTB_FK (i : Nat) : Fld := ⟨0x104 + 8 * i, 28, 3⟩
def cv_QSLOTB_INB (i : Nat) : Fld := ⟨0x104 + 8 * i, 20, 7⟩
def cv_QSLOTB_INA (i : Nat) : Fld := ⟨0x104 + 8 * i, 12, 7⟩
def cv_QSLOTB_SIG (i : Nat) : Fld := ⟨0x104 + 8 * i, 0, 12⟩
def cv_QRES_INV (i : Nat) : Fld := ⟨0x200 + 4 * i, 31, 1⟩
def cv_QRES_CLIP (i : Nat) : Fld := ⟨0x200 + 4 * i, 30, 1⟩
def cv_QRES_VALUE (i : Nat) : Fld := ⟨0x200 + 4 * i, 0, 16⟩

/-- The registers of the `cv` page (R419 of spec/17_converters.md). -/
def cvRows : List RegRow := [
  ⟨0x40, 1, 4, 1, 1, [⟨0, 1, .rwl, 0⟩]⟩,
  ⟨0x44, 1, 4, 1, 1, [⟨9, 1, .cmd, 0⟩, ⟨8, 1, .cmd, 0⟩, ⟨2, 1, .cmd, 0⟩, ⟨1, 1, .cmd, 0⟩, ⟨0, 1, .cmd, 0⟩]⟩,
  ⟨0x48, 1, 4, 1, 1, [⟨31, 1, .cor, 0⟩, ⟨30, 1, .cor, 0⟩, ⟨29, 1, .cor, 0⟩, ⟨28, 1, .cor, 0⟩, ⟨0, 4, .cor, 0⟩]⟩,
  ⟨0x4C, 1, 4, 1, 1, [⟨31, 1, .lv, 0⟩, ⟨30, 1, .lv, 0⟩, ⟨29, 1, .lv, 0⟩]⟩,
  ⟨0x50, 1, 4, 1, 1, [⟨16, 16, .rw, 0x4000⟩, ⟨0, 16, .rw, 0⟩]⟩,
  ⟨0x54, 1, 4, 1, 1, [⟨0, 32, .rw, 0⟩]⟩,
  ⟨0x58, 1, 4, 1, 1, [⟨0, 32, .cnt, 0⟩]⟩,
  ⟨0x5C, 1, 4, 1, 1, [⟨0, 32, .cnt, 0⟩]⟩,
  ⟨0x60, 1, 4, 1, 1, [⟨31, 1, .rwl, 0⟩, ⟨0, 16, .rw, 0⟩]⟩,
  ⟨0x64, 1, 4, 1, 1, [⟨0, 20, .ro, 0⟩]⟩,
  ⟨0x68, 1, 4, 1, 1, [⟨0, 20, .rw, 0⟩]⟩,
  ⟨0x6C, 1, 4, 1, 1, [⟨0, 19, .lv, 0⟩]⟩,
  ⟨0x70, 1, 4, 1, 1, [⟨31, 1, .cor, 0⟩]⟩,
  ⟨0x74, 1, 4, 1, 1, [⟨0, 32, .cnt, 0⟩]⟩,
  ⟨0x78, 1, 4, 1, 1, [⟨0, 8, .ro, 0⟩]⟩,
  ⟨0x80, 2, 8, 1, 1, [⟨31, 1, .rwl, 0⟩, ⟨29, 2, .rwl, 0⟩, ⟨28, 1, .rwl, 0⟩, ⟨0, 7, .rwl, 0⟩]⟩,
  ⟨0x84, 2, 8, 1, 1, [⟨31, 1, .rwl, 0⟩, ⟨12, 7, .rwl, 0⟩, ⟨0, 12, .rwl, 0⟩]⟩,
  ⟨0x90, 1, 4, 1, 1, [⟨0, 32, .cnt, 0⟩]⟩,
  ⟨0x94, 1, 4, 1, 1, [⟨0, 32, .cnt, 0⟩]⟩,
  ⟨0x100, 32, 8, 1, 1, [⟨31, 1, .rwl, 0⟩, ⟨30, 1, .rwl, 0⟩, ⟨29, 1, .rwl, 0⟩, ⟨28, 1, .rwl, 0⟩, ⟨24, 4, .rwl, 0⟩, ⟨0, 20, .rwl, 0⟩]⟩,
  ⟨0x104, 32, 8, 1, 1, [⟨31, 1, .rwl, 0⟩, ⟨28, 3, .rw, 0⟩, ⟨20, 7, .rwl, 0⟩, ⟨12, 7, .rwl, 0⟩, ⟨0, 12, .rwl, 0⟩]⟩,
  ⟨0x200, 32, 4, 1, 1, [⟨31, 1, .lv, 0⟩, ⟨30, 1, .lv, 0⟩, ⟨0, 16, .lv, 0⟩]⟩]

/-! `wg` page: the register tables under R420 of spec/17_converters.md. -/

def wg_WIN_HI (i : Nat) : Fld := ⟨0x40 + 4 * i, 16, 16⟩
def wg_WIN_LO (i : Nat) : Fld := ⟨0x40 + 4 * i, 0, 16⟩
def wg_WSTAT_BELOW : Fld := ⟨0x60, 8, 8⟩
def wg_WSTAT_ABOVE : Fld := ⟨0x60, 0, 8⟩
def wg_WACT_COUNT (i : Nat) : Fld := ⟨0x80 + 4 * i, 0, 32⟩

/-- The registers of the `wg` page (R420 of spec/17_converters.md). -/
def wgRows : List RegRow := [
  ⟨0x40, 8, 4, 1, 1, [⟨16, 16, .rwl, 0x7FF0⟩, ⟨0, 16, .rwl, 0x8000⟩]⟩,
  ⟨0x60, 1, 4, 1, 1, [⟨8, 8, .lv, 0⟩, ⟨0, 8, .lv, 0⟩]⟩,
  ⟨0x80, 8, 4, 1, 1, [⟨0, 32, .cnt, 0⟩]⟩]

/-! `sq` page: the register tables under R449 of spec/18_tables_sequencers.md. -/

def sq_SQCFG_TRIG : Fld := ⟨0x40, 30, 2⟩
def sq_SQCFG_CAD : Fld := ⟨0x40, 20, 4⟩
def sq_SQCFG_TABLE : Fld := ⟨0x40, 0, 16⟩
def sq_SQOFS_TICKS : Fld := ⟨0x44, 0, 28⟩
def sq_SQEVT_SRC : Fld := ⟨0x48, 16, 9⟩
def sq_SQEVT_BIT : Fld := ⟨0x48, 0, 5⟩
def sq_SQCTL_RESTART : Fld := ⟨0x4C, 0, 1⟩
def sq_SQSTAT_ENTERING : Fld := ⟨0x50, 31, 1⟩
def sq_SQSTAT_PEND : Fld := ⟨0x50, 30, 1⟩
def sq_SQSTAT_STOPPED : Fld := ⟨0x50, 29, 1⟩
def sq_SQSTAT_STATE : Fld := ⟨0x50, 16, 6⟩
def sq_SQSTAT_LASTTR : Fld := ⟨0x50, 0, 9⟩
def sq_SQENTRY_STAMP : Fld := ⟨0x54, 0, 32⟩
def sq_SQSTEPS_COUNT : Fld := ⟨0x58, 0, 32⟩
def sq_SQMISS_COUNT : Fld := ⟨0x5C, 0, 32⟩
def sq_SQERR_ERR : Fld := ⟨0x60, 31, 1⟩
def sq_SQERR_CAUSE : Fld := ⟨0x60, 12, 3⟩
def sq_SQERR_ACTION : Fld := ⟨0x60, 0, 10⟩
def sq_SQSIG_EN (i : Nat) : Fld := ⟨0x80 + 4 * i, 31, 1⟩
def sq_SQSIG_SIG (i : Nat) : Fld := ⟨0x80 + 4 * i, 0, 12⟩

/-- The registers of the `sq` page (R449 of spec/18_tables_sequencers.md). -/
def sqRows : List RegRow := [
  ⟨0x40, 1, 4, 1, 1, [⟨30, 2, .rwl, 0⟩, ⟨20, 4, .rwl, 0⟩, ⟨0, 16, .rwl, 0⟩]⟩,
  ⟨0x44, 1, 4, 1, 1, [⟨0, 28, .rwl, 0⟩]⟩,
  ⟨0x48, 1, 4, 1, 1, [⟨16, 9, .rwl, 0⟩, ⟨0, 5, .rwl, 0⟩]⟩,
  ⟨0x4C, 1, 4, 1, 1, [⟨0, 1, .cmd, 0⟩]⟩,
  ⟨0x50, 1, 4, 1, 1, [⟨31, 1, .lv, 1⟩, ⟨30, 1, .lv, 0⟩, ⟨29, 1, .lv, 0⟩, ⟨16, 6, .lv, 0⟩, ⟨0, 9, .lv, 0x1FF⟩]⟩,
  ⟨0x54, 1, 4, 1, 1, [⟨0, 32, .ro, 0⟩]⟩,
  ⟨0x58, 1, 4, 1, 1, [⟨0, 32, .cnt, 0⟩]⟩,
  ⟨0x5C, 1, 4, 1, 1, [⟨0, 32, .cnt, 0⟩]⟩,
  ⟨0x60, 1, 4, 1, 1, [⟨31, 1, .cor, 0⟩, ⟨12, 3, .cor, 0⟩, ⟨0, 10, .cor, 0⟩]⟩,
  ⟨0x80, 8, 4, 1, 1, [⟨31, 1, .rwl, 0⟩, ⟨0, 12, .rwl, 0⟩]⟩]

/-! `tbk` page: the register tables under R450 of spec/18_tables_sequencers.md. -/

def tbk_TBCTL_SWITCH : Fld := ⟨0x40, 17, 1⟩
def tbk_TBCTL_CHECK : Fld := ⟨0x40, 16, 1⟩
def tbk_TBCTL_CBANK : Fld := ⟨0x40, 8, 1⟩
def tbk_TBCTL_CAD : Fld := ⟨0x40, 0, 4⟩
def tbk_TBRES_DONE : Fld := ⟨0x44, 31, 1⟩
def tbk_TBRES_REFUSED : Fld := ⟨0x44, 30, 1⟩
def tbk_TBRES_ABORTED : Fld := ⟨0x44, 29, 1⟩
def tbk_TBRES_ABORTLATE : Fld := ⟨0x44, 28, 1⟩
def tbk_TBRES_CAUSE : Fld := ⟨0x44, 0, 4⟩
def tbk_TBSTAT_ACTIVE : Fld := ⟨0x48, 31, 1⟩
def tbk_TBSTAT_PEND : Fld := ⟨0x48, 30, 1⟩
def tbk_TBSTAT_CHKBUSY : Fld := ⟨0x48, 29, 1⟩
def tbk_TBSTAT_BANKOK : Fld := ⟨0x48, 8, 2⟩
def tbk_TBFAIL_CAUSE : Fld := ⟨0x4C, 28, 4⟩
def tbk_TBFAIL_TABLE : Fld := ⟨0x4C, 0, 16⟩
def tbk_TBSWCNT_COUNT : Fld := ⟨0x50, 0, 32⟩
def tbk_TBSWSTAMP_STAMP : Fld := ⟨0x54, 0, 32⟩
def tbk_TBIMG_IMGID (i : Nat) : Fld := ⟨0x58 + 4 * i, 0, 32⟩
def tbk_MAPA_EN (i : Nat) : Fld := ⟨0x100 + 0x10 * i, 31, 1⟩
def tbk_MAPA_CAD (i : Nat) : Fld := ⟨0x100 + 0x10 * i, 24, 4⟩
def tbk_MAPA_TABLE (i : Nat) : Fld := ⟨0x100 + 0x10 * i, 0, 16⟩
def tbk_MAPB_YSIG (i : Nat) : Fld := ⟨0x104 + 0x10 * i, 16, 12⟩
def tbk_MAPB_XSIG (i : Nat) : Fld := ⟨0x104 + 0x10 * i, 0, 12⟩
def tbk_MAPC_OFS (i : Nat) : Fld := ⟨0x108 + 0x10 * i, 16, 12⟩
def tbk_MAPC_OUTSIG (i : Nat) : Fld := ⟨0x108 + 0x10 * i, 0, 12⟩
def tbk_MAPD_VALUE (i : Nat) : Fld := ⟨0x10C + 0x10 * i, 0, 16⟩

/-- The registers of the `tbk` page (R450 of spec/18_tables_sequencers.md). -/
def tbkRows : List RegRow := [
  ⟨0x40, 1, 4, 1, 1, [⟨17, 1, .cmd, 0⟩, ⟨16, 1, .cmd, 0⟩, ⟨8, 1, .rw, 0⟩, ⟨0, 4, .rw, 0⟩]⟩,
  ⟨0x44, 1, 4, 1, 1, [⟨31, 1, .cor, 0⟩, ⟨30, 1, .cor, 0⟩, ⟨29, 1, .cor, 0⟩, ⟨28, 1, .cor, 0⟩, ⟨0, 4, .cor, 0⟩]⟩,
  ⟨0x48, 1, 4, 1, 1, [⟨31, 1, .lv, 0⟩, ⟨30, 1, .lv, 0⟩, ⟨29, 1, .lv, 0⟩, ⟨8, 2, .lv, 0⟩]⟩,
  ⟨0x4C, 1, 4, 1, 1, [⟨28, 4, .ro, 0⟩, ⟨0, 16, .ro, 0⟩]⟩,
  ⟨0x50, 1, 4, 1, 1, [⟨0, 32, .cnt, 0⟩]⟩,
  ⟨0x54, 1, 4, 1, 1, [⟨0, 32, .ro, 0⟩]⟩,
  ⟨0x58, 2, 4, 1, 1, [⟨0, 32, .ro, 0⟩]⟩,
  ⟨0x100, 8, 16, 1, 1, [⟨31, 1, .rwl, 0⟩, ⟨24, 4, .rwl, 0⟩, ⟨0, 16, .rwl, 0⟩]⟩,
  ⟨0x104, 8, 16, 1, 1, [⟨16, 12, .rwl, 0⟩, ⟨0, 12, .rwl, 0⟩]⟩,
  ⟨0x108, 8, 16, 1, 1, [⟨16, 12, .rwl, 0⟩, ⟨0, 12, .rwl, 0⟩]⟩,
  ⟨0x10C, 8, 16, 1, 1, [⟨16, 16, .ext, 0⟩, ⟨0, 16, .ro, 0⟩]⟩]

/-! `cn` page: the register tables under R472 of spec/19_can.md. -/

def cn_CNCFG_FDEN : Fld := ⟨0x40, 31, 1⟩
def cn_CNCFG_PXE : Fld := ⟨0x40, 30, 1⟩
def cn_CNCFG_MON : Fld := ⟨0x40, 29, 1⟩
def cn_CNCFG_BOAUTO : Fld := ⟨0x40, 28, 1⟩
def cn_CNCFG_TXPRI : Fld := ⟨0x40, 27, 1⟩
def cn_CNBTA_SJW : Fld := ⟨0x44, 25, 7⟩
def cn_CNBTA_TSEG2 : Fld := ⟨0x44, 18, 7⟩
def cn_CNBTA_TSEG1 : Fld := ⟨0x44, 10, 8⟩
def cn_CNBTA_BRP : Fld := ⟨0x44, 0, 5⟩
def cn_CNBTD_SJW : Fld := ⟨0x48, 28, 4⟩
def cn_CNBTD_TSEG2 : Fld := ⟨0x48, 24, 4⟩
def cn_CNBTD_TSEG1 : Fld := ⟨0x48, 16, 5⟩
def cn_CNBTD_BRP : Fld := ⟨0x48, 0, 5⟩
def cn_CNTDC_EN : Fld := ⟨0x4C, 31, 1⟩
def cn_CNTDC_TDCO : Fld := ⟨0x4C, 16, 7⟩
def cn_CNTDC_TDCV : Fld := ⟨0x4C, 0, 7⟩
def cn_CNCTL_RECOVER : Fld := ⟨0x50, 0, 1⟩
def cn_CNSTAT_TXING : Fld := ⟨0x54, 31, 1⟩
def cn_CNSTAT_RXING : Fld := ⟨0x54, 30, 1⟩
def cn_CNSTAT_STATE : Fld := ⟨0x54, 0, 3⟩
def cn_CNERR_TEC : Fld := ⟨0x58, 16, 9⟩
def cn_CNERR_REC : Fld := ⟨0x58, 0, 8⟩
def cn_CNLEC_ERR : Fld := ⟨0x5C, 31, 1⟩
def cn_CNLEC_TX : Fld := ⟨0x5C, 30, 1⟩
def cn_CNLEC_DATA : Fld := ⟨0x5C, 29, 1⟩
def cn_CNLEC_CAUSE : Fld := ⟨0x5C, 0, 3⟩
def cn_CNRXACK_GO : Fld := ⟨0x60, 31, 1⟩
def cn_CNRXACK_OBJ : Fld := ⟨0x60, 16, 8⟩
def cn_CNRXACK_SEQ : Fld := ⟨0x60, 0, 16⟩
def cn_CNOBJ_NOBJ : Fld := ⟨0x64, 0, 9⟩
def cn_CNRXCNT_COUNT : Fld := ⟨0x68, 0, 32⟩
def cn_CNTXCNT_COUNT : Fld := ⟨0x6C, 0, 32⟩
def cn_CNUNMCNT_COUNT : Fld := ⟨0x70, 0, 32⟩
def cn_CNRTRCNT_COUNT : Fld := ⟨0x74, 0, 32⟩
def cn_CNERRCNT_COUNT : Fld := ⟨0x78, 0, 32⟩
def cn_CNFMTCNT_COUNT : Fld := ⟨0x7C, 0, 32⟩
def cn_RXNEW_NEW (i : Nat) : Fld := ⟨0x80 + 4 * i, 0, 32⟩
def cn_RXLOST_LOST (i : Nat) : Fld := ⟨0xA0 + 4 * i, 0, 32⟩
def cn_TXCTL_OS (i : Nat) : Fld := ⟨0x100 + 0x80 * i, 30, 1⟩
def cn_TXCTL_FDF (i : Nat) : Fld := ⟨0x100 + 0x80 * i, 29, 1⟩
def cn_TXCTL_BRS (i : Nat) : Fld := ⟨0x100 + 0x80 * i, 28, 1⟩
def cn_TXCTL_IDE (i : Nat) : Fld := ⟨0x100 + 0x80 * i, 27, 1⟩
def cn_TXCTL_BYTES (i : Nat) : Fld := ⟨0x100 + 0x80 * i, 16, 7⟩
def cn_TXID_ID (i : Nat) : Fld := ⟨0x104 + 0x80 * i, 0, 29⟩
def cn_TXRES_DONE (i : Nat) : Fld := ⟨0x108 + 0x80 * i, 31, 1⟩
def cn_TXRES_REFUSED (i : Nat) : Fld := ⟨0x108 + 0x80 * i, 30, 1⟩
def cn_TXRES_ABORTED (i : Nat) : Fld := ⟨0x108 + 0x80 * i, 29, 1⟩
def cn_TXRES_ABORTLATE (i : Nat) : Fld := ⟨0x108 + 0x80 * i, 28, 1⟩
def cn_TXRES_CAUSE (i : Nat) : Fld := ⟨0x108 + 0x80 * i, 0, 4⟩
def cn_TXCMD_REQ (i : Nat) : Fld := ⟨0x10C + 0x80 * i, 0, 1⟩
def cn_TXSTAMP_STAMP (i : Nat) : Fld := ⟨0x110 + 0x80 * i, 0, 32⟩
def cn_TXDATA_DATA (i : Nat) (j : Nat) : Fld := ⟨0x140 + 0x80 * i + 4 * j, 0, 32⟩

/-- The registers of the `cn` page (R472 of spec/19_can.md). -/
def cnRows : List RegRow := [
  ⟨0x40, 1, 4, 1, 1, [⟨31, 1, .rwl, 0⟩, ⟨30, 1, .rwl, 0⟩, ⟨29, 1, .rwl, 0⟩, ⟨28, 1, .rwl, 0⟩, ⟨27, 1, .rw, 0⟩]⟩,
  ⟨0x44, 1, 4, 1, 1, [⟨25, 7, .rwl, 0⟩, ⟨18, 7, .rwl, 0⟩, ⟨10, 8, .rwl, 0⟩, ⟨0, 5, .rwl, 0⟩]⟩,
  ⟨0x48, 1, 4, 1, 1, [⟨28, 4, .rwl, 0⟩, ⟨24, 4, .rwl, 0⟩, ⟨16, 5, .rwl, 0⟩, ⟨0, 5, .rwl, 0⟩]⟩,
  ⟨0x4C, 1, 4, 1, 1, [⟨31, 1, .rwl, 0⟩, ⟨16, 7, .rwl, 0⟩, ⟨0, 7, .ro, 0⟩]⟩,
  ⟨0x50, 1, 4, 1, 1, [⟨0, 1, .cmd, 0⟩]⟩,
  ⟨0x54, 1, 4, 1, 1, [⟨31, 1, .lv, 0⟩, ⟨30, 1, .lv, 0⟩, ⟨0, 3, .lv, 0⟩]⟩,
  ⟨0x58, 1, 4, 1, 1, [⟨16, 9, .ro, 0⟩, ⟨0, 8, .ro, 0⟩]⟩,
  ⟨0x5C, 1, 4, 1, 1, [⟨31, 1, .cor, 0⟩, ⟨30, 1, .cor, 0⟩, ⟨29, 1, .cor, 0⟩, ⟨0, 3, .cor, 0⟩]⟩,
  ⟨0x60, 1, 4, 1, 1, [⟨31, 1, .cmd, 0⟩, ⟨16, 8, .rw, 0⟩, ⟨0, 16, .rw, 0⟩]⟩,
  ⟨0x64, 1, 4, 1, 1, [⟨0, 9, .ro, 0⟩]⟩,
  ⟨0x68, 1, 4, 1, 1, [⟨0, 32, .cnt, 0⟩]⟩,
  ⟨0x6C, 1, 4, 1, 1, [⟨0, 32, .cnt, 0⟩]⟩,
  ⟨0x70, 1, 4, 1, 1, [⟨0, 32, .cnt, 0⟩]⟩,
  ⟨0x74, 1, 4, 1, 1, [⟨0, 32, .cnt, 0⟩]⟩,
  ⟨0x78, 1, 4, 1, 1, [⟨0, 32, .cnt, 0⟩]⟩,
  ⟨0x7C, 1, 4, 1, 1, [⟨0, 32, .cnt, 0⟩]⟩,
  ⟨0x80, 8, 4, 1, 1, [⟨0, 32, .lv, 0⟩]⟩,
  ⟨0xA0, 8, 4, 1, 1, [⟨0, 32, .lv, 0⟩]⟩,
  ⟨0x100, 3, 128, 1, 1, [⟨30, 1, .rw, 0⟩, ⟨29, 1, .rw, 0⟩, ⟨28, 1, .rw, 0⟩, ⟨27, 1, .rw, 0⟩, ⟨16, 7, .rw, 0⟩]⟩,
  ⟨0x104, 3, 128, 1, 1, [⟨0, 29, .rw, 0⟩]⟩,
  ⟨0x108, 3, 128, 1, 1, [⟨31, 1, .cor, 0⟩, ⟨30, 1, .cor, 0⟩, ⟨29, 1, .cor, 0⟩, ⟨28, 1, .cor, 0⟩, ⟨0, 4, .cor, 0⟩]⟩,
  ⟨0x10C, 3, 128, 1, 1, [⟨0, 1, .cmd, 0⟩]⟩,
  ⟨0x110, 3, 128, 1, 1, [⟨0, 32, .ro, 0⟩]⟩,
  ⟨0x140, 3, 128, 16, 4, [⟨0, 32, .rw, 0⟩]⟩]

/-! `srv` page: the register tables under R509 of spec/20_redundant_pair.md. -/

def srv_SVCFG_PAIREN : Fld := ⟨0x40, 31, 1⟩
def srv_SVCFG_DRSPD : Fld := ⟨0x40, 16, 15⟩
def srv_SVCFG_DRTIME : Fld := ⟨0x40, 0, 16⟩
def srv_TAKEOVER_ARM_FLT : Fld := ⟨0x44, 3, 1⟩
def srv_TAKEOVER_ARM_HB : Fld := ⟨0x44, 2, 1⟩
def srv_TAKEOVER_ARM_REL : Fld := ⟨0x44, 1, 1⟩
def srv_TAKEOVER_ARM_ARM : Fld := ⟨0x44, 0, 1⟩
def srv_SVCMD_DRILL : Fld := ⟨0x48, 2, 1⟩
def srv_SVCMD_CLAIM : Fld := ⟨0x48, 0, 1⟩
def srv_SVRES_DONE : Fld := ⟨0x4C, 31, 1⟩
def srv_SVRES_REFUSED : Fld := ⟨0x4C, 30, 1⟩
def srv_SVRES_ABORTED : Fld := ⟨0x4C, 29, 1⟩
def srv_SVRES_ABORTLATE : Fld := ⟨0x4C, 28, 1⟩
def srv_SVRES_CAUSE : Fld := ⟨0x4C, 0, 4⟩
def srv_SVSTAT_TOKEN : Fld := ⟨0x50, 31, 1⟩
def srv_SVSTAT_AUTH : Fld := ⟨0x50, 30, 1⟩
def srv_SVSTAT_SERVEO : Fld := ⟨0x50, 29, 1⟩
def srv_SVSTAT_SERVEI : Fld := ⟨0x50, 28, 1⟩
def srv_SVSTAT_PRI : Fld := ⟨0x50, 27, 1⟩
def srv_SVSTAT_PPRI : Fld := ⟨0x50, 26, 1⟩
def srv_SVSTAT_CONT : Fld := ⟨0x50, 25, 1⟩
def srv_SVSTAT_PRIMED : Fld := ⟨0x50, 24, 1⟩
def srv_SVSTAT_PMODE : Fld := ⟨0x50, 20, 4⟩
def srv_SVSTAT_PRICONF : Fld := ⟨0x50, 19, 1⟩
def srv_SVSTAT_STATE : Fld := ⟨0x50, 0, 3⟩
def srv_SVSEQ_SEQ : Fld := ⟨0x54, 0, 32⟩
def srv_SVPSEQ_SEQ : Fld := ⟨0x58, 0, 32⟩
def srv_TKSTAT_TRIG : Fld := ⟨0x5C, 28, 4⟩
def srv_TKSTAMP_STAMP : Fld := ⟨0x60, 0, 32⟩
def srv_TKDUR_TICKS : Fld := ⟨0x64, 0, 32⟩
def srv_TKAGE_TICKS : Fld := ⟨0x68, 0, 32⟩
def srv_LETLAST_TICKS : Fld := ⟨0x6C, 0, 12⟩
def srv_TKCNT_COUNT : Fld := ⟨0x70, 0, 32⟩
def srv_CONTCNT_COUNT : Fld := ⟨0x74, 0, 32⟩
def srv_DRELAPSE_SECONDS : Fld := ⟨0x78, 0, 32⟩

/-- The registers of the `srv` page (R509 of spec/20_redundant_pair.md). -/
def srvRows : List RegRow := [
  ⟨0x40, 1, 4, 1, 1, [⟨31, 1, .rwl, 0⟩, ⟨16, 15, .rwl, 0x59⟩, ⟨0, 16, .rwl, 0x32⟩]⟩,
  ⟨0x44, 1, 4, 1, 1, [⟨3, 1, .rw, 0⟩, ⟨2, 1, .rw, 0⟩, ⟨1, 1, .rw, 0⟩, ⟨0, 1, .rw, 0⟩]⟩,
  ⟨0x48, 1, 4, 1, 1, [⟨2, 1, .cmd, 0⟩, ⟨0, 1, .cmd, 0⟩]⟩,
  ⟨0x4C, 1, 4, 1, 1, [⟨31, 1, .cor, 0⟩, ⟨30, 1, .cor, 0⟩, ⟨29, 1, .cor, 0⟩, ⟨28, 1, .cor, 0⟩, ⟨0, 4, .cor, 0⟩]⟩,
  ⟨0x50, 1, 4, 1, 1, [⟨31, 1, .lv, 0⟩, ⟨30, 1, .lv, 0⟩, ⟨29, 1, .lv, 0⟩, ⟨28, 1, .lv, 0⟩, ⟨27, 1, .lv, 0⟩, ⟨26, 1, .lv, 0⟩, ⟨25, 1, .lv, 0⟩, ⟨24, 1, .lv, 0⟩, ⟨20, 4, .lv, 0⟩, ⟨19, 1, .lv, 0⟩, ⟨0, 3, .lv, 0⟩]⟩,
  ⟨0x54, 1, 4, 1, 1, [⟨0, 32, .ro, 0⟩]⟩,
  ⟨0x58, 1, 4, 1, 1, [⟨0, 32, .ro, 0⟩]⟩,
  ⟨0x5C, 1, 4, 1, 1, [⟨28, 4, .ro, 0⟩]⟩,
  ⟨0x60, 1, 4, 1, 1, [⟨0, 32, .ro, 0⟩]⟩,
  ⟨0x64, 1, 4, 1, 1, [⟨0, 32, .ro, 0⟩]⟩,
  ⟨0x68, 1, 4, 1, 1, [⟨0, 32, .ro, 0⟩]⟩,
  ⟨0x6C, 1, 4, 1, 1, [⟨0, 12, .ro, 0⟩]⟩,
  ⟨0x70, 1, 4, 1, 1, [⟨0, 32, .cnt, 0⟩]⟩,
  ⟨0x74, 1, 4, 1, 1, [⟨0, 32, .cnt, 0⟩]⟩,
  ⟨0x78, 1, 4, 1, 1, [⟨0, 32, .ro, 0xFFFFFFFF⟩]⟩]

/-! `rly` page: the register tables under R510 of spec/20_redundant_pair.md. -/

def rly_RLCFG_EN : Fld := ⟨0x40, 31, 1⟩
def rly_RLCFG_LEDGER : Fld := ⟨0x40, 30, 1⟩
def rly_RLCFG_CAD : Fld := ⟨0x40, 16, 4⟩
def rly_RLCFG_ARNMASK : Fld := ⟨0x40, 0, 16⟩
def rly_RLHB_HBTO : Fld := ⟨0x44, 16, 16⟩
def rly_RLHB_HBPER : Fld := ⟨0x44, 0, 16⟩
def rly_RLSQMASK_SQ : Fld := ⟨0x48, 0, 32⟩
def rly_RLPOS_AC : Fld := ⟨0x4C, 8, 3⟩
def rly_RLPOS_FB : Fld := ⟨0x4C, 0, 6⟩
def rly_RLSOMASK_SO : Fld := ⟨0x50, 0, 8⟩
def rly_RLARNN_N : Fld := ⟨0x54, 0, 8⟩
def rly_RLSTAT_UP : Fld := ⟨0x58, 31, 1⟩
def rly_RLSTAT_PRXOK : Fld := ⟨0x58, 30, 1⟩
def rly_RLSTAT_TRAINED : Fld := ⟨0x58, 29, 1⟩
def rly_RLSTAT_WORDS : Fld := ⟨0x58, 0, 10⟩
def rly_RLLAT_LAT : Fld := ⟨0x5C, 0, 16⟩
def rly_RLFRTX_COUNT : Fld := ⟨0x60, 0, 32⟩
def rly_RLFRRX_COUNT : Fld := ⟨0x64, 0, 32⟩
def rly_RLCRC_COUNT : Fld := ⟨0x68, 0, 32⟩
def rly_RLLOST_COUNT : Fld := ⟨0x6C, 0, 32⟩
def rly_RLAPPLY_STAMP : Fld := ⟨0x70, 0, 32⟩
def rly_RLAGE_TICKS : Fld := ⟨0x74, 0, 32⟩
def rly_RLFRNUM_NUM : Fld := ⟨0x78, 0, 32⟩
def rly_RLRESYNC_COUNT : Fld := ⟨0x7C, 0, 32⟩
def rly_MIRPOD_EN (i : Nat) : Fld := ⟨0x200 + 4 * i, 31, 1⟩
def rly_MIRPOD_NGRP (i : Nat) : Fld := ⟨0x200 + 4 * i, 20, 4⟩
def rly_MIRPOD_ACC (i : Nat) : Fld := ⟨0x200 + 4 * i, 0, 16⟩

/-- The registers of the `rly` page (R510 of spec/20_redundant_pair.md). -/
def rlyRows : List RegRow := [
  ⟨0x40, 1, 4, 1, 1, [⟨31, 1, .rwl, 0⟩, ⟨30, 1, .rwl, 0⟩, ⟨16, 4, .rwl, 1⟩, ⟨0, 16, .rwl, 0⟩]⟩,
  ⟨0x44, 1, 4, 1, 1, [⟨16, 16, .rwl, 0x1F40⟩, ⟨0, 16, .rwl, 0x320⟩]⟩,
  ⟨0x48, 1, 4, 1, 1, [⟨0, 32, .rwl, 0⟩]⟩,
  ⟨0x4C, 1, 4, 1, 1, [⟨8, 3, .rwl, 0⟩, ⟨0, 6, .rwl, 0⟩]⟩,
  ⟨0x50, 1, 4, 1, 1, [⟨0, 8, .rwl, 0⟩]⟩,
  ⟨0x54, 1, 4, 1, 1, [⟨0, 8, .rwl, 4⟩]⟩,
  ⟨0x58, 1, 4, 1, 1, [⟨31, 1, .lv, 0⟩, ⟨30, 1, .lv, 0⟩, ⟨29, 1, .lv, 0⟩, ⟨0, 10, .ro, 0⟩]⟩,
  ⟨0x5C, 1, 4, 1, 1, [⟨0, 16, .ro, 0⟩]⟩,
  ⟨0x60, 1, 4, 1, 1, [⟨0, 32, .cnt, 0⟩]⟩,
  ⟨0x64, 1, 4, 1, 1, [⟨0, 32, .cnt, 0⟩]⟩,
  ⟨0x68, 1, 4, 1, 1, [⟨0, 32, .cnt, 0⟩]⟩,
  ⟨0x6C, 1, 4, 1, 1, [⟨0, 32, .cnt, 0⟩]⟩,
  ⟨0x70, 1, 4, 1, 1, [⟨0, 32, .ro, 0⟩]⟩,
  ⟨0x74, 1, 4, 1, 1, [⟨0, 32, .ro, 0⟩]⟩,
  ⟨0x78, 1, 4, 1, 1, [⟨0, 32, .ro, 0⟩]⟩,
  ⟨0x7C, 1, 4, 1, 1, [⟨0, 32, .cnt, 0⟩]⟩,
  ⟨0x200, 128, 4, 1, 1, [⟨31, 1, .rwl, 0⟩, ⟨20, 4, .rwl, 0⟩, ⟨0, 16, .rwl, 0⟩]⟩]

/-! `ssv` page: the register tables under R545 of spec/21_safety.md. -/

def ssv_SHCAUSE_CAUSE : Fld := ⟨0x80, 0, 16⟩
def ssv_SHFIRST_VALID : Fld := ⟨0x84, 31, 1⟩
def ssv_SHFIRST_CAUSE : Fld := ⟨0x84, 16, 5⟩
def ssv_SHFIRST_SRC : Fld := ⟨0x84, 0, 9⟩
def ssv_SHSTAMP_STAMP : Fld := ⟨0x88, 0, 32⟩
def ssv_SHCMD_REQ : Fld := ⟨0x8C, 1, 1⟩
def ssv_SHCMD_CLR : Fld := ⟨0x8C, 0, 1⟩
def ssv_SHCNT_COUNT : Fld := ⟨0x90, 0, 32⟩
def ssv_STOCFG_MODE : Fld := ⟨0xA0, 31, 1⟩
def ssv_STOCFG_DISC : Fld := ⟨0xA0, 16, 8⟩
def ssv_STOCFG_SOFT : Fld := ⟨0xA0, 8, 4⟩
def ssv_STOCFG_FLT : Fld := ⟨0xA0, 0, 3⟩
def ssv_STOSTAT_ACTIVE : Fld := ⟨0xA4, 31, 1⟩
def ssv_STOSTAT_INT : Fld := ⟨0xA4, 30, 1⟩
def ssv_STOSTAT_INA : Fld := ⟨0xA4, 29, 1⟩
def ssv_STOSTAT_INB : Fld := ⟨0xA4, 28, 1⟩
def ssv_STOSTAT_DISC : Fld := ⟨0xA4, 27, 1⟩

/-- The registers of the `ssv` page (R545 of spec/21_safety.md). -/
def ssvRows : List RegRow := [
  ⟨0x80, 1, 4, 1, 1, [⟨0, 16, .ro, 0⟩]⟩,
  ⟨0x84, 1, 4, 1, 1, [⟨31, 1, .cor, 0⟩, ⟨16, 5, .cor, 0⟩, ⟨0, 9, .cor, 0⟩]⟩,
  ⟨0x88, 1, 4, 1, 1, [⟨0, 32, .ro, 0⟩]⟩,
  ⟨0x8C, 1, 4, 1, 1, [⟨1, 1, .cmd, 0⟩, ⟨0, 1, .cmd, 0⟩]⟩,
  ⟨0x90, 1, 4, 1, 1, [⟨0, 32, .cnt, 0⟩]⟩,
  ⟨0xA0, 1, 4, 1, 1, [⟨31, 1, .rwl, 0⟩, ⟨16, 8, .rwl, 0xA⟩, ⟨8, 4, .rwl, 2⟩, ⟨0, 3, .rwl, 3⟩]⟩,
  ⟨0xA4, 1, 4, 1, 1, [⟨31, 1, .lv, 0⟩, ⟨30, 1, .lv, 0⟩, ⟨29, 1, .lv, 0⟩, ⟨28, 1, .lv, 0⟩, ⟨27, 1, .lv, 0⟩]⟩]

/-! `dgk` page: the register tables under R546 of spec/21_safety.md. -/

def dgk_DGCFG_TBN : Fld := ⟨0x40, 24, 4⟩
def dgk_DGCFG_TBTOL : Fld := ⟨0x40, 0, 8⟩
def dgk_DGLT_LANE : Fld := ⟨0x44, 16, 16⟩
def dgk_DGLT_PAIR : Fld := ⟨0x44, 0, 16⟩
def dgk_DGSTAT_SUPPLY : Fld := ⟨0x48, 8, 5⟩
def dgk_DGSTAT_LOSS : Fld := ⟨0x48, 0, 3⟩
def dgk_TBMCNT_COUNT : Fld := ⟨0x4C, 0, 16⟩
def dgk_TBMERR_COUNT : Fld := ⟨0x50, 0, 32⟩

/-- The registers of the `dgk` page (R546 of spec/21_safety.md). -/
def dgkRows : List RegRow := [
  ⟨0x40, 1, 4, 1, 1, [⟨24, 4, .rwl, 2⟩, ⟨0, 8, .rwl, 0x50⟩]⟩,
  ⟨0x44, 1, 4, 1, 1, [⟨16, 16, .rwl, 0⟩, ⟨0, 16, .rwl, 0xA⟩]⟩,
  ⟨0x48, 1, 4, 1, 1, [⟨8, 5, .lv, 0⟩, ⟨0, 3, .lv, 0⟩]⟩,
  ⟨0x4C, 1, 4, 1, 1, [⟨0, 16, .ro, 0⟩]⟩,
  ⟨0x50, 1, 4, 1, 1, [⟨0, 32, .cnt, 0⟩]⟩]

/-! `sfk` page: the register tables under R547 of spec/21_safety.md. -/

def sfk_SFCFG_SLS : Fld := ⟨0x40, 31, 1⟩
def sfk_SFCFG_SDI : Fld := ⟨0x40, 30, 1⟩
def sfk_SFCFG_SLP : Fld := ⟨0x40, 29, 1⟩
def sfk_SFCFG_SS1 : Fld := ⟨0x40, 28, 1⟩
def sfk_SFCFG_SS1M : Fld := ⟨0x40, 27, 1⟩
def sfk_SFCFG_M : Fld := ⟨0x40, 16, 6⟩
def sfk_SFCFG_SPDN : Fld := ⟨0x40, 0, 8⟩
def sfk_SPDSRC_SIGB : Fld := ⟨0x44, 16, 12⟩
def sfk_SPDSRC_SIGA : Fld := ⟨0x44, 0, 12⟩
def sfk_SPDMUL_TOL : Fld := ⟨0x48, 16, 15⟩
def sfk_SPDMUL_MULB : Fld := ⟨0x48, 8, 5⟩
def sfk_SPDMUL_MULA : Fld := ⟨0x48, 0, 5⟩
def sfk_SLS_DEC (i : Nat) : Fld := ⟨0x50 + 4 * i, 16, 16⟩
def sfk_SLS_LIMIT (i : Nat) : Fld := ⟨0x50 + 4 * i, 0, 15⟩
def sfk_POSSRC_VALSIG : Fld := ⟨0x60, 16, 12⟩
def sfk_POSSRC_POSSIG : Fld := ⟨0x60, 0, 12⟩
def sfk_SLPSRC_VALSIG : Fld := ⟨0x64, 16, 12⟩
def sfk_SLPSRC_POSSIG : Fld := ⟨0x64, 0, 12⟩
def sfk_SDITOL_DIR : Fld := ⟨0x68, 31, 1⟩
def sfk_SDITOL_TOL : Fld := ⟨0x68, 0, 24⟩
def sfk_SLPLO_VALUE : Fld := ⟨0x6C, 0, 32⟩
def sfk_SLPHI_VALUE : Fld := ⟨0x70, 0, 32⟩
def sfk_SS1T_STOP : Fld := ⟨0x74, 16, 15⟩
def sfk_SS1T_TIME : Fld := ⟨0x74, 0, 16⟩
def sfk_SS1R_TOL : Fld := ⟨0x78, 16, 15⟩
def sfk_SS1R_RATE : Fld := ⟨0x78, 0, 15⟩
def sfk_SFREACT_SLP : Fld := ⟨0x7C, 8, 2⟩
def sfk_SFREACT_SDI : Fld := ⟨0x7C, 4, 2⟩
def sfk_SFREACT_SLS : Fld := ⟨0x7C, 0, 2⟩
def sfk_SFCMD_NOT : Fld := ⟨0x80, 16, 16⟩
def sfk_SFCMD_STOREQ : Fld := ⟨0x80, 7, 1⟩
def sfk_SFCMD_SS1REQ : Fld := ⟨0x80, 6, 1⟩
def sfk_SFCMD_SLP : Fld := ⟨0x80, 5, 1⟩
def sfk_SFCMD_SDI : Fld := ⟨0x80, 4, 1⟩
def sfk_SFCMD_SLSSEL : Fld := ⟨0x80, 0, 3⟩
def sfk_SFSTAT_VIOL : Fld := ⟨0x84, 31, 1⟩
def sfk_SFSTAT_VFUNC : Fld := ⟨0x84, 28, 3⟩
def sfk_SFSTAT_SS1PH : Fld := ⟨0x84, 24, 3⟩
def sfk_SFSTAT_SLPON : Fld := ⟨0x84, 22, 1⟩
def sfk_SFSTAT_SDION : Fld := ⟨0x84, 21, 1⟩
def sfk_SFSTAT_DECRUN : Fld := ⟨0x84, 19, 1⟩
def sfk_SFSTAT_SLSSEL : Fld := ⟨0x84, 16, 3⟩
def sfk_SFSPD_V : Fld := ⟨0x88, 16, 16⟩
def sfk_SFSPD_MEAN : Fld := ⟨0x88, 0, 16⟩
def sfk_SDIREF_VALUE : Fld := ⟨0x8C, 0, 32⟩
def sfk_SFVSTAMP_STAMP : Fld := ⟨0x90, 0, 32⟩
def sfk_SFPUB_EN (i : Nat) : Fld := ⟨0xA0 + 4 * i, 31, 1⟩
def sfk_SFPUB_QIDX (i : Nat) : Fld := ⟨0xA0 + 4 * i, 16, 4⟩
def sfk_SFPUB_SIG (i : Nat) : Fld := ⟨0xA0 + 4 * i, 0, 12⟩

/-- The registers of the `sfk` page (R547 of spec/21_safety.md). -/
def sfkRows : List RegRow := [
  ⟨0x40, 1, 4, 1, 1, [⟨31, 1, .rwl, 0⟩, ⟨30, 1, .rwl, 0⟩, ⟨29, 1, .rwl, 0⟩, ⟨28, 1, .rwl, 0⟩, ⟨27, 1, .rwl, 0⟩, ⟨16, 6, .rwl, 0x28⟩, ⟨0, 8, .rwl, 0x14⟩]⟩,
  ⟨0x44, 1, 4, 1, 1, [⟨16, 12, .rwl, 0⟩, ⟨0, 12, .rwl, 0⟩]⟩,
  ⟨0x48, 1, 4, 1, 1, [⟨16, 15, .rwl, 0x7FFF⟩, ⟨8, 5, .rwl, 1⟩, ⟨0, 5, .rwl, 1⟩]⟩,
  ⟨0x50, 4, 4, 1, 1, [⟨16, 16, .rwl, 0⟩, ⟨0, 15, .rwl, 0x7FFF⟩]⟩,
  ⟨0x60, 1, 4, 1, 1, [⟨16, 12, .rwl, 0⟩, ⟨0, 12, .rwl, 0⟩]⟩,
  ⟨0x64, 1, 4, 1, 1, [⟨16, 12, .rwl, 0⟩, ⟨0, 12, .rwl, 0⟩]⟩,
  ⟨0x68, 1, 4, 1, 1, [⟨31, 1, .rwl, 0⟩, ⟨0, 24, .rwl, 0⟩]⟩,
  ⟨0x6C, 1, 4, 1, 1, [⟨0, 32, .rwl, 0x80000000⟩]⟩,
  ⟨0x70, 1, 4, 1, 1, [⟨0, 32, .rwl, 0x7FFFFFFF⟩]⟩,
  ⟨0x74, 1, 4, 1, 1, [⟨16, 15, .rwl, 0⟩, ⟨0, 16, .rwl, 0x3E8⟩]⟩,
  ⟨0x78, 1, 4, 1, 1, [⟨16, 15, .rwl, 0⟩, ⟨0, 15, .rwl, 0⟩]⟩,
  ⟨0x7C, 1, 4, 1, 1, [⟨8, 2, .rwl, 0⟩, ⟨4, 2, .rwl, 0⟩, ⟨0, 2, .rwl, 0⟩]⟩,
  ⟨0x80, 1, 4, 1, 1, [⟨16, 16, .rw, 0xFFFB⟩, ⟨7, 1, .rw, 0⟩, ⟨6, 1, .rw, 0⟩, ⟨5, 1, .rw, 0⟩, ⟨4, 1, .rw, 0⟩, ⟨0, 3, .rw, 4⟩]⟩,
  ⟨0x84, 1, 4, 1, 1, [⟨31, 1, .lv, 0⟩, ⟨28, 3, .lv, 0⟩, ⟨24, 3, .lv, 0⟩, ⟨22, 1, .lv, 0⟩, ⟨21, 1, .lv, 0⟩, ⟨19, 1, .lv, 0⟩, ⟨16, 3, .lv, 4⟩]⟩,
  ⟨0x88, 1, 4, 1, 1, [⟨16, 16, .lv, 0⟩, ⟨0, 16, .lv, 0⟩]⟩,
  ⟨0x8C, 1, 4, 1, 1, [⟨0, 32, .ro, 0⟩]⟩,
  ⟨0x90, 1, 4, 1, 1, [⟨0, 32, .ro, 0⟩]⟩,
  ⟨0xA0, 2, 4, 1, 1, [⟨31, 1, .rwl, 0⟩, ⟨16, 4, .rwl, 0⟩, ⟨0, 12, .rwl, 0⟩]⟩]

/-! `sos` page: the register tables under R548 of spec/21_safety.md. -/

def sos_SOTCFG_PER : Fld := ⟨0x80, 16, 16⟩
def sos_SOTCFG_TPW : Fld := ⟨0x80, 0, 9⟩
def sos_SOTCMD_TESTALL : Fld := ⟨0x84, 0, 1⟩
def sos_SOTRES_DONE : Fld := ⟨0x88, 31, 1⟩
def sos_SOTRES_REFUSED : Fld := ⟨0x88, 30, 1⟩
def sos_SOTRES_ABORTED : Fld := ⟨0x88, 29, 1⟩
def sos_SOTRES_ABORTLATE : Fld := ⟨0x88, 28, 1⟩
def sos_SOTRES_CAUSE : Fld := ⟨0x88, 0, 4⟩
def sos_SOSUM_FAULT : Fld := ⟨0x8C, 16, 8⟩
def sos_SOSUM_TEST : Fld := ⟨0x8C, 8, 8⟩
def sos_SOSUM_ON : Fld := ⟨0x8C, 0, 8⟩

/-- The registers of the `sos` page (R548 of spec/21_safety.md). -/
def sosRows : List RegRow := [
  ⟨0x80, 1, 4, 1, 1, [⟨16, 16, .rwl, 0x3C⟩, ⟨0, 9, .rwl, 0x12C⟩]⟩,
  ⟨0x84, 1, 4, 1, 1, [⟨0, 1, .cmd, 0⟩]⟩,
  ⟨0x88, 1, 4, 1, 1, [⟨31, 1, .cor, 0⟩, ⟨30, 1, .cor, 0⟩, ⟨29, 1, .cor, 0⟩, ⟨28, 1, .cor, 0⟩, ⟨0, 4, .cor, 0⟩]⟩,
  ⟨0x8C, 1, 4, 1, 1, [⟨16, 8, .lv, 0⟩, ⟨8, 8, .lv, 0⟩, ⟨0, 8, .lv, 0⟩]⟩]

/-! `so` page: the register tables under R549 of spec/21_safety.md. -/

def so_SOCFG_KEEP : Fld := ⟨0x40, 31, 1⟩
def so_SOCFG_STO : Fld := ⟨0x40, 30, 1⟩
def so_SOCFG_TESTEN : Fld := ⟨0x40, 29, 1⟩
def so_SOCTL_ON : Fld := ⟨0x44, 0, 1⟩
def so_SOSTAT_CMD : Fld := ⟨0x48, 31, 1⟩
def so_SOSTAT_HSW : Fld := ⟨0x48, 30, 1⟩
def so_SOSTAT_LSW : Fld := ⟨0x48, 29, 1⟩
def so_SOSTAT_RBH : Fld := ⟨0x48, 28, 1⟩
def so_SOSTAT_RBL : Fld := ⟨0x48, 27, 1⟩
def so_SOSTAT_TEST : Fld := ⟨0x48, 26, 1⟩
def so_SOSTAT_FLT : Fld := ⟨0x48, 25, 1⟩
def so_SOSTAT_OWNER : Fld := ⟨0x48, 8, 3⟩
def so_SOFC_VALID : Fld := ⟨0x4C, 31, 1⟩
def so_SOFC_CAUSE : Fld := ⟨0x4C, 0, 3⟩
def so_SOTCNT_COUNT : Fld := ⟨0x50, 0, 32⟩
def so_SOTSTAMP_STAMP : Fld := ⟨0x54, 0, 32⟩

/-- The registers of the `so` page (R549 of spec/21_safety.md). -/
def soRows : List RegRow := [
  ⟨0x40, 1, 4, 1, 1, [⟨31, 1, .rwl, 0⟩, ⟨30, 1, .rwl, 0⟩, ⟨29, 1, .rwl, 0⟩]⟩,
  ⟨0x44, 1, 4, 1, 1, [⟨0, 1, .rw, 0⟩]⟩,
  ⟨0x48, 1, 4, 1, 1, [⟨31, 1, .lv, 0⟩, ⟨30, 1, .lv, 0⟩, ⟨29, 1, .lv, 0⟩, ⟨28, 1, .lv, 0⟩, ⟨27, 1, .lv, 0⟩, ⟨26, 1, .lv, 0⟩, ⟨25, 1, .lv, 0⟩, ⟨8, 3, .lv, 0⟩]⟩,
  ⟨0x4C, 1, 4, 1, 1, [⟨31, 1, .cor, 0⟩, ⟨0, 3, .cor, 0⟩]⟩,
  ⟨0x50, 1, 4, 1, 1, [⟨0, 32, .cnt, 0⟩]⟩,
  ⟨0x54, 1, 4, 1, 1, [⟨0, 32, .ro, 0⟩]⟩]

/-! `thm` page: the register tables under R564 of spec/22_thermal_ledger.md. -/

def thm_THCFG_OFS : Fld := ⟨0x80, 16, 12⟩
def thm_THCFG_CAD : Fld := ⟨0x80, 0, 4⟩
def thm_THSTAT_TJMAXSLOT : Fld := ⟨0x84, 24, 5⟩
def thm_THSTAT_TJMAX : Fld := ⟨0x84, 0, 16⟩
def thm_THPUB_EN (i : Nat) : Fld := ⟨0xC0 + 4 * i, 31, 1⟩
def thm_THPUB_QIDX (i : Nat) : Fld := ⟨0xC0 + 4 * i, 16, 7⟩
def thm_THPUB_SIG (i : Nat) : Fld := ⟨0xC0 + 4 * i, 0, 12⟩

/-- The registers of the `thm` page (R564 of spec/22_thermal_ledger.md). -/
def thmRows : List RegRow := [
  ⟨0x80, 1, 4, 1, 1, [⟨16, 12, .rwl, 0⟩, ⟨0, 4, .rwl, 2⟩]⟩,
  ⟨0x84, 1, 4, 1, 1, [⟨24, 5, .lv, 0⟩, ⟨0, 16, .lv, 0⟩]⟩,
  ⟨0xC0, 8, 4, 1, 1, [⟨31, 1, .rwl, 0⟩, ⟨16, 7, .rwl, 0⟩, ⟨0, 12, .rwl, 0⟩]⟩]

/-! `loss` page: the register tables under R565 of spec/22_thermal_ledger.md. -/

def loss_SLCFG_EN (i : Nat) : Fld := ⟨0x100 + 0x40 * i, 31, 1⟩
def loss_SLCFG_STAGE (i : Nat) : Fld := ⟨0x100 + 0x40 * i, 24, 4⟩
def loss_SLCFG_SW (i : Nat) : Fld := ⟨0x100 + 0x40 * i, 16, 4⟩
def loss_SLCFG_ISIG (i : Nat) : Fld := ⟨0x100 + 0x40 * i, 0, 12⟩
def loss_SLSIG_VSIG (i : Nat) : Fld := ⟨0x104 + 0x40 * i, 16, 12⟩
def loss_SLSIG_NTCSIG (i : Nat) : Fld := ⟨0x104 + 0x40 * i, 0, 12⟩
def loss_SLSCALE_VFS (i : Nat) : Fld := ⟨0x108 + 0x40 * i, 16, 16⟩
def loss_SLSCALE_IFS (i : Nat) : Fld := ⟨0x108 + 0x40 * i, 0, 16⟩
def loss_SLCOND_V0 (i : Nat) : Fld := ⟨0x10C + 0x40 * i, 16, 16⟩
def loss_SLCOND_RON (i : Nat) : Fld := ⟨0x10C + 0x40 * i, 0, 16⟩
def loss_SLSW0_ESW (i : Nat) : Fld := ⟨0x110 + 0x40 * i, 16, 16⟩
def loss_SLSW0_IREF (i : Nat) : Fld := ⟨0x110 + 0x40 * i, 0, 16⟩
def loss_SLSW1_VREF (i : Nat) : Fld := ⟨0x114 + 0x40 * i, 0, 16⟩
def loss_FOST_RTH (i : Nat) (j : Nat) : Fld := ⟨0x118 + 0x40 * i + 4 * j, 16, 16⟩
def loss_FOST_ALPHA (i : Nat) (j : Nat) : Fld := ⟨0x118 + 0x40 * i + 4 * j, 0, 16⟩
def loss_SLTJ_TJ (i : Nat) : Fld := ⟨0x128 + 0x40 * i, 0, 16⟩
def loss_SLP_MW (i : Nat) : Fld := ⟨0x12C + 0x40 * i, 0, 24⟩
def loss_SLTPK_PEAK (i : Nat) : Fld := ⟨0x130 + 0x40 * i, 0, 16⟩

/-- The registers of the `loss` page (R565 of spec/22_thermal_ledger.md). -/
def lossRows : List RegRow := [
  ⟨0x100, 24, 64, 1, 1, [⟨31, 1, .rwl, 0⟩, ⟨24, 4, .rwl, 0⟩, ⟨16, 4, .rwl, 0⟩, ⟨0, 12, .rwl, 0⟩]⟩,
  ⟨0x104, 24, 64, 1, 1, [⟨16, 12, .rwl, 0⟩, ⟨0, 12, .rwl, 0⟩]⟩,
  ⟨0x108, 24, 64, 1, 1, [⟨16, 16, .rwl, 0⟩, ⟨0, 16, .rwl, 0⟩]⟩,
  ⟨0x10C, 24, 64, 1, 1, [⟨16, 16, .rwl, 0⟩, ⟨0, 16, .rwl, 0⟩]⟩,
  ⟨0x110, 24, 64, 1, 1, [⟨16, 16, .rwl, 0⟩, ⟨0, 16, .rwl, 0⟩]⟩,
  ⟨0x114, 24, 64, 1, 1, [⟨0, 16, .rwl, 0⟩]⟩,
  ⟨0x118, 24, 64, 4, 4, [⟨16, 16, .rwl, 0⟩, ⟨0, 16, .rwl, 0⟩]⟩,
  ⟨0x128, 24, 64, 1, 1, [⟨16, 16, .ext, 0⟩, ⟨0, 16, .lv, 0⟩]⟩,
  ⟨0x12C, 24, 64, 1, 1, [⟨0, 24, .lv, 0⟩]⟩,
  ⟨0x130, 24, 64, 1, 1, [⟨0, 16, .cor, 0⟩]⟩]

/-! `rfl` page: the register tables under R566 of spec/22_thermal_ledger.md. -/

def rfl_RFHYS_THYS : Fld := ⟨0x40, 0, 15⟩
def rfl_RFBIN0_MBW : Fld := ⟨0x44, 16, 15⟩
def rfl_RFBIN0_RBW : Fld := ⟨0x44, 0, 15⟩
def rfl_RFBIN1_MLO : Fld := ⟨0x48, 0, 16⟩
def rfl_RFDMG_EN : Fld := ⟨0x4C, 31, 1⟩
def rfl_RFDMG_DSHIFT : Fld := ⟨0x4C, 24, 5⟩
def rfl_RFDMG_DTAB : Fld := ⟨0x4C, 0, 16⟩
def rfl_RFMISS_COUNT : Fld := ⟨0x50, 0, 32⟩
def rfl_RFOVF_COUNT : Fld := ⟨0x54, 0, 32⟩

/-- The registers of the `rfl` page (R566 of spec/22_thermal_ledger.md). -/
def rflRows : List RegRow := [
  ⟨0x40, 1, 4, 1, 1, [⟨0, 15, .rwl, 0x80⟩]⟩,
  ⟨0x44, 1, 4, 1, 1, [⟨16, 15, .rwl, 0xA00⟩, ⟨0, 15, .rwl, 0x280⟩]⟩,
  ⟨0x48, 1, 4, 1, 1, [⟨0, 16, .rwl, 0xA00⟩]⟩,
  ⟨0x4C, 1, 4, 1, 1, [⟨31, 1, .rwl, 0⟩, ⟨24, 5, .rwl, 1⟩, ⟨0, 16, .rwl, 0⟩]⟩,
  ⟨0x50, 1, 4, 1, 1, [⟨0, 32, .cnt, 0⟩]⟩,
  ⟨0x54, 1, 4, 1, 1, [⟨0, 32, .cnt, 0⟩]⟩]

/-! `led` page: the register tables under R567 of spec/22_thermal_ledger.md. -/

def led_LFRESH_SLOT : Fld := ⟨0x40, 0, 24⟩
def led_LMLOST_COUNT : Fld := ⟨0x44, 0, 32⟩
def led_LUPD_COUNT : Fld := ⟨0x48, 0, 32⟩
def led_LDAMLO_VALUE (i : Nat) : Fld := ⟨0x100 + 0x10 * i, 0, 32⟩
def led_LDAMHI_VALUE (i : Nat) : Fld := ⟨0x104 + 0x10 * i, 0, 32⟩
def led_LCYCLO_VALUE (i : Nat) : Fld := ⟨0x108 + 0x10 * i, 0, 32⟩
def led_LCYCHI_VALUE (i : Nat) : Fld := ⟨0x10C + 0x10 * i, 0, 32⟩

/-- The registers of the `led` page (R567 of spec/22_thermal_ledger.md). -/
def ledRows : List RegRow := [
  ⟨0x40, 1, 4, 1, 1, [⟨0, 24, .cor, 0⟩]⟩,
  ⟨0x44, 1, 4, 1, 1, [⟨0, 32, .cnt, 0⟩]⟩,
  ⟨0x48, 1, 4, 1, 1, [⟨0, 32, .cnt, 0⟩]⟩,
  ⟨0x100, 24, 16, 1, 1, [⟨0, 32, .ro, 0⟩]⟩,
  ⟨0x104, 24, 16, 1, 1, [⟨0, 32, .ro, 0⟩]⟩,
  ⟨0x108, 24, 16, 1, 1, [⟨0, 32, .ro, 0⟩]⟩,
  ⟨0x10C, 24, 16, 1, 1, [⟨0, 32, .ro, 0⟩]⟩]

/-! `psc` page: the register tables under R580 of spec/23_memory_integrity.md. -/

def psc_MICFG_CELIM : Fld := ⟨0x40, 0, 16⟩
def psc_MISTAT_MEM : Fld := ⟨0x44, 30, 2⟩
def psc_MISTAT_INDEX : Fld := ⟨0x44, 0, 17⟩
def psc_CEPOD_COUNT : Fld := ⟨0x48, 0, 32⟩
def psc_CETBL_COUNT : Fld := ⟨0x4C, 0, 32⟩
def psc_CEPOOL_COUNT : Fld := ⟨0x50, 0, 32⟩
def psc_UECNT_COUNT : Fld := ⟨0x54, 0, 32⟩
def psc_UNCDROP_COUNT : Fld := ⟨0x58, 0, 32⟩
def psc_MILOG_VALID : Fld := ⟨0x5C, 31, 1⟩
def psc_MILOG_UNC : Fld := ⟨0x5C, 30, 1⟩
def psc_MILOG_MEM : Fld := ⟨0x5C, 28, 2⟩
def psc_MILOG_SYMS : Fld := ⟨0x5C, 26, 2⟩
def psc_MILOG_INDEX : Fld := ⟨0x5C, 0, 17⟩
def psc_MISTAMP_STAMP : Fld := ⟨0x60, 0, 32⟩
def psc_PASSCNT_COUNT : Fld := ⟨0x64, 0, 32⟩
def psc_PASSSTAMP_STAMP : Fld := ⟨0x68, 0, 32⟩
def psc_PASSDUR_TICKS : Fld := ⟨0x6C, 0, 32⟩
def psc_CSSTAT_ARMED : Fld := ⟨0x80, 31, 1⟩
def psc_CSSTAT_MISM : Fld := ⟨0x80, 30, 1⟩
def psc_CSSTAT_BUSY : Fld := ⟨0x80, 29, 1⟩
def psc_CSREF_CRC : Fld := ⟨0x84, 0, 32⟩
def psc_CSLAST_CRC : Fld := ⟨0x88, 0, 32⟩
def psc_CSCNT_COUNT : Fld := ⟨0x8C, 0, 32⟩
def psc_CSERR_COUNT : Fld := ⟨0x90, 0, 32⟩
def psc_CSSTAMP_STAMP : Fld := ⟨0x94, 0, 32⟩

/-- The registers of the `psc` page (R580 of spec/23_memory_integrity.md). -/
def pscRows : List RegRow := [
  ⟨0x40, 1, 4, 1, 1, [⟨0, 16, .rwl, 0x40⟩]⟩,
  ⟨0x44, 1, 4, 1, 1, [⟨30, 2, .lv, 0⟩, ⟨0, 17, .lv, 0⟩]⟩,
  ⟨0x48, 1, 4, 1, 1, [⟨0, 32, .cnt, 0⟩]⟩,
  ⟨0x4C, 1, 4, 1, 1, [⟨0, 32, .cnt, 0⟩]⟩,
  ⟨0x50, 1, 4, 1, 1, [⟨0, 32, .cnt, 0⟩]⟩,
  ⟨0x54, 1, 4, 1, 1, [⟨0, 32, .cnt, 0⟩]⟩,
  ⟨0x58, 1, 4, 1, 1, [⟨0, 32, .cnt, 0⟩]⟩,
  ⟨0x5C, 1, 4, 1, 1, [⟨31, 1, .cor, 0⟩, ⟨30, 1, .cor, 0⟩, ⟨28, 2, .cor, 0⟩, ⟨26, 2, .cor, 0⟩, ⟨0, 17, .cor, 0⟩]⟩,
  ⟨0x60, 1, 4, 1, 1, [⟨0, 32, .ro, 0⟩]⟩,
  ⟨0x64, 1, 4, 1, 1, [⟨0, 32, .cnt, 0⟩]⟩,
  ⟨0x68, 1, 4, 1, 1, [⟨0, 32, .ro, 0⟩]⟩,
  ⟨0x6C, 1, 4, 1, 1, [⟨0, 32, .ro, 0⟩]⟩,
  ⟨0x80, 1, 4, 1, 1, [⟨31, 1, .lv, 0⟩, ⟨30, 1, .lv, 0⟩, ⟨29, 1, .lv, 0⟩]⟩,
  ⟨0x84, 1, 4, 1, 1, [⟨0, 32, .ro, 0⟩]⟩,
  ⟨0x88, 1, 4, 1, 1, [⟨0, 32, .ro, 0⟩]⟩,
  ⟨0x8C, 1, 4, 1, 1, [⟨0, 32, .cnt, 0⟩]⟩,
  ⟨0x90, 1, 4, 1, 1, [⟨0, 32, .cnt, 0⟩]⟩,
  ⟨0x94, 1, 4, 1, 1, [⟨0, 32, .ro, 0⟩]⟩]

end Sys2Proof.Machine
end

