-- ==== Sys2Proof/Machine/RegMapPower.lean ====
section
/-!
DEFINITION. The register map, part 2: the GCU, REG, OBC and ACT families.
Each `<page>_<REGISTER>_<FIELD>` names one field by its offset in the page, its lowest bit and its width,
and each `<page>Rows` lists the registers of a page with the kind (R94) and the reset value of every field,
as the register tables of the rules named in front of it give them.
-/

namespace Sys2Proof.Machine

/-! `trac` page: the register tables under R253 of spec/10_traction.md. -/

def trac_TCFG_LOADPT : Fld := ⟨0x80, 16, 2⟩
def trac_TCFG_OVM : Fld := ⟨0x80, 12, 1⟩
def trac_TCFG_CLAMP : Fld := ⟨0x80, 8, 2⟩
def trac_TCFG_MOD : Fld := ⟨0x80, 4, 2⟩
def trac_TCFG_MACH : Fld := ⟨0x80, 0, 1⟩
def trac_TCAR_PERIOD : Fld := ⟨0x84, 0, 20⟩
def trac_TCSYNC_EN : Fld := ⟨0x88, 31, 1⟩
def trac_TCSYNC_PHASE : Fld := ⟨0x88, 0, 20⟩
def trac_TMINP_TICKS : Fld := ⟨0x8C, 0, 12⟩
def trac_TVDC_MIN : Fld := ⟨0x90, 16, 15⟩
def trac_TVDC_SIG : Fld := ⟨0x90, 0, 12⟩
def trac_TVFS_VFS : Fld := ⟨0x94, 0, 16⟩
def trac_TANG_OMSHIFT : Fld := ⟨0x98, 16, 4⟩
def trac_TTHOFS_THOFS : Fld := ⟨0x9C, 0, 28⟩
def trac_TCUR_EN (i : Nat) : Fld := ⟨0xA0 + 4 * i, 31, 1⟩
def trac_TCUR_SIG (i : Nat) : Fld := ⟨0xA0 + 4 * i, 0, 12⟩
def trac_TOFS_WIN : Fld := ⟨0xB0, 0, 15⟩
def trac_TPOS_POLES : Fld := ⟨0xC0, 16, 5⟩
def trac_TPOS_SENOFS : Fld := ⟨0xC0, 0, 16⟩
def trac_TSRC_SELOFS : Fld := ⟨0xC4, 16, 12⟩
def trac_TSRC_FBEN : Fld := ⟨0xC4, 1, 1⟩
def trac_TSRC_SRC : Fld := ⟨0xC4, 0, 1⟩
def trac_TSEN0_SPD : Fld := ⟨0xC8, 16, 12⟩
def trac_TSEN0_ANG : Fld := ⟨0xC8, 0, 12⟩
def trac_TSEN1_TQSIG : Fld := ⟨0xCC, 16, 12⟩
def trac_TSEN1_SIG : Fld := ⟨0xCC, 0, 12⟩
def trac_TOBS0_SPD : Fld := ⟨0xD0, 16, 12⟩
def trac_TOBS0_ANG : Fld := ⟨0xD0, 0, 12⟩
def trac_TOBS1_LOCKTH : Fld := ⟨0xD4, 16, 15⟩
def trac_TOBS1_SIG : Fld := ⟨0xD4, 0, 12⟩
def trac_TLOSS_RELOCK : Fld := ⟨0xE0, 16, 8⟩
def trac_TLOSS_RELOCKN : Fld := ⟨0xE0, 8, 4⟩
def trac_TLOSS_LOSSN : Fld := ⟨0xE0, 0, 4⟩
def trac_TFADE_FBLIM : Fld := ⟨0xE4, 16, 15⟩
def trac_TFADE_RATE : Fld := ⟨0xE4, 0, 15⟩
def trac_TASC_EN : Fld := ⟨0xE8, 31, 1⟩
def trac_TASC_SPEED : Fld := ⟨0xE8, 0, 15⟩
def trac_TDIV_N : Fld := ⟨0xEC, 16, 8⟩
def trac_TDIV_LIM : Fld := ⟨0xEC, 0, 16⟩
def trac_TPCTL_RESEL : Fld := ⟨0xF0, 0, 1⟩
def trac_TPUB_EN (i : Nat) : Fld := ⟨0x100 + 4 * i, 31, 1⟩
def trac_TPUB_QIDX (i : Nat) : Fld := ⟨0x100 + 4 * i, 16, 4⟩
def trac_TPUB_SIG (i : Nat) : Fld := ⟨0x100 + 4 * i, 0, 12⟩
def trac_TPSTAT_LOCK : Fld := ⟨0x120, 31, 1⟩
def trac_TPSTAT_SENV : Fld := ⟨0x120, 30, 1⟩
def trac_TPSTAT_VLIM : Fld := ⟨0x120, 29, 1⟩
def trac_TPSTAT_ARMED : Fld := ⟨0x120, 28, 1⟩
def trac_TPSTAT_STATE : Fld := ⟨0x120, 0, 3⟩
def trac_THOLDT_STAMP : Fld := ⟨0x124, 0, 32⟩
def trac_TSPD_SPEED : Fld := ⟨0x128, 0, 16⟩
def trac_TANGSEL_ANGLE : Fld := ⟨0x12C, 0, 16⟩
def trac_TMI_MI : Fld := ⟨0x130, 0, 16⟩
def trac_TLOSSCNT_COUNT : Fld := ⟨0x134, 0, 32⟩

/-- The registers of the `trac` page (R253 of spec/10_traction.md). -/
def tracRows : List RegRow := [
  ⟨0x80, 1, 4, 1, 1, [⟨16, 2, .rwl, 2⟩, ⟨12, 1, .rwl, 0⟩, ⟨8, 2, .rw, 0⟩, ⟨4, 2, .rw, 0⟩, ⟨0, 1, .rwl, 0⟩]⟩,
  ⟨0x84, 1, 4, 1, 1, [⟨0, 20, .rw, 0x61A8⟩]⟩,
  ⟨0x88, 1, 4, 1, 1, [⟨31, 1, .rwl, 0⟩, ⟨0, 20, .rwl, 0⟩]⟩,
  ⟨0x8C, 1, 4, 1, 1, [⟨0, 12, .rwl, 0x30⟩]⟩,
  ⟨0x90, 1, 4, 1, 1, [⟨16, 15, .rwl, 0x800⟩, ⟨0, 12, .rwl, 0⟩]⟩,
  ⟨0x94, 1, 4, 1, 1, [⟨0, 16, .rwl, 0⟩]⟩,
  ⟨0x98, 1, 4, 1, 1, [⟨16, 4, .rwl, 0xC⟩]⟩,
  ⟨0x9C, 1, 4, 1, 1, [⟨0, 28, .rwl, 0⟩]⟩,
  ⟨0xA0, 4, 4, 1, 1, [⟨31, 1, .rwl, 0⟩, ⟨0, 12, .rwl, 0⟩]⟩,
  ⟨0xB0, 1, 4, 1, 1, [⟨0, 15, .rw, 0x100⟩]⟩,
  ⟨0xC0, 1, 4, 1, 1, [⟨16, 5, .rwl, 1⟩, ⟨0, 16, .rwl, 0⟩]⟩,
  ⟨0xC4, 1, 4, 1, 1, [⟨16, 12, .rwl, 0x28⟩, ⟨1, 1, .rwl, 0⟩, ⟨0, 1, .rwl, 0⟩]⟩,
  ⟨0xC8, 1, 4, 1, 1, [⟨16, 12, .rwl, 0⟩, ⟨0, 12, .rwl, 0⟩]⟩,
  ⟨0xCC, 1, 4, 1, 1, [⟨16, 12, .rwl, 0⟩, ⟨0, 12, .rwl, 0⟩]⟩,
  ⟨0xD0, 1, 4, 1, 1, [⟨16, 12, .rwl, 0⟩, ⟨0, 12, .rwl, 0⟩]⟩,
  ⟨0xD4, 1, 4, 1, 1, [⟨16, 15, .rwl, 0x6000⟩, ⟨0, 12, .rwl, 0⟩]⟩,
  ⟨0xE0, 1, 4, 1, 1, [⟨16, 8, .rwl, 0xC8⟩, ⟨8, 4, .rwl, 8⟩, ⟨0, 4, .rwl, 2⟩]⟩,
  ⟨0xE4, 1, 4, 1, 1, [⟨16, 15, .rwl, 0x4000⟩, ⟨0, 15, .rwl, 0x67⟩]⟩,
  ⟨0xE8, 1, 4, 1, 1, [⟨31, 1, .rwl, 0⟩, ⟨0, 15, .rwl, 0x7FFF⟩]⟩,
  ⟨0xEC, 1, 4, 1, 1, [⟨16, 8, .rwl, 4⟩, ⟨0, 16, .rwl, 0xE39⟩]⟩,
  ⟨0xF0, 1, 4, 1, 1, [⟨0, 1, .cmd, 0⟩]⟩,
  ⟨0x100, 8, 4, 1, 1, [⟨31, 1, .rwl, 0⟩, ⟨16, 4, .rwl, 0⟩, ⟨0, 12, .rwl, 0⟩]⟩,
  ⟨0x120, 1, 4, 1, 1, [⟨31, 1, .lv, 0⟩, ⟨30, 1, .lv, 0⟩, ⟨29, 1, .lv, 0⟩, ⟨28, 1, .lv, 0⟩, ⟨0, 3, .lv, 0⟩]⟩,
  ⟨0x124, 1, 4, 1, 1, [⟨0, 32, .ro, 0⟩]⟩,
  ⟨0x128, 1, 4, 1, 1, [⟨16, 16, .ext, 0⟩, ⟨0, 16, .lv, 0⟩]⟩,
  ⟨0x12C, 1, 4, 1, 1, [⟨0, 16, .lv, 0⟩]⟩,
  ⟨0x130, 1, 4, 1, 1, [⟨0, 16, .lv, 0⟩]⟩,
  ⟨0x134, 1, 4, 1, 1, [⟨0, 32, .cnt, 0⟩]⟩]

/-! `stg` page: the register tables under R281 of spec/11_gate_protection.md. -/

def stg_GDEAD_TDMIN : Fld := ⟨0x200, 16, 12⟩
def stg_GDEAD_DEAD : Fld := ⟨0x200, 0, 16⟩
def stg_GBLANK_TICKS : Fld := ⟨0x204, 0, 11⟩
def stg_GSOFT_TICKS : Fld := ⟨0x208, 0, 11⟩
def stg_GRETRY_NRETRY : Fld := ⟨0x20C, 28, 3⟩
def stg_GRETRY_TWIN : Fld := ⟨0x20C, 16, 12⟩
def stg_GRETRY_TRETRY : Fld := ⟨0x20C, 0, 16⟩
def stg_GSRC0_CMP : Fld := ⟨0x210, 0, 24⟩
def stg_GSRC1_GRP : Fld := ⟨0x214, 8, 1⟩
def stg_GSRC1_SWRET : Fld := ⟨0x214, 0, 8⟩
def stg_GCMPLEG_LEG (i : Nat) : Fld := ⟨0x218 + 4 * i, 0, 32⟩
def stg_GREF_EN : Fld := ⟨0x224, 31, 1⟩
def stg_GREF_N : Fld := ⟨0x224, 16, 8⟩
def stg_GREF_TICKS : Fld := ⟨0x224, 0, 10⟩
def stg_GREFPER_TICKS : Fld := ⟨0x228, 0, 20⟩
def stg_GBSLIM_N : Fld := ⟨0x22C, 16, 8⟩
def stg_GBSLIM_WIN : Fld := ⟨0x22C, 0, 16⟩
def stg_GASC_EXIT : Fld := ⟨0x230, 0, 15⟩
def stg_GRDY_EN : Fld := ⟨0x234, 0, 4⟩
def stg_GSTAT_LATCH : Fld := ⟨0x240, 31, 1⟩
def stg_GSTAT_MULTI : Fld := ⟨0x240, 30, 1⟩
def stg_GSTAT_ACTIVE : Fld := ⟨0x240, 29, 1⟩
def stg_GSTAT_RETRIES : Fld := ⟨0x240, 20, 4⟩
def stg_GSTAT_STATE : Fld := ⟨0x240, 8, 3⟩
def stg_GSTAT_LOGN : Fld := ⟨0x240, 4, 4⟩
def stg_GTRIPCNT_COUNT : Fld := ⟨0x244, 0, 32⟩
def stg_GOVLCNT_COUNT : Fld := ⟨0x248, 0, 32⟩
def stg_GWITHCNT_COUNT : Fld := ⟨0x24C, 0, 32⟩
def stg_GREFCNT_COUNT : Fld := ⟨0x250, 0, 32⟩
def stg_FLOGA_VALID (i : Nat) : Fld := ⟨0x280 + 8 * i, 31, 1⟩
def stg_FLOGA_LEG (i : Nat) : Fld := ⟨0x280 + 8 * i, 16, 4⟩
def stg_FLOGA_KIND (i : Nat) : Fld := ⟨0x280 + 8 * i, 8, 5⟩
def stg_FLOGA_NUM (i : Nat) : Fld := ⟨0x280 + 8 * i, 0, 8⟩
def stg_FLOGT_STAMP (i : Nat) : Fld := ⟨0x284 + 8 * i, 0, 32⟩

/-- The registers of the `stg` page (R281 of spec/11_gate_protection.md). -/
def stgRows : List RegRow := [
  ⟨0x200, 1, 4, 1, 1, [⟨16, 12, .rwl, 0x10⟩, ⟨0, 16, .rwl, 0xFA00⟩]⟩,
  ⟨0x204, 1, 4, 1, 1, [⟨0, 11, .rwl, 0x320⟩]⟩,
  ⟨0x208, 1, 4, 1, 1, [⟨0, 11, .rwl, 0x190⟩]⟩,
  ⟨0x20C, 1, 4, 1, 1, [⟨28, 3, .rwl, 0⟩, ⟨16, 12, .rwl, 0x3E8⟩, ⟨0, 16, .rwl, 0x3E8⟩]⟩,
  ⟨0x210, 1, 4, 1, 1, [⟨0, 24, .rwl, 0⟩]⟩,
  ⟨0x214, 1, 4, 1, 1, [⟨8, 1, .rwl, 0⟩, ⟨0, 8, .rwl, 0⟩]⟩,
  ⟨0x218, 3, 4, 1, 1, [⟨0, 32, .rwl, 0xFFFFFFFF⟩]⟩,
  ⟨0x224, 1, 4, 1, 1, [⟨31, 1, .rwl, 0⟩, ⟨16, 8, .rwl, 0x10⟩, ⟨0, 10, .rwl, 0xC8⟩]⟩,
  ⟨0x228, 1, 4, 1, 1, [⟨0, 20, .rwl, 0x61A8⟩]⟩,
  ⟨0x22C, 1, 4, 1, 1, [⟨16, 8, .rwl, 4⟩, ⟨0, 16, .rwl, 0x64⟩]⟩,
  ⟨0x230, 1, 4, 1, 1, [⟨0, 15, .rwl, 0⟩]⟩,
  ⟨0x240, 1, 4, 1, 1, [⟨31, 1, .lv, 0⟩, ⟨30, 1, .lv, 0⟩, ⟨29, 1, .lv, 0⟩, ⟨20, 4, .lv, 0⟩, ⟨8, 3, .lv, 0⟩, ⟨4, 4, .lv, 0⟩]⟩,
  ⟨0x244, 1, 4, 1, 1, [⟨0, 32, .cnt, 0⟩]⟩,
  ⟨0x248, 1, 4, 1, 1, [⟨0, 32, .cnt, 0⟩]⟩,
  ⟨0x24C, 1, 4, 1, 1, [⟨0, 32, .cnt, 0⟩]⟩,
  ⟨0x250, 1, 4, 1, 1, [⟨0, 32, .cnt, 0⟩]⟩,
  ⟨0x280, 8, 8, 1, 1, [⟨31, 1, .ro, 0⟩, ⟨16, 4, .ro, 0⟩, ⟨8, 5, .ro, 0⟩, ⟨0, 8, .ro, 0⟩]⟩,
  ⟨0x284, 8, 8, 1, 1, [⟨0, 32, .ro, 0⟩]⟩]

/-! `leg` page: the register tables under R282 of spec/11_gate_protection.md. -/

def leg_LSTAT_BLANKL : Fld := ⟨0x40, 10, 1⟩
def leg_LSTAT_BLANKH : Fld := ⟨0x40, 9, 1⟩
def leg_LSTAT_RDY : Fld := ⟨0x40, 8, 1⟩
def leg_LSTAT_FRL : Fld := ⟨0x40, 5, 1⟩
def leg_LSTAT_FRH : Fld := ⟨0x40, 4, 1⟩
def leg_LSTAT_CMDL : Fld := ⟨0x40, 1, 1⟩
def leg_LSTAT_CMDH : Fld := ⟨0x40, 0, 1⟩
def leg_LTRIP_COUNT : Fld := ⟨0x44, 0, 32⟩
def leg_LOVL_COUNT : Fld := ⟨0x48, 0, 32⟩
def leg_LWITH_COUNT : Fld := ⟨0x4C, 0, 32⟩

/-- The registers of the `leg` page (R282 of spec/11_gate_protection.md). -/
def legRows : List RegRow := [
  ⟨0x40, 1, 4, 1, 1, [⟨10, 1, .lv, 0⟩, ⟨9, 1, .lv, 0⟩, ⟨8, 1, .lv, 1⟩, ⟨5, 1, .lv, 0⟩, ⟨4, 1, .lv, 0⟩, ⟨1, 1, .lv, 0⟩, ⟨0, 1, .lv, 0⟩]⟩,
  ⟨0x44, 1, 4, 1, 1, [⟨0, 32, .cnt, 0⟩]⟩,
  ⟨0x48, 1, 4, 1, 1, [⟨0, 32, .cnt, 0⟩]⟩,
  ⟨0x4C, 1, 4, 1, 1, [⟨0, 32, .cnt, 0⟩]⟩]

/-! `gcu` page: the register tables under R283 of spec/11_gate_protection.md. -/

def gcu_GSUM_LATCH : Fld := ⟨0x80, 16, 9⟩
def gcu_GSUM_OFF : Fld := ⟨0x80, 0, 9⟩

/-- The registers of the `gcu` page (R283 of spec/11_gate_protection.md). -/
def gcuRows : List RegRow := [
  ⟨0x80, 1, 4, 1, 1, [⟨16, 9, .lv, 0⟩, ⟨0, 9, .lv, 0⟩]⟩]

/-! `brk` page: the register tables under R304 of spec/12_dclink_braking.md. -/

def brk_LCFG_EN : Fld := ⟨0x80, 31, 1⟩
def brk_LCFG_OFS : Fld := ⟨0x80, 16, 12⟩
def brk_LCFG_CAD : Fld := ⟨0x80, 0, 4⟩
def brk_LSIG0_IBRK : Fld := ⟨0x84, 16, 12⟩
def brk_LSIG0_VDC : Fld := ⟨0x84, 0, 12⟩
def brk_LSIG1_PACK : Fld := ⟨0x88, 0, 12⟩
def brk_LCHOP_EN : Fld := ⟨0x8C, 31, 1⟩
def brk_LCHOP_MODE : Fld := ⟨0x8C, 30, 1⟩
def brk_LCHOP_CMP : Fld := ⟨0x8C, 16, 5⟩
def brk_LCHOPT_MINOFF : Fld := ⟨0x90, 16, 16⟩
def brk_LCHOPT_MINON : Fld := ⟨0x90, 0, 16⟩
def brk_LOV2_OV2 : Fld := ⟨0x94, 0, 15⟩
def brk_LCHK0_NLOW : Fld := ⟨0x98, 28, 4⟩
def brk_LCHK0_TCHK : Fld := ⟨0x98, 0, 20⟩
def brk_LCHK1_IDLY : Fld := ⟨0x9C, 16, 16⟩
def brk_LCHK1_IMIN : Fld := ⟨0x9C, 0, 15⟩
def brk_LCHK2_DROP : Fld := ⟨0xA0, 0, 15⟩
def brk_LPRE0_WIN : Fld := ⟨0xB0, 16, 10⟩
def brk_LPRE0_NSET : Fld := ⟨0xB0, 0, 8⟩
def brk_LPRE1_PACKMIN : Fld := ⟨0xB4, 0, 15⟩
def brk_LPRE2_TMAX : Fld := ⟨0xB8, 0, 16⟩
def brk_LCONT_POSEN : Fld := ⟨0xBC, 31, 1⟩
def brk_LCONT_POSSO : Fld := ⟨0xBC, 24, 3⟩
def brk_LCONT_NEGEN : Fld := ⟨0xBC, 23, 1⟩
def brk_LCONT_NEGSO : Fld := ⟨0xBC, 16, 3⟩
def brk_LCONT_TCLOSE : Fld := ⟨0xBC, 0, 16⟩
def brk_LPRECMD_GO : Fld := ⟨0xC0, 0, 1⟩
def brk_LPRERES_DONE : Fld := ⟨0xC4, 31, 1⟩
def brk_LPRERES_REFUSED : Fld := ⟨0xC4, 30, 1⟩
def brk_LPRERES_ABORTED : Fld := ⟨0xC4, 29, 1⟩
def brk_LPRERES_ABORTLATE : Fld := ⟨0xC4, 28, 1⟩
def brk_LPRERES_CAUSE : Fld := ⟨0xC4, 0, 4⟩
def brk_LCONTCMD_OPEN : Fld := ⟨0xC8, 0, 1⟩
def brk_LDIS0_ROUTE : Fld := ⟨0xD0, 30, 2⟩
def brk_LDIS0_END : Fld := ⟨0xD0, 0, 15⟩
def brk_LDIS1_HAND : Fld := ⟨0xD4, 16, 15⟩
def brk_LDIS1_DMAX : Fld := ⟨0xD4, 0, 15⟩
def brk_LDIS2_TOPEN : Fld := ⟨0xD8, 24, 8⟩
def brk_LDIS2_PER : Fld := ⟨0xD8, 0, 20⟩
def brk_LSTAT_BRKFAIL : Fld := ⟨0xE0, 31, 1⟩
def brk_LSTAT_CHOP : Fld := ⟨0xE0, 30, 1⟩
def brk_LSTAT_BFCAUSE : Fld := ⟨0xE0, 24, 3⟩
def brk_LSTAT_POS : Fld := ⟨0xE0, 21, 1⟩
def brk_LSTAT_NEG : Fld := ⟨0xE0, 20, 1⟩
def brk_LSTAT_PRESTATE : Fld := ⟨0xE0, 16, 3⟩
def brk_LSTAT_DISSTATE : Fld := ⟨0xE0, 12, 2⟩
def brk_LVPEAK_VALUE : Fld := ⟨0xE4, 0, 16⟩
def brk_LCHOPCNT_COUNT : Fld := ⟨0xE8, 0, 32⟩
def brk_LONTIME_TICKS : Fld := ⟨0xEC, 0, 32⟩
def brk_LBFCNT_COUNT : Fld := ⟨0xF0, 0, 32⟩
def brk_LDISDUR_TICKS : Fld := ⟨0xF4, 0, 32⟩
def brk_LPUB_EN (i : Nat) : Fld := ⟨0x100 + 4 * i, 31, 1⟩
def brk_LPUB_QIDX (i : Nat) : Fld := ⟨0x100 + 4 * i, 16, 4⟩
def brk_LPUB_SIG (i : Nat) : Fld := ⟨0x100 + 4 * i, 0, 12⟩

/-- The registers of the `brk` page (R304 of spec/12_dclink_braking.md). -/
def brkRows : List RegRow := [
  ⟨0x80, 1, 4, 1, 1, [⟨31, 1, .rwl, 0⟩, ⟨16, 12, .rwl, 0⟩, ⟨0, 4, .rwl, 0⟩]⟩,
  ⟨0x84, 1, 4, 1, 1, [⟨16, 12, .rwl, 0⟩, ⟨0, 12, .rwl, 0⟩]⟩,
  ⟨0x88, 1, 4, 1, 1, [⟨0, 12, .rwl, 0⟩]⟩,
  ⟨0x8C, 1, 4, 1, 1, [⟨31, 1, .rwl, 0⟩, ⟨30, 1, .rwl, 0⟩, ⟨16, 5, .rwl, 0⟩]⟩,
  ⟨0x90, 1, 4, 1, 1, [⟨16, 16, .rwl, 0x190⟩, ⟨0, 16, .rwl, 0x190⟩]⟩,
  ⟨0x94, 1, 4, 1, 1, [⟨0, 15, .rwl, 0x7FFF⟩]⟩,
  ⟨0x98, 1, 4, 1, 1, [⟨28, 4, .rwl, 2⟩, ⟨0, 20, .rwl, 0x9C40⟩]⟩,
  ⟨0x9C, 1, 4, 1, 1, [⟨16, 16, .rwl, 0x1F40⟩, ⟨0, 15, .rwl, 0⟩]⟩,
  ⟨0xA0, 1, 4, 1, 1, [⟨0, 15, .rwl, 0⟩]⟩,
  ⟨0xB0, 1, 4, 1, 1, [⟨16, 10, .rwl, 0x33⟩, ⟨0, 8, .rwl, 4⟩]⟩,
  ⟨0xB4, 1, 4, 1, 1, [⟨0, 15, .rwl, 0⟩]⟩,
  ⟨0xB8, 1, 4, 1, 1, [⟨0, 16, .rwl, 0x3E8⟩]⟩,
  ⟨0xBC, 1, 4, 1, 1, [⟨31, 1, .rwl, 0⟩, ⟨24, 3, .rwl, 0⟩, ⟨23, 1, .rwl, 0⟩, ⟨16, 3, .rwl, 0⟩, ⟨0, 16, .rwl, 0x32⟩]⟩,
  ⟨0xC0, 1, 4, 1, 1, [⟨0, 1, .cmd, 0⟩]⟩,
  ⟨0xC4, 1, 4, 1, 1, [⟨31, 1, .cor, 0⟩, ⟨30, 1, .cor, 0⟩, ⟨29, 1, .cor, 0⟩, ⟨28, 1, .cor, 0⟩, ⟨0, 4, .cor, 0⟩]⟩,
  ⟨0xC8, 1, 4, 1, 1, [⟨0, 1, .cmd, 0⟩]⟩,
  ⟨0xD0, 1, 4, 1, 1, [⟨30, 2, .rwl, 0⟩, ⟨0, 15, .rwl, 0⟩]⟩,
  ⟨0xD4, 1, 4, 1, 1, [⟨16, 15, .rwl, 0⟩, ⟨0, 15, .rw, 0⟩]⟩,
  ⟨0xD8, 1, 4, 1, 1, [⟨24, 8, .rwl, 0x14⟩, ⟨0, 20, .rw, 0x9C40⟩]⟩,
  ⟨0xE0, 1, 4, 1, 1, [⟨31, 1, .lv, 0⟩, ⟨30, 1, .lv, 0⟩, ⟨24, 3, .lv, 0⟩, ⟨21, 1, .lv, 0⟩, ⟨20, 1, .lv, 0⟩, ⟨16, 3, .lv, 0⟩, ⟨12, 2, .lv, 0⟩]⟩,
  ⟨0xE4, 1, 4, 1, 1, [⟨0, 16, .ro, 0⟩]⟩,
  ⟨0xE8, 1, 4, 1, 1, [⟨0, 32, .cnt, 0⟩]⟩,
  ⟨0xEC, 1, 4, 1, 1, [⟨0, 32, .cnt, 0⟩]⟩,
  ⟨0xF0, 1, 4, 1, 1, [⟨0, 32, .cnt, 0⟩]⟩,
  ⟨0xF4, 1, 4, 1, 1, [⟨0, 32, .ro, 0⟩]⟩,
  ⟨0x100, 4, 4, 1, 1, [⟨31, 1, .rwl, 0⟩, ⟨16, 4, .rwl, 0⟩, ⟨0, 12, .rwl, 0⟩]⟩]

/-! `reg` page: the register tables under R327 of spec/13_converter_control.md. -/

def reg_RCFG_VPEN : Fld := ⟨0x80, 31, 1⟩
def reg_RCFG_VPOD : Fld := ⟨0x80, 16, 7⟩
def reg_RCFG_NMAX : Fld := ⟨0x80, 0, 3⟩
def reg_RBAND_IZ : Fld := ⟨0x84, 16, 15⟩
def reg_RBAND_HALF : Fld := ⟨0x84, 0, 15⟩
def reg_RLIM_ILIM : Fld := ⟨0x88, 16, 15⟩
def reg_RLIM_ISS : Fld := ⟨0x88, 0, 15⟩
def reg_RPULSE_MINOFF : Fld := ⟨0x8C, 16, 12⟩
def reg_RPULSE_MINON : Fld := ⟨0x8C, 0, 12⟩
def reg_RLOCK_WMAX : Fld := ⟨0x90, 16, 12⟩
def reg_RLOCK_WIN : Fld := ⟨0x90, 0, 12⟩
def reg_RDWELL_TICKS : Fld := ⟨0x94, 0, 20⟩
def reg_RDOWN_TICKS : Fld := ⟨0x98, 0, 20⟩
def reg_RSHED_ADD (i : Nat) : Fld := ⟨0xA0 + 4 * i, 16, 15⟩
def reg_RSHED_SHED (i : Nat) : Fld := ⟨0xA0 + 4 * i, 0, 15⟩
def reg_RSTEP_LEVEL : Fld := ⟨0xAC, 0, 15⟩
def reg_ROVT_EN : Fld := ⟨0xB0, 31, 1⟩
def reg_ROVT_OVT : Fld := ⟨0xB0, 16, 15⟩
def reg_ROVT_REL : Fld := ⟨0xB0, 0, 15⟩
def reg_RTGT_VT : Fld := ⟨0xB4, 0, 15⟩
def reg_RDCH_ITOT : Fld := ⟨0xB8, 0, 15⟩
def reg_RCTL_DIR : Fld := ⟨0xC0, 8, 1⟩
def reg_RCTL_STOP : Fld := ⟨0xC0, 1, 1⟩
def reg_RCTL_START : Fld := ⟨0xC0, 0, 1⟩
def reg_RRES_DONE : Fld := ⟨0xC4, 31, 1⟩
def reg_RRES_REFUSED : Fld := ⟨0xC4, 30, 1⟩
def reg_RRES_ABORTED : Fld := ⟨0xC4, 29, 1⟩
def reg_RRES_ABORTLATE : Fld := ⟨0xC4, 28, 1⟩
def reg_RRES_CAUSE : Fld := ⟨0xC4, 0, 4⟩
def reg_RSTAT_DIR : Fld := ⟨0xC8, 30, 1⟩
def reg_RSTAT_GOV : Fld := ⟨0xC8, 28, 2⟩
def reg_RSTAT_HOSTREQ : Fld := ⟨0xC8, 27, 1⟩
def reg_RSTAT_LOCKED : Fld := ⟨0xC8, 26, 1⟩
def reg_RSTAT_NACT : Fld := ⟨0xC8, 16, 3⟩
def reg_RSTAT_STATE : Fld := ⟨0xC8, 0, 3⟩
def reg_RSTEPCNT_COUNT : Fld := ⟨0xD0, 0, 32⟩
def reg_RSHEDCNT_COUNT : Fld := ⟨0xD4, 0, 32⟩
def reg_RADDCNT_COUNT : Fld := ⟨0xD8, 0, 32⟩
def reg_ROVTCNT_COUNT : Fld := ⟨0xDC, 0, 32⟩
def reg_RSSCNT_COUNT : Fld := ⟨0xE0, 0, 32⟩
def reg_RPUB_EN (i : Nat) : Fld := ⟨0x100 + 4 * i, 31, 1⟩
def reg_RPUB_QIDX (i : Nat) : Fld := ⟨0x100 + 4 * i, 16, 4⟩
def reg_RPUB_SIG (i : Nat) : Fld := ⟨0x100 + 4 * i, 0, 12⟩

/-- The registers of the `reg` page (R327 of spec/13_converter_control.md). -/
def regRows : List RegRow := [
  ⟨0x80, 1, 4, 1, 1, [⟨31, 1, .rwl, 0⟩, ⟨16, 7, .rwl, 0⟩, ⟨0, 3, .rwl, 4⟩]⟩,
  ⟨0x84, 1, 4, 1, 1, [⟨16, 15, .rw, 0x40⟩, ⟨0, 15, .rw, 0x200⟩]⟩,
  ⟨0x88, 1, 4, 1, 1, [⟨16, 15, .rwl, 0x2000⟩, ⟨0, 15, .rwl, 0x800⟩]⟩,
  ⟨0x8C, 1, 4, 1, 1, [⟨16, 12, .rwl, 0x28⟩, ⟨0, 12, .rwl, 0x28⟩]⟩,
  ⟨0x90, 1, 4, 1, 1, [⟨16, 12, .rwl, 0x3E8⟩, ⟨0, 12, .rwl, 0xFA⟩]⟩,
  ⟨0x94, 1, 4, 1, 1, [⟨0, 20, .rwl, 0x61A80⟩]⟩,
  ⟨0x98, 1, 4, 1, 1, [⟨0, 20, .rwl, 0x4E20⟩]⟩,
  ⟨0xA0, 3, 4, 1, 1, [⟨16, 15, .rwl, 0x7FFF⟩, ⟨0, 15, .rwl, 0⟩]⟩,
  ⟨0xAC, 1, 4, 1, 1, [⟨0, 15, .rwl, 0x7FFF⟩]⟩,
  ⟨0xB0, 1, 4, 1, 1, [⟨31, 1, .rwl, 0⟩, ⟨16, 15, .rwl, 0x7FFF⟩, ⟨0, 15, .rwl, 0x7FFF⟩]⟩,
  ⟨0xB4, 1, 4, 1, 1, [⟨0, 15, .rw, 0⟩]⟩,
  ⟨0xB8, 1, 4, 1, 1, [⟨0, 15, .rw, 0⟩]⟩,
  ⟨0xC0, 1, 4, 1, 1, [⟨8, 1, .rw, 0⟩, ⟨1, 1, .cmd, 0⟩, ⟨0, 1, .cmd, 0⟩]⟩,
  ⟨0xC4, 1, 4, 1, 1, [⟨31, 1, .cor, 0⟩, ⟨30, 1, .cor, 0⟩, ⟨29, 1, .cor, 0⟩, ⟨28, 1, .cor, 0⟩, ⟨0, 4, .cor, 0⟩]⟩,
  ⟨0xC8, 1, 4, 1, 1, [⟨30, 1, .lv, 0⟩, ⟨28, 2, .lv, 0⟩, ⟨27, 1, .lv, 0⟩, ⟨26, 1, .lv, 0⟩, ⟨16, 3, .lv, 0⟩, ⟨0, 3, .lv, 0⟩]⟩,
  ⟨0xD0, 1, 4, 1, 1, [⟨0, 32, .cnt, 0⟩]⟩,
  ⟨0xD4, 1, 4, 1, 1, [⟨0, 32, .cnt, 0⟩]⟩,
  ⟨0xD8, 1, 4, 1, 1, [⟨0, 32, .cnt, 0⟩]⟩,
  ⟨0xDC, 1, 4, 1, 1, [⟨0, 32, .cnt, 0⟩]⟩,
  ⟨0xE0, 1, 4, 1, 1, [⟨0, 32, .cnt, 0⟩]⟩,
  ⟨0x100, 4, 4, 1, 1, [⟨31, 1, .rwl, 0⟩, ⟨16, 4, .rwl, 0⟩, ⟨0, 12, .rwl, 0⟩]⟩]

/-! `vsup` page: the register tables under R328 of spec/13_converter_control.md. -/

def vsup_VCFG_OFS : Fld := ⟨0x40, 16, 12⟩
def vsup_VCFG_CAD : Fld := ⟨0x40, 0, 4⟩
def vsup_VSIG_VOUT : Fld := ⟨0x44, 0, 12⟩
def vsup_VSS_TMOB : Fld := ⟨0x48, 16, 16⟩
def vsup_VSS_TMO : Fld := ⟨0x48, 0, 16⟩
def vsup_VDIS_EN : Fld := ⟨0x4C, 31, 1⟩
def vsup_VDIS_TMAX : Fld := ⟨0x4C, 16, 12⟩
def vsup_VDIS_VEND : Fld := ⟨0x4C, 0, 15⟩
def vsup_VSTAT_DIS : Fld := ⟨0x50, 31, 1⟩
def vsup_VSTAT_VOUT : Fld := ⟨0x50, 0, 16⟩
def vsup_VDISDUR_TICKS : Fld := ⟨0x54, 0, 32⟩

/-- The registers of the `vsup` page (R328 of spec/13_converter_control.md). -/
def vsupRows : List RegRow := [
  ⟨0x40, 1, 4, 1, 1, [⟨16, 12, .rwl, 0⟩, ⟨0, 4, .rwl, 0⟩]⟩,
  ⟨0x44, 1, 4, 1, 1, [⟨0, 12, .rwl, 0⟩]⟩,
  ⟨0x48, 1, 4, 1, 1, [⟨16, 16, .rwl, 0x64⟩, ⟨0, 16, .rwl, 0x14⟩]⟩,
  ⟨0x4C, 1, 4, 1, 1, [⟨31, 1, .rwl, 0⟩, ⟨16, 12, .rwl, 0x1F4⟩, ⟨0, 15, .rwl, 0⟩]⟩,
  ⟨0x50, 1, 4, 1, 1, [⟨31, 1, .lv, 0⟩, ⟨0, 16, .lv, 0⟩]⟩,
  ⟨0x54, 1, 4, 1, 1, [⟨0, 32, .ro, 0⟩]⟩]

/-! `ph` page: the register tables under R329 of spec/13_converter_control.md. -/

def ph_PHSTAT_RANK : Fld := ⟨0x40, 8, 2⟩
def ph_PHSTAT_ONP : Fld := ⟨0x40, 5, 1⟩
def ph_PHSTAT_WAITW : Fld := ⟨0x40, 4, 1⟩
def ph_PHSTAT_STATE : Fld := ⟨0x40, 0, 2⟩
def ph_PHPULSE_COUNT : Fld := ⟨0x44, 0, 32⟩
def ph_PHMISS_COUNT : Fld := ⟨0x48, 0, 32⟩
def ph_PHPER_TICKS : Fld := ⟨0x4C, 0, 20⟩
def ph_PHTRUNC_COUNT : Fld := ⟨0x50, 0, 32⟩

/-- The registers of the `ph` page (R329 of spec/13_converter_control.md). -/
def phRows : List RegRow := [
  ⟨0x40, 1, 4, 1, 1, [⟨8, 2, .lv, 0⟩, ⟨5, 1, .lv, 0⟩, ⟨4, 1, .lv, 0⟩, ⟨0, 2, .lv, 0⟩]⟩,
  ⟨0x44, 1, 4, 1, 1, [⟨0, 32, .cnt, 0⟩]⟩,
  ⟨0x48, 1, 4, 1, 1, [⟨0, 32, .cnt, 0⟩]⟩,
  ⟨0x4C, 1, 4, 1, 1, [⟨0, 20, .ro, 0⟩]⟩,
  ⟨0x50, 1, 4, 1, 1, [⟨0, 32, .cnt, 0⟩]⟩]

/-! `ob` page: the register tables under R346 of spec/14_charger.md. -/

def ob_OCFG_GRID : Fld := ⟨0x80, 0, 1⟩
def ob_OCAR_PERIOD : Fld := ⟨0x84, 0, 20⟩
def ob_OMINP_TICKS : Fld := ⟨0x88, 0, 12⟩
def ob_OVDC_MIN : Fld := ⟨0x8C, 16, 15⟩
def ob_OVDC_SIG : Fld := ⟨0x8C, 0, 12⟩
def ob_ODAB_DSTEP : Fld := ⟨0x90, 16, 15⟩
def ob_ODAB_PHIMAX : Fld := ⟨0x90, 0, 15⟩
def ob_OSTAT_VLIM : Fld := ⟨0xA0, 31, 1⟩
def ob_OSTAT_CLAMPED : Fld := ⟨0xA0, 30, 1⟩
def ob_OSTAT_VALUE : Fld := ⟨0xA0, 0, 16⟩

/-- The registers of the `ob` page (R346 of spec/14_charger.md). -/
def obRows : List RegRow := [
  ⟨0x80, 1, 4, 1, 1, [⟨0, 1, .rwl, 0⟩]⟩,
  ⟨0x84, 1, 4, 1, 1, [⟨0, 20, .rw, 0x4E20⟩]⟩,
  ⟨0x88, 1, 4, 1, 1, [⟨0, 12, .rwl, 0x30⟩]⟩,
  ⟨0x8C, 1, 4, 1, 1, [⟨16, 15, .rwl, 0x800⟩, ⟨0, 12, .rwl, 0⟩]⟩,
  ⟨0x90, 1, 4, 1, 1, [⟨16, 15, .rwl, 0x100⟩, ⟨0, 15, .rwl, 0x4000⟩]⟩,
  ⟨0xA0, 1, 4, 1, 1, [⟨31, 1, .lv, 0⟩, ⟨30, 1, .lv, 0⟩, ⟨0, 16, .lv, 0⟩]⟩]

/-! `ppx` page: the register tables under R347 of spec/14_charger.md. -/

def ppx_PPCFG_S2EN : Fld := ⟨0x40, 31, 1⟩
def ppx_PPCFG_S2SO : Fld := ⟨0x40, 24, 3⟩
def ppx_PPCFG_DEBF : Fld := ⟨0x40, 20, 4⟩
def ppx_PPCFG_DEB : Fld := ⟨0x40, 16, 4⟩
def ppx_PPCFG_PPDEB : Fld := ⟨0x40, 12, 4⟩
def ppx_PPCFG_FILTN : Fld := ⟨0x40, 0, 6⟩
def ppx_PPCTL_S2 : Fld := ⟨0x44, 0, 1⟩
def ppx_PSTAT_FREQOK : Fld := ⟨0x48, 31, 1⟩
def ppx_PSTAT_OSC : Fld := ⟨0x48, 30, 1⟩
def ppx_PSTAT_S2ON : Fld := ⟨0x48, 29, 1⟩
def ppx_PSTAT_DIG : Fld := ⟨0x48, 28, 1⟩
def ppx_PSTAT_PP : Fld := ⟨0x48, 24, 3⟩
def ppx_PSTAT_STATE : Fld := ⟨0x48, 0, 3⟩
def ppx_PDUTY_DUTY : Fld := ⟨0x4C, 16, 10⟩
def ppx_PDUTY_ICP : Fld := ⟨0x4C, 0, 10⟩
def ppx_PLVL_LO : Fld := ⟨0x50, 16, 16⟩
def ppx_PLVL_HI : Fld := ⟨0x50, 0, 16⟩
def ppx_PPER_TICKS : Fld := ⟨0x54, 0, 20⟩
def ppx_PRES_IPP : Fld := ⟨0x58, 16, 10⟩
def ppx_PRES_OHMS : Fld := ⟨0x58, 0, 16⟩
def ppx_PSTCNT_COUNT : Fld := ⟨0x5C, 0, 32⟩

/-- The registers of the `ppx` page (R347 of spec/14_charger.md). -/
def ppxRows : List RegRow := [
  ⟨0x40, 1, 4, 1, 1, [⟨31, 1, .rwl, 0⟩, ⟨24, 3, .rwl, 0⟩, ⟨20, 4, .rwl, 1⟩, ⟨16, 4, .rwl, 3⟩, ⟨12, 4, .rwl, 5⟩, ⟨0, 6, .rwl, 8⟩]⟩,
  ⟨0x44, 1, 4, 1, 1, [⟨0, 1, .rw, 0⟩]⟩,
  ⟨0x48, 1, 4, 1, 1, [⟨31, 1, .lv, 0⟩, ⟨30, 1, .lv, 0⟩, ⟨29, 1, .lv, 0⟩, ⟨28, 1, .lv, 0⟩, ⟨24, 3, .lv, 0⟩, ⟨0, 3, .lv, 0⟩]⟩,
  ⟨0x4C, 1, 4, 1, 1, [⟨16, 10, .lv, 0⟩, ⟨0, 10, .lv, 0⟩]⟩,
  ⟨0x50, 1, 4, 1, 1, [⟨16, 16, .lv, 0⟩, ⟨0, 16, .lv, 0⟩]⟩,
  ⟨0x54, 1, 4, 1, 1, [⟨0, 20, .lv, 0⟩]⟩,
  ⟨0x58, 1, 4, 1, 1, [⟨16, 10, .lv, 0⟩, ⟨0, 16, .lv, 0xFFFF⟩]⟩,
  ⟨0x5C, 1, 4, 1, 1, [⟨0, 32, .cnt, 0⟩]⟩]

/-! `sess` page: the register tables under R348 of spec/14_charger.md. -/

def sess_SCFG_ACEN : Fld := ⟨0x40, 31, 1⟩
def sess_SCFG_ACSO : Fld := ⟨0x40, 24, 3⟩
def sess_SCFG_VENT : Fld := ⟨0x40, 16, 1⟩
def sess_SCFG_AMPFS : Fld := ⟨0x40, 0, 16⟩
def sess_SCTL_AC : Fld := ⟨0x44, 1, 1⟩
def sess_SCTL_GRANT : Fld := ⟨0x44, 0, 1⟩
def sess_SLIM_IHOST : Fld := ⟨0x48, 16, 10⟩
def sess_SLIM_IMAX : Fld := ⟨0x48, 0, 10⟩
def sess_OEXP_ARM : Fld := ⟨0x4C, 0, 1⟩
def sess_SSTAT_ILK : Fld := ⟨0x50, 31, 1⟩
def sess_SSTAT_EXPOK : Fld := ⟨0x50, 30, 1⟩
def sess_SSTAT_ACON : Fld := ⟨0x50, 29, 1⟩
def sess_SSTAT_IGRID : Fld := ⟨0x50, 0, 10⟩
def sess_SILKCNT_COUNT : Fld := ⟨0x54, 0, 32⟩

/-- The registers of the `sess` page (R348 of spec/14_charger.md). -/
def sessRows : List RegRow := [
  ⟨0x40, 1, 4, 1, 1, [⟨31, 1, .rwl, 0⟩, ⟨24, 3, .rwl, 0⟩, ⟨16, 1, .rwl, 0⟩, ⟨0, 16, .rwl, 0⟩]⟩,
  ⟨0x44, 1, 4, 1, 1, [⟨1, 1, .rw, 0⟩, ⟨0, 1, .rw, 0⟩]⟩,
  ⟨0x48, 1, 4, 1, 1, [⟨16, 10, .rw, 0x3FF⟩, ⟨0, 10, .rwl, 0⟩]⟩,
  ⟨0x4C, 1, 4, 1, 1, [⟨0, 1, .rw, 0⟩]⟩,
  ⟨0x50, 1, 4, 1, 1, [⟨31, 1, .lv, 0⟩, ⟨30, 1, .lv, 0⟩, ⟨29, 1, .lv, 0⟩, ⟨0, 10, .lv, 0⟩]⟩,
  ⟨0x54, 1, 4, 1, 1, [⟨0, 32, .cnt, 0⟩]⟩]

/-! `obc` page: the register tables under R349 of spec/14_charger.md. -/

def obc_OPUB_EN (i : Nat) : Fld := ⟨0x80 + 4 * i, 31, 1⟩
def obc_OPUB_SRC (i : Nat) : Fld := ⟨0x80 + 4 * i, 20, 2⟩
def obc_OPUB_QIDX (i : Nat) : Fld := ⟨0x80 + 4 * i, 16, 4⟩
def obc_OPUB_SIG (i : Nat) : Fld := ⟨0x80 + 4 * i, 0, 12⟩

/-- The registers of the `obc` page (R349 of spec/14_charger.md). -/
def obcRows : List RegRow := [
  ⟨0x80, 8, 4, 1, 1, [⟨31, 1, .rwl, 0⟩, ⟨20, 2, .rwl, 0⟩, ⟨16, 4, .rwl, 0⟩, ⟨0, 12, .rwl, 0⟩]⟩]

/-! `cm` page: the register tables under R370 of spec/15_actuators.md. -/

def cm_ACFG_HALL : Fld := ⟨0x40, 31, 1⟩
def cm_ACFG_BRAKE : Fld := ⟨0x40, 30, 1⟩
def cm_ACFG_SOFT : Fld := ⟨0x40, 0, 5⟩
def cm_ACAR_PERIOD : Fld := ⟨0x44, 0, 20⟩
def cm_AMINP_TICKS : Fld := ⟨0x48, 0, 12⟩
def cm_ACUR_EN : Fld := ⟨0x4C, 31, 1⟩
def cm_ACUR_IB : Fld := ⟨0x4C, 16, 12⟩
def cm_ACUR_IA : Fld := ⟨0x4C, 0, 12⟩
def cm_AZC_ZFK : Fld := ⟨0x50, 24, 3⟩
def cm_AZC_ZFN : Fld := ⟨0x50, 16, 6⟩
def cm_AZC_ZSETTLE : Fld := ⟨0x50, 0, 12⟩
def cm_AZB_ZBLANK : Fld := ⟨0x54, 0, 20⟩
def cm_AALIGN_DUTY : Fld := ⟨0x58, 16, 15⟩
def cm_AALIGN_MS : Fld := ⟨0x58, 0, 16⟩
def cm_ARAMP0_DUTY : Fld := ⟨0x5C, 16, 15⟩
def cm_ARAMP0_TABLE : Fld := ⟨0x5C, 0, 16⟩
def cm_ARAMP1_XSTEP : Fld := ⟨0x60, 16, 16⟩
def cm_ARAMP1_TSCALE : Fld := ⟨0x60, 0, 16⟩
def cm_ARAMP2_NMAX : Fld := ⟨0x64, 0, 16⟩
def cm_AHAND_WIN : Fld := ⟨0x68, 16, 8⟩
def cm_AHAND_N : Fld := ⟨0x68, 0, 4⟩
def cm_ACATCH_N : Fld := ⟨0x6C, 24, 4⟩
def cm_ACATCH_MS : Fld := ⟨0x6C, 0, 16⟩
def cm_ABRK_MS : Fld := ⟨0x70, 0, 16⟩
def cm_ALIM_DSAT : Fld := ⟨0x74, 0, 15⟩
def cm_AHALL_SIG : Fld := ⟨0x78, 0, 12⟩
def cm_AHMAP_MAP : Fld := ⟨0x7C, 0, 24⟩
def cm_ACTL_DIR : Fld := ⟨0x80, 8, 1⟩
def cm_ACTL_STOP : Fld := ⟨0x80, 1, 1⟩
def cm_ACTL_START : Fld := ⟨0x80, 0, 1⟩
def cm_ARES_DONE : Fld := ⟨0x84, 31, 1⟩
def cm_ARES_REFUSED : Fld := ⟨0x84, 30, 1⟩
def cm_ARES_ABORTED : Fld := ⟨0x84, 29, 1⟩
def cm_ARES_ABORTLATE : Fld := ⟨0x84, 28, 1⟩
def cm_ARES_CAUSE : Fld := ⟨0x84, 0, 4⟩
def cm_ASTAT_FRZ : Fld := ⟨0x88, 31, 1⟩
def cm_ASTAT_DIR : Fld := ⟨0x88, 30, 1⟩
def cm_ASTAT_MISS : Fld := ⟨0x88, 20, 2⟩
def cm_ASTAT_SECTOR : Fld := ⟨0x88, 16, 3⟩
def cm_ASTAT_STATE : Fld := ⟨0x88, 0, 3⟩
def cm_AT60_TICKS : Fld := ⟨0x8C, 0, 28⟩
def cm_ASTEPS_COUNT : Fld := ⟨0x90, 0, 32⟩
def cm_ALASTZC_STAMP : Fld := ⟨0x94, 0, 32⟩
def cm_AMISSCNT_COUNT : Fld := ⟨0x98, 0, 32⟩
def cm_ASTARTCNT_COUNT : Fld := ⟨0x9C, 0, 32⟩

/-- The registers of the `cm` page (R370 of spec/15_actuators.md). -/
def cmRows : List RegRow := [
  ⟨0x40, 1, 4, 1, 1, [⟨31, 1, .rwl, 0⟩, ⟨30, 1, .rwl, 0⟩, ⟨0, 5, .rw, 0xA⟩]⟩,
  ⟨0x44, 1, 4, 1, 1, [⟨0, 20, .rwl, 0x4E20⟩]⟩,
  ⟨0x48, 1, 4, 1, 1, [⟨0, 12, .rwl, 0x30⟩]⟩,
  ⟨0x4C, 1, 4, 1, 1, [⟨31, 1, .rwl, 0⟩, ⟨16, 12, .rwl, 0⟩, ⟨0, 12, .rwl, 0⟩]⟩,
  ⟨0x50, 1, 4, 1, 1, [⟨24, 3, .rwl, 3⟩, ⟨16, 6, .rwl, 4⟩, ⟨0, 12, .rwl, 0x28⟩]⟩,
  ⟨0x54, 1, 4, 1, 1, [⟨0, 20, .rwl, 0xFA0⟩]⟩,
  ⟨0x58, 1, 4, 1, 1, [⟨16, 15, .rwl, 0xCCD⟩, ⟨0, 16, .rwl, 0x32⟩]⟩,
  ⟨0x5C, 1, 4, 1, 1, [⟨16, 15, .rwl, 0x1333⟩, ⟨0, 16, .rwl, 0⟩]⟩,
  ⟨0x60, 1, 4, 1, 1, [⟨16, 16, .rwl, 0x400⟩, ⟨0, 16, .rwl, 0x64⟩]⟩,
  ⟨0x64, 1, 4, 1, 1, [⟨0, 16, .rwl, 0xC8⟩]⟩,
  ⟨0x68, 1, 4, 1, 1, [⟨16, 8, .rwl, 0x40⟩, ⟨0, 4, .rwl, 6⟩]⟩,
  ⟨0x6C, 1, 4, 1, 1, [⟨24, 4, .rwl, 6⟩, ⟨0, 16, .rwl, 0x14⟩]⟩,
  ⟨0x70, 1, 4, 1, 1, [⟨0, 16, .rwl, 0x64⟩]⟩,
  ⟨0x74, 1, 4, 1, 1, [⟨0, 15, .rwl, 0x7FC0⟩]⟩,
  ⟨0x78, 1, 4, 1, 1, [⟨0, 12, .rwl, 0⟩]⟩,
  ⟨0x7C, 1, 4, 1, 1, [⟨0, 24, .rwl, 0xFFFFFF⟩]⟩,
  ⟨0x80, 1, 4, 1, 1, [⟨8, 1, .rw, 0⟩, ⟨1, 1, .cmd, 0⟩, ⟨0, 1, .cmd, 0⟩]⟩,
  ⟨0x84, 1, 4, 1, 1, [⟨31, 1, .cor, 0⟩, ⟨30, 1, .cor, 0⟩, ⟨29, 1, .cor, 0⟩, ⟨28, 1, .cor, 0⟩, ⟨0, 4, .cor, 0⟩]⟩,
  ⟨0x88, 1, 4, 1, 1, [⟨31, 1, .lv, 0⟩, ⟨30, 1, .lv, 0⟩, ⟨20, 2, .lv, 0⟩, ⟨16, 3, .lv, 0⟩, ⟨0, 3, .lv, 0⟩]⟩,
  ⟨0x8C, 1, 4, 1, 1, [⟨0, 28, .lv, 0⟩]⟩,
  ⟨0x90, 1, 4, 1, 1, [⟨0, 32, .cnt, 0⟩]⟩,
  ⟨0x94, 1, 4, 1, 1, [⟨0, 32, .ro, 0⟩]⟩,
  ⟨0x98, 1, 4, 1, 1, [⟨0, 32, .cnt, 0⟩]⟩,
  ⟨0x9C, 1, 4, 1, 1, [⟨0, 32, .cnt, 0⟩]⟩]

/-! `act` page: the register tables under R371 of spec/15_actuators.md. -/

def act_APUB_EN (i : Nat) : Fld := ⟨0x80 + 4 * i, 31, 1⟩
def act_APUB_SRC (i : Nat) : Fld := ⟨0x80 + 4 * i, 20, 2⟩
def act_APUB_QIDX (i : Nat) : Fld := ⟨0x80 + 4 * i, 16, 4⟩
def act_APUB_SIG (i : Nat) : Fld := ⟨0x80 + 4 * i, 0, 12⟩

/-- The registers of the `act` page (R371 of spec/15_actuators.md). -/
def actRows : List RegRow := [
  ⟨0x80, 8, 4, 1, 1, [⟨31, 1, .rwl, 0⟩, ⟨20, 2, .rwl, 0⟩, ⟨16, 4, .rwl, 0⟩, ⟨0, 12, .rwl, 0⟩]⟩]

end Sys2Proof.Machine
end

