-- ==== Sys2Proof/Machine/Units.lean ====
section
/-!
DEFINITION. The unit tree (R12, R19 to R22, R624 and the page tables of the subject chapters): the kinds of unit,
their pages, identities, parents and children, the walk of R22, and the register rows of each page.
-/

namespace Sys2Proof.Machine

/-- The kinds of unit. -/
inductive UKind where
  | sys | tbase | cadShell | cad | router | vmon | sigb | hlk | hp | len | laneShell | lane | podGroup | pod | arenaShell | arenaQuad | gcu | stage | leg | reg | phase | vsup | obc | ppx | sess | act | cm | fbk | chan | dec | ssi | cmps | ck | adc | pair | cv | wcs | wg | can | cn | seq | tbk | seqGroup | sq | pairShell | srv | rly | ssv | dgk | sfk | sos | so | thm | loss | rfl | led | scbShell | scb | poolShell | palloc | pscrub
deriving DecidableEq, Repr

/-- A unit: its kind and its instance number, which for a leg is stage * 8 + leg (R256). -/
structure Unit where
  kind : UKind
  inst : Nat
deriving DecidableEq, Repr

/-- The page number (address bits 23:12) of a leg kernel (R256). -/
def legPage (i : Nat) : Nat :=
  if i = 19 then 0x225 else if i = 35 then 0x226 else 0x200 + 4 * (i / 8) + i % 8 + 1

/-- The page number of a sequencer (spec/18_tables_sequencers.md, before R422). -/
def sqPage (i : Nat) : Nat := if i < 28 then 0x2E4 + i else 0x258 + (i - 28)

/-- The number of legs of a stage (R254). -/
def stageLegs (s : Nat) : Nat := if s = 2 then 4 else if s = 4 then 4 else if s = 8 then 2 else 3

/-- The page number of a unit. -/
def Unit.page (u : Unit) : Nat :=
  let i := u.inst
  match u.kind with
  | .sys => 0
  | .tbase => 1
  | .cadShell => 2
  | .cad => 0x30 + i
  | .router => 0x20
  | .vmon => 3
  | .sigb => 0x350
  | .hlk => 0x10
  | .hp => 0x11 + i
  | .len => 0x180
  | .laneShell => 0x181
  | .lane => 0x182 + i
  | .podGroup => 0x18B + i
  | .pod => 0x100 + i
  | .arenaShell => 0x193
  | .arenaQuad => 0x194 + i
  | .gcu => 0x224
  | .stage => 0x200 + 4 * i
  | .leg => legPage i
  | .reg => 0x240
  | .phase => 0x241 + i
  | .vsup => 0x245
  | .obc => 0x250
  | .ppx => 0x251
  | .sess => 0x252
  | .act => 0x260
  | .cm => 0x261 + i
  | .fbk => 0x280
  | .chan => 0x284 + 4 * i
  | .dec => 0x285 + 4 * i
  | .ssi => 0x286 + 4 * i
  | .cmps => 0x287 + 4 * i
  | .ck => 0x268 + i
  | .adc => 0x2A0
  | .pair => 0x2A1 + 3 * i
  | .cv => 0x2A2 + 3 * (i / 2) + i % 2
  | .wcs => 0x2AD
  | .wg => 0x2AE + i
  | .can => 0x2C0
  | .cn => 0x2C1 + i
  | .seq => 0x2E0
  | .tbk => 0x2E1
  | .seqGroup => 0x2E2 + i
  | .sq => sqPage i
  | .pairShell => 0x300
  | .srv => 0x301
  | .rly => 0x302
  | .ssv => 0x310
  | .dgk => 0x311
  | .sfk => 0x312
  | .sos => 0x313
  | .so => 0x314 + i
  | .thm => 0x320
  | .loss => 0x321
  | .rfl => 0x322
  | .led => 0x323
  | .scbShell => 0x330
  | .scb => 0x331 + i
  | .poolShell => 0x340
  | .palloc => 0x341
  | .pscrub => 0x342

/-- The root directory entry of the top-level shell that holds a unit (R88). -/
def UKind.family : UKind → Nat
  | .sys | .tbase | .cadShell | .cad | .router | .vmon | .sigb => 0
  | .hlk | .hp => 1
  | .len | .laneShell | .lane | .podGroup | .pod | .arenaShell | .arenaQuad => 2
  | .gcu | .stage | .leg => 3
  | .reg | .phase | .vsup => 4
  | .obc | .ppx | .sess => 5
  | .act | .cm => 6
  | .fbk | .chan | .dec | .ssi | .cmps | .ck => 7
  | .adc | .pair | .cv | .wcs | .wg => 8
  | .can | .cn => 9
  | .seq | .tbk | .seqGroup | .sq => 10
  | .pairShell | .srv | .rly => 11
  | .ssv | .dgk | .sfk | .sos | .so => 12
  | .thm | .loss | .rfl | .led => 13
  | .scbShell | .scb => 14
  | .poolShell | .palloc | .pscrub => 15

/-- UID.KIND of a unit. -/
def UKind.code : UKind → Nat
  | .sys | .hlk | .len | .gcu | .reg | .obc | .act | .fbk | .adc | .can | .seq | .pairShell | .ssv | .thm | .scbShell | .poolShell => 0
  | .tbase | .hp | .laneShell | .stage | .phase | .ppx | .cm | .chan | .pair | .cn | .seqGroup | .srv | .dgk | .loss | .scb | .palloc => 1
  | .cadShell | .lane | .leg | .vsup | .sess | .dec | .cv | .sq | .rly | .sfk | .rfl | .pscrub => 2
  | .cad | .podGroup | .ssi | .wcs | .tbk | .sos | .led => 3
  | .router | .pod | .cmps | .wg | .so => 4
  | .vmon | .arenaShell | .ck => 5
  | .sigb | .arenaQuad => 6

/-- The tree level of a unit (R20). -/
def UKind.level : UKind → Nat
  | .sys | .hlk | .len | .gcu | .reg | .obc | .act | .fbk | .adc | .can | .seq | .pairShell | .ssv | .thm | .scbShell | .poolShell => 2
  | .tbase | .cadShell | .router | .vmon | .sigb | .hp | .laneShell | .podGroup | .arenaShell | .stage | .phase | .vsup | .ppx | .sess | .cm | .chan | .pair | .wcs | .cn | .tbk | .seqGroup | .srv | .rly | .dgk | .sfk | .sos | .loss | .rfl | .led | .scb | .palloc | .pscrub => 3
  | .cad | .lane | .pod | .arenaQuad | .leg | .dec | .ssi | .cmps | .cv | .wg | .sq | .so => 4
  | .ck => 5

/-- Is the unit a shell? -/
def UKind.isShell : UKind → Bool
  | .tbase | .cad | .router | .vmon | .sigb | .hp | .lane | .pod | .arenaQuad | .leg | .phase | .vsup | .ppx | .sess | .cm | .dec | .ssi | .ck | .cv | .wg | .cn | .tbk | .sq | .srv | .rly | .dgk | .sfk | .so | .loss | .rfl | .led | .scb | .palloc | .pscrub => false
  | .sys | .cadShell | .hlk | .len | .laneShell | .podGroup | .arenaShell | .gcu | .stage | .reg | .obc | .act | .fbk | .chan | .cmps | .adc | .pair | .wcs | .can | .seq | .seqGroup | .pairShell | .ssv | .sos | .thm | .scbShell | .poolShell => true

/-- The top-level shells in root directory order (R19). -/
def rootUnits : List Unit :=
  [⟨.sys, 0⟩, ⟨.hlk, 0⟩, ⟨.len, 0⟩, ⟨.gcu, 0⟩, ⟨.reg, 0⟩, ⟨.obc, 0⟩, ⟨.act, 0⟩, ⟨.fbk, 0⟩,
   ⟨.adc, 0⟩, ⟨.can, 0⟩, ⟨.seq, 0⟩, ⟨.pairShell, 0⟩, ⟨.ssv, 0⟩, ⟨.thm, 0⟩, ⟨.scbShell, 0⟩, ⟨.poolShell, 0⟩]

/-- `n` units of one kind, from instance `b`. -/
def unitRun (k : UKind) (b n : Nat) : List Unit := (List.range n).map fun i => ⟨k, b + i⟩

/-- The children of a unit in directory order (R19, R624 and the page tables of the subject chapters). -/
def Unit.children (u : Unit) : List Unit :=
  let i := u.inst
  match u.kind with
  | .sys => [⟨.tbase, 0⟩, ⟨.cadShell, 0⟩, ⟨.router, 0⟩, ⟨.vmon, 0⟩, ⟨.sigb, 0⟩]
  | .cadShell => unitRun .cad 0 16
  | .hlk => unitRun .hp 0 2
  | .len => ⟨.laneShell, 0⟩ :: ⟨.arenaShell, 0⟩ :: unitRun .podGroup 0 8
  | .laneShell => unitRun .lane 0 9
  | .arenaShell => unitRun .arenaQuad 0 4
  | .podGroup => unitRun .pod (16 * i) 16
  | .gcu => [⟨.stage, 0⟩, ⟨.stage, 1⟩, ⟨.stage, 2⟩, ⟨.stage, 3⟩, ⟨.stage, 4⟩, ⟨.stage, 5⟩, ⟨.stage, 6⟩,
      ⟨.stage, 7⟩, ⟨.stage, 8⟩]
  | .stage => unitRun .leg (8 * i) (stageLegs i)
  | .reg => unitRun .phase 0 4 ++ [⟨.vsup, 0⟩]
  | .obc => [⟨.ppx, 0⟩, ⟨.sess, 0⟩]
  | .act => unitRun .cm 0 3
  | .fbk => unitRun .chan 0 6
  | .chan => [⟨.dec, i⟩, ⟨.ssi, i⟩, ⟨.cmps, i⟩]
  | .cmps => unitRun .ck (4 * i) 4
  | .adc => unitRun .pair 0 4 ++ [⟨.wcs, 0⟩]
  | .pair => unitRun .cv (2 * i) 2
  | .wcs => unitRun .wg 0 3
  | .can => unitRun .cn 0 4
  | .seq => [⟨.seqGroup, 0⟩, ⟨.seqGroup, 1⟩, ⟨.tbk, 0⟩]
  | .seqGroup => unitRun .sq (16 * i) 16
  | .pairShell => [⟨.srv, 0⟩, ⟨.rly, 0⟩]
  | .ssv => [⟨.dgk, 0⟩, ⟨.sfk, 0⟩, ⟨.sos, 0⟩]
  | .sos => unitRun .so 0 8
  | .thm => [⟨.loss, 0⟩, ⟨.rfl, 0⟩, ⟨.led, 0⟩]
  | .scbShell => unitRun .scb 0 8
  | .poolShell => [⟨.palloc, 0⟩, ⟨.pscrub, 0⟩]
  | _ => []

/-- The parent of a unit; a top-level shell has none here, and its UDIR names the SYS page (R19). -/
def Unit.parent (u : Unit) : Option Unit :=
  let i := u.inst
  match u.kind with
  | .tbase | .cadShell | .router | .vmon | .sigb => some ⟨.sys, 0⟩
  | .cad => some ⟨.cadShell, 0⟩
  | .hp => some ⟨.hlk, 0⟩
  | .laneShell | .arenaShell | .podGroup => some ⟨.len, 0⟩
  | .lane => some ⟨.laneShell, 0⟩
  | .arenaQuad => some ⟨.arenaShell, 0⟩
  | .pod => some ⟨.podGroup, i / 16⟩
  | .stage => some ⟨.gcu, 0⟩
  | .leg => some ⟨.stage, i / 8⟩
  | .phase | .vsup => some ⟨.reg, 0⟩
  | .ppx | .sess => some ⟨.obc, 0⟩
  | .cm => some ⟨.act, 0⟩
  | .chan => some ⟨.fbk, 0⟩
  | .dec | .ssi | .cmps => some ⟨.chan, i⟩
  | .ck => some ⟨.cmps, i / 4⟩
  | .pair | .wcs => some ⟨.adc, 0⟩
  | .cv => some ⟨.pair, i / 2⟩
  | .wg => some ⟨.wcs, 0⟩
  | .cn => some ⟨.can, 0⟩
  | .seqGroup | .tbk => some ⟨.seq, 0⟩
  | .sq => some ⟨.seqGroup, i / 16⟩
  | .srv | .rly => some ⟨.pairShell, 0⟩
  | .dgk | .sfk | .sos => some ⟨.ssv, 0⟩
  | .so => some ⟨.sos, 0⟩
  | .loss | .rfl | .led => some ⟨.thm, 0⟩
  | .scb => some ⟨.scbShell, 0⟩
  | .palloc | .pscrub => some ⟨.poolShell, 0⟩
  | .sys | .hlk | .len | .gcu | .reg | .obc | .act | .fbk | .adc | .can | .seq | .pairShell | .ssv | .thm
  | .scbShell | .poolShell => none

/-- A unit and its descendants in the order of the walk of R22, `n` levels deep. -/
def subtreeN : Nat → Unit → List Unit
  | 0, u => [u]
  | n + 1, u => u :: u.children.flatMap (subtreeN n)

/-- A unit and every descendant of it; the tree is at most six levels deep (R20). -/
def Unit.subtree (u : Unit) : List Unit := subtreeN 4 u

/-- A unit and its ancestors, nearest first. -/
def ancestorsN : Nat → Unit → List Unit
  | 0, u => [u]
  | n + 1, u => u :: (match u.parent with | none => [] | some p => ancestorsN n p)

/-- A unit and its ancestors, nearest first. -/
def Unit.ancestors (u : Unit) : List Unit := ancestorsN 4 u

/-- Every unit of the device, in the order of the walk of R22, which numbers the sources of the router (R124). -/
def allUnits : List Unit := rootUnits.flatMap Unit.subtree

/-- The position of a unit in a list, or the list's length where it is not in it. -/
def positionOf (u : Unit) : List Unit → Nat
  | [] => 0
  | v :: vs => if v = u then 0 else positionOf u vs + 1

/-- The router source number of a unit (R124). -/
def Unit.source (u : Unit) : Nat := positionOf u allUnits

/-- The unit with a router source number. -/
def unitOfSource (n : Nat) : Option Unit := allUnits[n]?

/-- The unit whose page has a page number: address bits 23:12 (R85, R86). -/
def unitAt (p : Nat) : Option Unit :=
  if p = 0 then some ⟨.sys, 0⟩ else
  if p = 1 then some ⟨.tbase, 0⟩ else
  if p = 2 then some ⟨.cadShell, 0⟩ else
  if 0x30 ≤ p && p < 0x40 then some ⟨.cad, p - 0x30⟩ else
  if p = 0x20 then some ⟨.router, 0⟩ else
  if p = 3 then some ⟨.vmon, 0⟩ else
  if p = 0x350 then some ⟨.sigb, 0⟩ else
  if p = 0x10 then some ⟨.hlk, 0⟩ else
  if 0x11 ≤ p && p < 0x13 then some ⟨.hp, p - 0x11⟩ else
  if p = 0x180 then some ⟨.len, 0⟩ else
  if p = 0x181 then some ⟨.laneShell, 0⟩ else
  if 0x182 ≤ p && p < 0x18b then some ⟨.lane, p - 0x182⟩ else
  if 0x18B ≤ p && p < 0x193 then some ⟨.podGroup, p - 0x18B⟩ else
  if 0x100 ≤ p && p < 0x180 then some ⟨.pod, p - 0x100⟩ else
  if p = 0x193 then some ⟨.arenaShell, 0⟩ else
  if 0x194 ≤ p && p < 0x198 then some ⟨.arenaQuad, p - 0x194⟩ else
  if p = 0x224 then some ⟨.gcu, 0⟩ else
  if 0x200 ≤ p && p < 0x224 && (p - 0x200) % 4 = 0 then some ⟨.stage, (p - 0x200) / 4⟩ else
  if p = 0x240 then some ⟨.reg, 0⟩ else
  if 0x241 ≤ p && p < 0x245 then some ⟨.phase, p - 0x241⟩ else
  if p = 0x245 then some ⟨.vsup, 0⟩ else
  if p = 0x250 then some ⟨.obc, 0⟩ else
  if p = 0x251 then some ⟨.ppx, 0⟩ else
  if p = 0x252 then some ⟨.sess, 0⟩ else
  if p = 0x260 then some ⟨.act, 0⟩ else
  if 0x261 ≤ p && p < 0x264 then some ⟨.cm, p - 0x261⟩ else
  if p = 0x280 then some ⟨.fbk, 0⟩ else
  if 0x284 ≤ p && p < 0x29c && (p - 0x284) % 4 = 0 then some ⟨.chan, (p - 0x284) / 4⟩ else
  if 0x285 ≤ p && p < 0x29d && (p - 0x285) % 4 = 0 then some ⟨.dec, (p - 0x285) / 4⟩ else
  if 0x286 ≤ p && p < 0x29e && (p - 0x286) % 4 = 0 then some ⟨.ssi, (p - 0x286) / 4⟩ else
  if 0x287 ≤ p && p < 0x29f && (p - 0x287) % 4 = 0 then some ⟨.cmps, (p - 0x287) / 4⟩ else
  if 0x268 ≤ p && p < 0x280 then some ⟨.ck, p - 0x268⟩ else
  if p = 0x2A0 then some ⟨.adc, 0⟩ else
  if 0x2A1 ≤ p && p < 0x2AD && (p - 0x2A1) % 3 = 0 then some ⟨.pair, (p - 0x2A1) / 3⟩ else
  if 0x2A1 ≤ p && p < 0x2AD && (p - 0x2A1) % 3 ≠ 0 then some ⟨.cv, 2 * ((p - 0x2A1) / 3) + (p - 0x2A1) % 3 - 1⟩ else
  if p = 0x2AD then some ⟨.wcs, 0⟩ else
  if 0x2AE ≤ p && p < 0x2b1 then some ⟨.wg, p - 0x2AE⟩ else
  if p = 0x2C0 then some ⟨.can, 0⟩ else
  if 0x2C1 ≤ p && p < 0x2c5 then some ⟨.cn, p - 0x2C1⟩ else
  if p = 0x2E0 then some ⟨.seq, 0⟩ else
  if p = 0x2E1 then some ⟨.tbk, 0⟩ else
  if 0x2E2 ≤ p && p < 0x2e4 then some ⟨.seqGroup, p - 0x2E2⟩ else
  if 0x2E4 ≤ p && p < 0x300 then some ⟨.sq, p - 0x2E4⟩ else
  if 0x258 ≤ p && p < 0x25C then some ⟨.sq, 28 + (p - 0x258)⟩ else
  if p = 0x300 then some ⟨.pairShell, 0⟩ else
  if p = 0x301 then some ⟨.srv, 0⟩ else
  if p = 0x302 then some ⟨.rly, 0⟩ else
  if p = 0x310 then some ⟨.ssv, 0⟩ else
  if p = 0x311 then some ⟨.dgk, 0⟩ else
  if p = 0x312 then some ⟨.sfk, 0⟩ else
  if p = 0x313 then some ⟨.sos, 0⟩ else
  if 0x314 ≤ p && p < 0x31c then some ⟨.so, p - 0x314⟩ else
  if p = 0x320 then some ⟨.thm, 0⟩ else
  if p = 0x321 then some ⟨.loss, 0⟩ else
  if p = 0x322 then some ⟨.rfl, 0⟩ else
  if p = 0x323 then some ⟨.led, 0⟩ else
  if p = 0x330 then some ⟨.scbShell, 0⟩ else
  if 0x331 ≤ p && p < 0x339 then some ⟨.scb, p - 0x331⟩ else
  if p = 0x340 then some ⟨.poolShell, 0⟩ else
  if p = 0x341 then some ⟨.palloc, 0⟩ else
  if p = 0x342 then some ⟨.pscrub, 0⟩ else
  if 0x200 ≤ p && p < 0x224 && (p - 0x200) % 4 ≠ 0 && (p - 0x200) % 4 ≤ stageLegs ((p - 0x200) / 4) then some ⟨.leg, 8 * ((p - 0x200) / 4) + (p - 0x200) % 4 - 1⟩ else
  if p = 0x225 then some ⟨.leg, 19⟩ else
  if p = 0x226 then some ⟨.leg, 35⟩ else
  none

/-- The legs of a stage that have a driver-ready ball (R254): those of DCL, OBD and the AC stages. -/
def readyLegs (s : Nat) : Nat := if s = 2 || s = 4 then 4 else if 5 ≤ s && s ≤ 7 then 3 else 0

/-- GRDY, whose bits of legs without a driver-ready ball read 0 (R281). -/
def readyRows (s : Nat) : List RegRow :=
  if readyLegs s = 0 then [] else [⟨0x234, 1, 4, 1, 1, [⟨0, readyLegs s, .rwl, 2 ^ readyLegs s - 1⟩]⟩]

/-- The register rows of a stage page beside its gate registers: TA and TB (R253), BRK (R304), OBA and OBD (R346).
Offsets 0x200 to 0x7FF of every stage page hold the gate registers (R281). -/
def stageRows (s : Nat) : List RegRow :=
  (if s = 0 then tracRows else if s = 1 then tracRows else if s = 8 then brkRows
    else if s = 3 then obRows else if s = 4 then obRows else []) ++ readyRows s ++ stgRows

/-- The register rows of a unit's page after the common header. -/
def Unit.rows (u : Unit) : List RegRow :=
  match u.kind with
  | .stage => stageRows u.inst
  | .sys => sysRows
  | .tbase => tbRows
  | .cadShell => cadshRows
  | .cad => cadRows
  | .router => rtRows
  | .vmon => vmonRows
  | .sigb => sigbRows
  | .hp => hpRows
  | .laneShell => lnshRows
  | .lane => lnRows
  | .pod => podRows
  | .arenaShell => arshRows
  | .arenaQuad => arqRows
  | .gcu => gcuRows
  | .leg => legRows
  | .reg => regRows
  | .phase => phRows
  | .vsup => vsupRows
  | .obc => obcRows
  | .ppx => ppxRows
  | .sess => sessRows
  | .act => actRows
  | .cm => cmRows
  | .chan => fbRows
  | .dec => decRows
  | .ssi => ssiRows
  | .ck => ckRows
  | .adc => adcRows
  | .pair => prRows
  | .cv => cvRows
  | .wg => wgRows
  | .cn => cnRows
  | .tbk => tbkRows
  | .sq => sqRows
  | .srv => srvRows
  | .rly => rlyRows
  | .ssv => ssvRows
  | .dgk => dgkRows
  | .sfk => sfkRows
  | .sos => sosRows
  | .so => soRows
  | .thm => thmRows
  | .loss => lossRows
  | .rfl => rflRows
  | .led => ledRows
  | .scb => scbRows
  | .palloc => pallocRows
  | .pscrub => pscRows
  | _ => []

/-- The fields of the register at offset `o` of a unit's page: the common header below 0x40 (R88), then the unit's own. -/
def Unit.fieldsAt (u : Unit) (o : Nat) : List FieldSpec :=
  if o < 0x40 then fieldsIn hdrRows o else fieldsIn u.rows o

/-- The fields of a directory entry of a signal (R28). -/
def sigdirFields : List FieldSpec :=
  [⟨28, 4, .ro, 0⟩, ⟨16, 12, .ro, 0⟩, ⟨2, 13, .ro, 0⟩, ⟨1, 1, .rwl, 0⟩, ⟨0, 1, .rwl, 0⟩]

/-- The fields of the register at a word address: a unit page (bit 11 is not decoded, R96), the mailbox page (R111) or
the signal directory window (R27). -/
def fieldsAtAddr (a : Nat) : List FieldSpec :=
  if 0x358000 ≤ a && a < 0x35C000 then sigdirFields else
  if a / 0x1000 = 0xF00 then fieldsIn mbxRows (a % 0x800) else
  match unitAt (a / 0x1000) with
  | none => []
  | some u => u.fieldsAt (a % 0x800)

/-- The reset word of the register at a word address. -/
def resetWordAt (a : Nat) : Word := resetOf (fieldsAtAddr a)

end Sys2Proof.Machine
end

