-- ==== Sys2Proof/Machine/Ops.lean ====
section
/-!
DEFINITION. The named operations over the sparse stores, the registers, the two memories, the signal board and the
time of a command. Every read and write of a register, a memory byte or a keyed item of State goes through them.
-/

namespace Sys2Proof.Machine

/-! Keyed stores: an absent key stands for its default, and no entry holds its key's default. -/

/-- The value of a key. -/
def sget {α : Type} (d : Nat → α) : SMap α → Nat → α
  | [], k => d k
  | (j, v) :: m, k => if j = k then v else sget d m k

/-- A store without a key. -/
def serase {α : Type} : SMap α → Nat → SMap α
  | [], _ => []
  | (j, v) :: m, k => if j = k then serase m k else (j, v) :: serase m k

/-- A store with an entry put in front of the first larger key. -/
def sins {α : Type} (k : Nat) (v : α) : SMap α → SMap α
  | [] => [(k, v)]
  | (j, w) :: m => if k < j then (k, v) :: (j, w) :: m else (j, w) :: sins k v m

/-- A store with a key set; setting a key to its default removes its entry. -/
def sset {α : Type} [DecidableEq α] (d : Nat → α) (m : SMap α) (k : Nat) (v : α) : SMap α :=
  if v = d k then serase m k else sins k v (serase m k)

/-- The canonical form: keys strictly rising from above `lo`, and no entry equal to its key's default. -/
def scanonFrom {α : Type} [DecidableEq α] (d : Nat → α) : Nat → SMap α → Bool
  | _, [] => true
  | lo, (j, v) :: m => lo ≤ j && v ≠ d j && scanonFrom d (j + 1) m

/-- The canonical form of a keyed store. -/
def scanon {α : Type} [DecidableEq α] (d : Nat → α) (m : SMap α) : Bool := scanonFrom d 0 m

/-! Memory: the pool and table memory (R33, R39) as bytes. A byte that nothing has written reads 0, because memory
initialisation writes zero data to every codeword (R574). -/

/-- What an unlisted byte of memory reads as. -/
def memDefault (_ : Nat) : Byte := 0

/-- The canonical form of memory. -/
def Memory.wf (m : List Host.Cell) : Bool := scanon memDefault m

/-- One byte of memory. -/
def State.byte (s : State) (a : Nat) : Byte := sget memDefault s.mem a

/-- Memory with one byte written. -/
def State.setByte (s : State) (a : Nat) (b : Byte) : State := { s with mem := sset memDefault s.mem a b }

/-- The little-endian word of memory at a byte address. -/
def State.memWord (s : State) (a : Nat) : Word :=
  (s.byte (a + 3)) ++ (s.byte (a + 2)) ++ (s.byte (a + 1)) ++ (s.byte a)

/-- Byte `k` of a word. -/
def byteOf (k : Nat) (w : Word) : Byte := w.extractLsb' (8 * k) 8

/-- Memory with a word written under byte enables (R103): bit `k` of `be` enables byte `k`. -/
def State.setMemWord (s : State) (a : Nat) (w : Word) (be : Nat) : State :=
  let s := if be.testBit 0 then s.setByte a (byteOf 0 w) else s
  let s := if be.testBit 1 then s.setByte (a + 1) (byteOf 1 w) else s
  let s := if be.testBit 2 then s.setByte (a + 2) (byteOf 2 w) else s
  if be.testBit 3 then s.setByte (a + 3) (byteOf 3 w) else s

/-- Memory with consecutive whole words written from a byte address. -/
def State.setMemWords (s : State) (a : Nat) : List Word → State
  | [] => s
  | w :: ws => (s.setMemWord a w 15).setMemWords (a + 4) ws

/-- First byte of the pool window (R33). -/
def poolBase : Nat := 0x800000

/-- First byte of table memory (R39). -/
def tableBase : Nat := 0x400000

/-! Registers: words at word addresses, in the units' pages and in the signal windows. -/

/-- The register word stored at a word address. -/
def State.getW (s : State) (a : Nat) : Word := sget resetWordAt s.regs a

/-- The state with the register word at a word address set. -/
def State.setW (s : State) (a : Nat) (w : Word) : State := { s with regs := sset resetWordAt s.regs a w }

/-- The word address of an offset in a unit's page. -/
def Unit.addr (u : Unit) (o : Nat) : Nat := u.page * 0x1000 + o

/-- The value of a field of a unit's page. -/
def State.get (s : State) (u : Unit) (f : Fld) : Nat := f.get (s.getW (u.addr f.off))

/-- The state with a field of a unit's page set; bits above the field's width are dropped. -/
def State.set (s : State) (u : Unit) (f : Fld) (v : Nat) : State :=
  s.setW (u.addr f.off) (f.put (s.getW (u.addr f.off)) v)

/-- Is a one-bit field set? -/
def State.on (s : State) (u : Unit) (f : Fld) : Bool := s.get u f ≠ 0

/-- The signed value of a field. -/
def State.geti (s : State) (u : Unit) (f : Fld) : Int := signed f.w (s.get u f)

/-- The state with a field set to a two's-complement value. -/
def State.seti (s : State) (u : Unit) (f : Fld) (v : Int) : State := s.set u f (unsigned f.w v)

/-- A tick's list with one more number in it; a list of another tick starts again. -/
def noteAt (t k : Nat) (l : Nat × List Nat) : Nat × List Nat :=
  if l.1 = t then (t, if l.2.contains k then l.2 else k :: l.2) else (t, [k])

/-- Is the timebase locked? -/
def State.locked (s : State) : Bool := s.on ⟨.tbase, 0⟩ tb_TBSTAT_LOCK

/-- The present time in ticks: TBCNT, or, while lock is lost, what the RC oscillator has counted on from it (R52). -/
def State.now (s : State) : Nat := if s.locked then s.tick else s.rc

/-- A hardware update is noted, so that a host write at the same time can meet it (R101). -/
def State.note (s : State) (k : Nat) : State := { s with updated := noteAt s.now k s.updated }

/-- Was there such an update at this time? -/
def State.noted (s : State) (k : Nat) : Bool := s.updated.1 = s.now && s.updated.2.contains k

/-- A counter field advanced by `n`, wrapping (R94). -/
def State.incBy (s : State) (u : Unit) (f : Fld) (n : Nat) : State :=
  (s.set u f (s.get u f + n)).note (u.addr f.off)

/-- A wrapping counter field incremented (R94). -/
def State.inc (s : State) (u : Unit) (f : Fld) : State := s.incBy u f 1

/-- A saturating counter field incremented. -/
def State.incSat (s : State) (u : Unit) (f : Fld) : State :=
  if s.get u f + 1 < 2 ^ f.w then s.incBy u f 1 else s

/-- A field limited to a range, as the fields are whose description holds a value at the nearer limit. -/
def clamp (lo hi v : Nat) : Nat := if v < lo then lo else if hi < v then hi else v

/-- A value of which 0 acts as 1. -/
def atLeast1 (v : Nat) : Nat := if v = 0 then 1 else v

/-- An integer limited to a range. -/
def clampI (lo hi v : Int) : Int := if v < lo then lo else if hi < v then hi else v

/-! Rounding. -/

/-- The quotient of two integers rounded half to even; the divisor is positive. -/
def roundDiv (n : Int) (d : Nat) : Int :=
  let q := n / (d : Int)
  let r := n % (d : Int)
  if 2 * r < d then q else if (d : Int) < 2 * r then q + 1 else if q % 2 = 0 then q else q + 1

/-- The quotient of two integers rounded half to even, for a divisor of either sign. -/
def roundDivI (n d : Int) : Int := if d < 0 then roundDiv (-n) d.natAbs else roundDiv n d.natAbs

/-- A number saturated to Q15. -/
def satQ15 (v : Int) : Int := clampI (-32768) 32767 v

/-- A number saturated to INT32. -/
def sat32 (v : Int) : Int := clampI (-2147483648) 2147483647 v

/-- The signed value of the low half of a word. -/
def lo16 (w : Word) : Int := signed 16 (w.toNat % 65536)

/-- The signed value of the high half of a word. -/
def hi16 (w : Word) : Int := signed 16 (w.toNat / 65536)

/-- A bit field of a word. -/
def bits (w : Word) (lo n : Nat) : Nat := w.toNat / 2 ^ lo % 2 ^ n

/-! Time. -/

/-- The time of a command: TBCNT moves to it while the timebase is locked, and the RC oscillator's count without lock; neither
moves backwards (R50, R52). -/
def State.at (s : State) (t : Nat) : State :=
  if s.locked then { s with tick := max s.tick t } else { s with rc := max s.rc t }

/-- The 32-bit timestamp of the present tick (R51). -/
def State.stamp (s : State) : Nat := s.tick % 2 ^ 32

/-- Has a timebase instant come? Without lock none does (R52). -/
def State.due (s : State) (d : Nat) : Bool := s.locked && d ≤ s.tick

/-- The ticks that a span of a turn-off takes: without lock it is rounded up to whole RC cycles of 125 ns, plus one (R52). -/
def State.span (s : State) (n : Nat) : Nat := if s.locked then n else (n + 49) / 50 * 50 + 50

/-- Has an instant of a stage turn-off come? The RC oscillator times it without lock (R52). -/
def State.dueOff (s : State) (d : Nat) : Bool := d ≤ s.now

/-- Lock falls: the RC oscillator counts on from the held TBCNT (R52). -/
def State.lockFall (s : State) : State := { s.set ⟨.tbase, 0⟩ tb_TBSTAT_LOCK 0 with rc := s.tick }

/-- Ticks of a time in milliseconds. -/
def ms (n : Nat) : Nat := 400000 * n

/-- Ticks of a time in microseconds. -/
def us (n : Nat) : Nat := 400 * n

/-- The next free value's index; the counter advances so that each use is a fresh one. -/
def State.fresh (s : State) : State := { s with freeCtr := s.freeCtr + 1 }

/-! The mode (R69). -/

/-- The code of the mode in force. -/
def State.mode (s : State) : Nat := s.get ⟨.sys, 0⟩ sys_MODESTAT_MODE

/-- Is a mode in force? -/
def State.inMode (s : State) (m : Mode) : Bool := s.mode = m.code

/-- A unit's effective enable (R15): its own enable bit ANDed with those of its ancestors. A unit that is held in reset does
not act (R13, R16). -/
def State.enabled (s : State) (u : Unit) : Bool := u.ancestors.all fun v => s.on v hdr_UCTL_EN && !(s.on v hdr_UCTL_URST)

/-- BRV-5210 status mode (R98). -/
def State.stmode (s : State) : Bool := s.on ⟨.sys, 0⟩ sys_CFG_STMODE

/-! COR fields (R94, R98). -/

/-- The hold key of a COR field. -/
def holdKey (u : Unit) (f : Fld) : Nat := u.addr f.off * 32 + f.lo

/-- In BRV-5210 status mode, the hold of a COR field starts again at an occurrence (R98). -/
def State.hold (s : State) (u : Unit) (f : Fld) : State :=
  if s.stmode then { s with holds := sset (fun _ => 0) s.holds (holdKey u f) (s.tick + 1) } else s

/-- The hold of a COR field that is set starts again: its cause was last present now (R98). -/
def State.holdSet (s : State) (u : Unit) (f : Fld) : State := if s.get u f ≠ 0 then s.hold u f else s

/-- A COR field set by an occurrence. -/
def State.cor (s : State) (u : Unit) (f : Fld) (v : Nat) : State := (s.set u f v).hold u f

/-- A first-cause COR field loaded by an occurrence: by the first since the last read, or in BRV-5210 status mode by
the most recent (R94, R98). `valid` is the bit that says one was recorded. -/
def State.first (s : State) (u : Unit) (valid f : Fld) (v : Nat) : State :=
  if s.stmode || s.get u valid = 0 then s.cor u f v else s

/-- A command status word's outcome bits and first cause (R102): the cause is loaded where none stands. -/
def State.cause (s : State) (u : Unit) (f : Fld) (v : Nat) : State :=
  if s.stmode || s.get u f = 0 then s.cor u f v else s

/-! Events (R93, R124, R127). -/

/-- The router unit. -/
def uRouter : Unit := ⟨.router, 0⟩

/-- The occurrence key of an event: source unit's page and event bit. -/
def evKey (u : Unit) (b : Nat) : Nat := u.page * 32 + b

/-- How often an event has occurred; sequencer triggers, guards and scorebook triggers compare it (R225, R431, R441). -/
def State.evCount (s : State) (u : Unit) (b : Nat) : Nat := sget (fun _ => 0) s.evSeen (evKey u b)

/-- How often it had occurred before the present tick (R441). -/
def State.evBefore (s : State) (u : Unit) (b : Nat) : Nat :=
  s.evCount u b - (if s.evNow.1 = s.tick then sget (fun _ => 0) s.evNow.2 (evKey u b) else 0)

/-- The event ball assignment of a vector (R126): bit 0 nEVT0, bit 1 nEVT1. -/
def State.vecBall (s : State) (v : Nat) : Nat :=
  (s.getW (uRouter.addr (0x48 + 4 * (v / 16)))).toNat / 2 ^ (2 * (v % 16)) % 4

/-- Is a source pending (R124)? -/
def State.srcPending (s : State) (n : Nat) : Bool := (s.getW (uRouter.addr (0x100 + 4 * (n / 32)))).getLsbD (n % 32)

/-- The pending sources, in ascending order, with the units they are. -/
def State.pendingSources (s : State) : List (Nat × Unit) :=
  (allUnits.zipIdx.filter fun p => s.srcPending p.2).map fun p => (p.2, p.1)

/-- The vector to which a unit's events go (R93). -/
def State.vecOf (s : State) (u : Unit) : Nat := s.get u hdr_EVROUTE_VEC

/-- Is a vector assigned to ball `x` pending (R126)? -/
def State.ballWanted (s : State) (x : Nat) : Bool :=
  s.pendingSources.any fun p => (s.vecBall (s.vecOf p.2)).testBit x

/-- The same, or the last such source was cleared at this time: a new one that meets the clear finds the ball low (R128). -/
def State.ballHeld (s : State) (x : Nat) : Bool := s.ballWanted x || s.noted (0x3000000 + x)

/-- The level of event ball nEVTx: low while a vector assigned to it is pending, but for a pulse of R127. -/
def State.ballLow (s : State) (x : Nat) : Bool := s.ballHeld x && !(s.pulse.testBit x)

/-- Set one bit of a 32-bit field. -/
def State.setBit (s : State) (u : Unit) (o b : Nat) : State :=
  s.setW (u.addr o) (s.getW (u.addr o) ||| BitVec.ofNat 32 (2 ^ b))

/-- Note an occurrence of an event: its EVSTAT bit, and the count that triggers compare. -/
def State.occur (s : State) (u : Unit) (b : Nat) : State :=
  let s := (s.setBit u 0x10 b).hold u ⟨0x10, b, 1⟩
  let l := if s.evNow.1 = s.tick then s.evNow.2 else []
  { s with evSeen := sset (fun _ => 0) s.evSeen (evKey u b) (s.evCount u b + 1)
           evNow := (s.tick, sset (fun _ => 0) l (evKey u b) (sget (fun _ => 0) l (evKey u b) + 1)) }

/-- A source becomes pending; where it was not, a ball of its vector that is already low and has EDGE set pulses high
(R127). -/
def State.setPending (s : State) (u : Unit) : State :=
  let n := u.source
  let code := s.vecBall (s.vecOf u)
  let edge := (s.getW (uRouter.addr 0x58)).toNat
  let p := if s.srcPending n then 0 else
    (if code.testBit 0 && edge.testBit 0 && s.ballHeld 0 then 1 else 0) +
    (if code.testBit 1 && edge.testBit 1 && s.ballHeld 1 then 2 else 0)
  let s := { s with pulse := s.pulse ||| p }
  (s.setBit uRouter (0x100 + 4 * (n / 32)) (n % 32)).note (0x1000000 + n)

/-- Delivery of an event to the router (R93, R129): a source that becomes pending while its vector has no ball
raises MAPERR, and MAPERR is itself delivered where the router's mask says so. -/
def State.deliver (s : State) (u : Unit) : State :=
  let fresh := !s.srcPending u.source
  let s' := s.setPending u
  if fresh && s.vecBall (s.vecOf u) = 0 then
    let s' := s'.occur uRouter 0
    if (s'.getW (uRouter.addr 0x14)).getLsbD 0 then s'.setPending uRouter else s'
  else s'

/-- An event of a unit occurs (R93): EVSTAT, and delivery where EVMASK lets it. -/
def State.raise (s : State) (u : Unit) (b : Nat) : State :=
  let s := s.occur u b
  if (s.getW (u.addr 0x14)).getLsbD b then s.deliver u else s

/-! Faults (R90, R91). -/

/-- OWNF sets, and meets an FCLR of the same time (R90, R101). -/
def State.ownFault (s : State) (u : Unit) : State := (s.set u hdr_USTAT_OWNF 1).note (0x2000000 + u.page)

/-- A fault of a unit is recorded: OWNF, FAULTCODE and STAMP (R90, R91). The first fault since the last read loads CODE, and NUM
counts the faults since that read, saturating (R88). -/
def State.fault (s : State) (u : Unit) (code : Nat) : State :=
  let s := s.ownFault u
  let n := s.get u hdr_FAULTCODE_NUM
  let s := s.first u hdr_FAULTCODE_VALID hdr_FAULTCODE_CODE code
  let s := (s.cor u hdr_FAULTCODE_NUM (if n < 255 then n + 1 else 255)).cor u hdr_FAULTCODE_VALID 1
  s.set u hdr_STAMP_TICKS s.stamp

/-- The code of a unit's reaction selector (R92). -/
def State.sel (s : State) (u : Unit) (k : Nat) : Nat := (s.getW (u.addr 0x20)).toNat / 2 ^ (4 * k) % 16

/-- A software write beat a hardware update of the same register (R101). -/
def State.lostUpd (s : State) (u : Unit) : State := s.cor u hdr_USTAT_LOSTUPD 1

/-- Has a host write of a register fallen at this time (R101)? -/
def State.hostWrote (s : State) (u : Unit) (off : Nat) : Bool := s.wrote.1 = s.now && s.wrote.2.contains (u.addr off)

/-- A hardware update of a hardware-updated RW register (R101): a host write of the same word on the same tick stands,
and LOSTUPD is set. -/
def State.hwUpdate (s : State) (u : Unit) (off : Nat) (f : State → State) : State :=
  if s.hostWrote u off then s.lostUpd u
  else (f s).note (u.addr off)

/-- A command's completion is noted, so that an abort that meets it finds it done (R101). -/
def State.doneNote (s : State) (u : Unit) (cmd : Fld) : State := s.note (0x40000000 + holdKey u cmd)

/-- An abort of a command whose field reads 0 already: ABORTLATE where the command completed at this very time (R101). -/
def State.abortLate (s : State) (u : Unit) (cmd late : Fld) : State :=
  if s.noted (0x40000000 + holdKey u cmd) then s.cor u late 1 else s

/-! The signal board (R26 to R32). -/

/-- The SIGB unit. -/
def uSigb : Unit := ⟨.sigb, 0⟩

/-- The word address of a signal's value. -/
def sigAddr (n : Nat) : Nat := 0x354000 + 4 * (n % 4096)

/-- The word address of a signal's directory entry. -/
def dirAddr (n : Nat) : Nat := 0x358000 + 4 * (n % 4096)

/-- A field of a signal's directory entry. -/
def State.dir (s : State) (n : Nat) (f : Fld) : Nat := f.get (s.getW (dirAddr n))

/-- The state with a field of a signal's directory entry set. -/
def State.setDir (s : State) (n : Nat) (f : Fld) (v : Nat) : State := s.setW (dirAddr n) (f.put (s.getW (dirAddr n)) v)

def dir_WCLASS : Fld := ⟨0, 28, 4⟩
def dir_WINST : Fld := ⟨0, 16, 12⟩
def dir_RDRCNT : Fld := ⟨0, 2, 13⟩
def dir_HOSTW : Fld := ⟨0, 1, 1⟩
def dir_TYPE : Fld := ⟨0, 0, 1⟩

/-- A word as a Q15 signal holds it: bits 15:0, sign-extended (R26). -/
def q15Word (w : Word) : Word := (w.extractLsb' 0 16).signExtend 32

/-- The word stored in a signal (R26, R31). -/
def State.sig (s : State) (n : Nat) : Word := s.getW (sigAddr n)

/-- A signal's value as a signed number. -/
def State.sigI (s : State) (n : Nat) : Int := (s.sig n).toInt

/-- What of a feedback channel no register shows. -/
def State.ch (s : State) (c : Nat) : ChanH := sget (fun _ => {}) s.chans c

/-- The state with that of a feedback channel changed. -/
def State.modCh (s : State) (c : Nat) (f : ChanH → ChanH) : State :=
  { s with chans := sset (fun _ => {}) s.chans c (f (s.ch c)) }

/-- Is a signal the source of a channel's emulator (R391)? -/
def State.emuReads (s : State) (c n : Nat) : Bool :=
  let u : Unit := ⟨.chan, c⟩
  s.get u fb_CHOUT_OMODE = 2 && s.get u fb_CHOUT_ESRC = 6 && s.get u fb_CHOUT_ESIG = n % 4096

/-- A write of a signal is noted by the emulators that read it (R391). -/
def State.emuNote (s : State) (n : Nat) : State :=
  let s := if s.emuReads 0 n then s.modCh 0 fun h => { h with emuWritten := true } else s
  if s.emuReads 1 n then s.modCh 1 fun h => { h with emuWritten := true } else s

/-- A signal written by its writer (R26, R31): a Q15 signal takes bits 15:0, and the write stores good parity. -/
def State.writeSig (s : State) (n : Nat) (w : Word) : State :=
  let s := s.setW (sigAddr n) (if s.dir n dir_TYPE = 0 then q15Word w else w)
  { s with badParity := s.badParity.filter (· ≠ n % 4096) }.emuNote n

/-- SIGERR records an error of a signal (R32): causes 1 DUPWRITER, 2 TYPE, 3 FOREIGN, 4 PARITY. -/
def State.sigErr (s : State) (n cause : Nat) : State :=
  let s := s.first uSigb sigb_SIGERR_ERR sigb_SIGERR_SIGNUM (n % 4096)
  let s := s.first uSigb sigb_SIGERR_ERR sigb_SIGERR_CAUSE cause
  s.cor uSigb sigb_SIGERR_ERR 1

/-- A writer binding is checked against the directory (R29). The answer is the new state and whether it took effect. -/
def State.bindWriter (s : State) (n cls inst type : Nat) : State × Bool :=
  if s.dir n dir_WCLASS ≠ 0 && !(s.dir n dir_WCLASS = cls && s.dir n dir_WINST = inst) then (s.sigErr n 1, false)
  else if s.dir n dir_TYPE ≠ type then (s.sigErr n 2, false)
  else
    let s := if s.dir n dir_WCLASS = 0 then s.set uSigb sigb_BOUNDCNT_COUNT (s.get uSigb sigb_BOUNDCNT_COUNT + 1) else s
    ((s.setDir n dir_WCLASS cls).setDir n dir_WINST inst, true)

/-- A writer binding is released (R30), where it is the recorded writer. -/
def State.freeWriter (s : State) (n cls inst : Nat) : State :=
  if s.dir n dir_WCLASS = cls && s.dir n dir_WINST = inst && cls ≠ 0 then
    let s := (s.setDir n dir_WCLASS 0).setDir n dir_WINST 0
    s.set uSigb sigb_BOUNDCNT_COUNT (s.get uSigb sigb_BOUNDCNT_COUNT - 1)
  else s

/-- A reader binding is checked for type (R29) and counted in RDRCNT (R28). -/
def State.bindReader (s : State) (n type : Nat) : State × Bool :=
  if s.dir n dir_TYPE ≠ type then (s.sigErr n 2, false)
  else (s.setDir n dir_RDRCNT (s.dir n dir_RDRCNT + 1), true)

/-- A reader binding is released (R28). -/
def State.freeReader (s : State) (n : Nat) : State := s.setDir n dir_RDRCNT (s.dir n dir_RDRCNT - 1)

/-! Pool regions (R34 to R38). -/

/-- The region of a pool client: byte address and length, from the valid entry that names it (R34, R36). -/
def State.region (s : State) (client : Nat) : Option (Nat × Nat) :=
  ((List.range 64).find? fun n => s.on ⟨.palloc, 0⟩ (palloc_ALLOCB_VALID n) &&
      s.get ⟨.palloc, 0⟩ (palloc_ALLOCB_CLIENT n) = client).map fun n =>
    (poolBase + 0x400 * s.get ⟨.palloc, 0⟩ (palloc_ALLOCA_BASE n),
      0x400 * (s.get ⟨.palloc, 0⟩ (palloc_ALLOCA_SIZEM1 n) + 1))

/-! Loops over small ranges. -/

/-- Fold an operation over the numbers below `n`, in ascending order. -/
def forN (n : Nat) (f : Nat → State → State) (s : State) : State := (List.range n).foldl (fun s i => f i s) s

/-- Fold an operation over a list. -/
def forL {α : Type} (l : List α) (f : α → State → State) (s : State) : State := l.foldl (fun s x => f x s) s

/-- Apply an operation where a condition holds. -/
def State.when (s : State) (c : Bool) (f : State → State) : State := if c then f s else s

end Sys2Proof.Machine
end

