-- ==== Sys2Proof/Machine/Stage.lean ====
section
/-!
DEFINITION. What the stages share: units by name, the quantities they publish (R251, R252, R303, R326, R344, R369), the
protection group of SIX (R261), the levels of the command balls and the stage turn-off (R267, R268).
-/

namespace Sys2Proof.Machine

def uSys : Unit := ⟨.sys, 0⟩
def uStage (st : Nat) : Unit := ⟨.stage, st⟩
def uLeg (st l : Nat) : Unit := ⟨.leg, st * 8 + l⟩
def uReg : Unit := ⟨.reg, 0⟩
def uPhase (n : Nat) : Unit := ⟨.phase, n⟩
def uVsup : Unit := ⟨.vsup, 0⟩
def uBrk : Unit := ⟨.stage, 8⟩
def uCm (n : Nat) : Unit := ⟨.cm, n⟩
def uAct : Unit := ⟨.act, 0⟩
def uObc : Unit := ⟨.obc, 0⟩
def uPod (p : Nat) : Unit := ⟨.pod, p⟩
def uLane (n : Nat) : Unit := ⟨.lane, n⟩
def uSsv : Unit := ⟨.ssv, 0⟩
def uSrv : Unit := ⟨.srv, 0⟩
def uRly : Unit := ⟨.rly, 0⟩
def uSo (k : Nat) : Unit := ⟨.so, k⟩
def uCad (n : Nat) : Unit := ⟨.cad, n⟩
def uCadSh : Unit := ⟨.cadShell, 0⟩

/-- The protection state of a stage. -/
def State.stg (s : State) (st : Nat) : StageH := sget (fun _ => {}) s.stages st

/-- The state with the protection state of a stage changed. -/
def State.modStg (s : State) (st : Nat) (f : StageH → StageH) : State :=
  { s with stages := sset (fun _ => {}) s.stages st (f (s.stg st)) }

/-! Publication of fixed-function quantities. -/

/-- The unit whose outputs a stage's publication belongs to. -/
def stageOwner (st : Nat) : Unit :=
  if st = 2 then uReg else if st = 5 || st = 6 || st = 7 then uCm (st - 5) else uStage st

/-- The units whose outputs a writer's signal is (R28, R92). -/
def writerUnits (cls inst : Nat) : List Unit :=
  match cls with
  | 1 => [uPod (inst / 8)]
  | 2 => [⟨.sq, inst⟩]
  | 3 => [⟨.cn, inst / 256⟩]
  | 4 => [⟨.arenaQuad, inst / 8⟩]
  | 5 =>
    if inst < 0x200 then [stageOwner ((inst - 0x100) / 16)]
    else if inst < 0x210 then [⟨.ppx, 0⟩]
    else if inst < 0x300 then [⟨.sess, 0⟩]
    else if inst < 0x400 then
      [⟨.chan, (inst - 0x300) / 16⟩, ⟨.dec, (inst - 0x300) / 16⟩, ⟨.ssi, (inst - 0x300) / 16⟩]
    else if inst < 0x500 then [⟨.cv, (inst - 0x400) / 32⟩]
    else if inst < 0x600 then [⟨.cv, (inst - 0x500) / 2⟩]
    else if inst < 0x700 then [⟨.tbk, 0⟩]
    else if inst < 0x800 then [⟨.sfk, 0⟩]
    else [⟨.thm, 0⟩, ⟨.loss, 0⟩]
  | _ => []

/-- Does a HOLD or ZERO reaction hold the outputs of a unit (R92)? -/
def State.isHeld (s : State) (u : Unit) : Bool := sget (fun _ => 0) s.outHold u.page ≠ 0

/-- A signal written by a hardware writer, where the directory names it as the signal's writer (R28) and no reaction holds
its unit's outputs (R92). -/
def State.drive (s : State) (cls inst sig : Nat) (w : Word) : State :=
  if s.dir sig dir_WCLASS = cls && s.dir sig dir_WINST = inst && !((writerUnits cls inst).any s.isHeld) then
    s.writeSig sig w
  else s

/-- A signal written by a fixed-function source (class 5, R252). -/
def State.publish (s : State) (sig inst : Nat) (w : Word) : State := s.drive 5 inst sig w

/-- The outputs of a unit driven to 0 (R92, ZERO): every signal it is the writer of. -/
def State.zeroOutputs (s : State) (u : Unit) : State :=
  forN 4096 (fun n s =>
    if (writerUnits (s.dir n dir_WCLASS) (s.dir n dir_WINST)).contains u then s.writeSig n 0 else s) s

/-- A publication entry with the layout of TPUB: EN in bit 31, QIDX in 19:16, SIG in 11:0 (R252). -/
def State.pubEntry (s : State) (u : Unit) (o q inst : Nat) (w : Word) : State :=
  let e := s.getW (u.addr o)
  if e.getLsbD 31 && (e.toNat / 2 ^ 16) % 16 = q then s.publish (e.toNat % 4096) inst w else s

/-- A publication entry with a source in bits 21:20 (OPUB, APUB). -/
def State.pubEntrySrc (s : State) (u : Unit) (o src q inst : Nat) (w : Word) : State :=
  if (s.getW (u.addr o)).toNat / 2 ^ 20 % 4 = src then s.pubEntry u o q inst w else s

/-- The publication entries of a stage, written with a quantity that was updated. In SIX, TB's have no effect (R228). -/
def State.pubStage (s : State) (st q : Nat) (w : Word) : State :=
  let inst := 0x100 + 0x10 * st + q
  if st = 1 && s.on (uStage 0) trac_TCFG_MACH then s
  else if st = 0 || st = 1 then forN 8 (fun k s => s.pubEntry (uStage st) (0x100 + 4 * k) q inst w) s
  else if st = 2 then forN 4 (fun k s => s.pubEntry uReg (0x100 + 4 * k) q inst w) s
  else if st = 3 || st = 4 then forN 8 (fun k s => s.pubEntrySrc uObc (0x80 + 4 * k) (st - 1) q inst w) s
  else if st = 8 then forN 4 (fun k s => s.pubEntry uBrk (0x100 + 4 * k) q inst w) s
  else forN 8 (fun k s => s.pubEntrySrc uAct (0x80 + 4 * k) (st - 5) q inst w) s

/-- A quantity before its first update: HALT is 1 with REG idle (R324), FRZ 1 with a kernel idle (R363),
REGENLIM 0x7FFF (R291), STATE of SFK the reset word of SFSTAT (R547), 0 otherwise. -/
def qtyDefault (k : Nat) : Word :=
  if k = 39 || k = 86 || k = 102 || k = 118 then 1 else if k = 130 then 0x7FFF else if k = 0x700 then 0x40000 else 0

/-- A stage quantity as last updated (R216). -/
def State.qtyOf (s : State) (st q : Nat) : Word := sget qtyDefault s.qty (st * 16 + q)

/-- A stage quantity updated: kept for scorebook taps, and published. -/
def State.setQty (s : State) (st q : Nat) (w : Word) : State :=
  let s := { s with qty := sset qtyDefault s.qty (st * 16 + q) w }
  s.pubStage st q w

/-- A stage quantity updated with a number. -/
def State.setQtyI (s : State) (st q : Nat) (v : Int) : State := s.setQty st q (BitVec.ofInt 32 v)

/-! The protection group. -/

/-- SIX is in force: TA and TB are one machine and one protection group (R228, R261). -/
def State.six (s : State) : Bool := s.on (uStage 0) trac_TCFG_MACH

/-- The stage whose registers and timing govern a stage's protection (R261). -/
def State.lead (s : State) (st : Nat) : Nat := if st = 1 && s.six then 0 else st

/-- The stages of a protection group; TB takes part only while its own effective enable is 1 (R262). -/
def State.group (s : State) (st : Nat) : List Nat :=
  if st = 0 && s.six then (if s.enabled (uStage 1) then [0, 1] else [0]) else [st]

/-- GSTAT.STATE of the governing stage: 0 NORMAL, 1 SOFT, 2 OFF, 3 ASC. -/
def State.gstate (s : State) (st : Nat) : Nat := s.get (uStage (s.lead st)) stg_GSTAT_STATE

/-- Is the governing stage latched? -/
def State.glatch (s : State) (st : Nat) : Bool := s.on (uStage (s.lead st)) stg_GSTAT_LATCH

/-! The command balls: what a cut takes and keeps. -/

/-- GSOFT.TICKS as it acts (R281). -/
def State.gsoft (s : State) (st : Nat) : Nat := clamp 200 2000 (s.get (uStage (s.lead st)) stg_GSOFT_TICKS)

/-- GDEAD.DEAD as it acts, in 1/32 ticks (R281). -/
def State.dead32 (s : State) (st : Nat) : Nat :=
  let d := s.get (uStage (s.lead st)) stg_GDEAD_DEAD
  if d < 0x200 then 0x200 else d

/-- The number of switches of a stage (R254). -/
def stageSwitches (st : Nat) : Nat := if st = 8 then 2 else 2 * stageLegs st

/-- The leg of a switch (R254). -/
def legOf (st k : Nat) : Nat := if st = 8 then k else k / 2

/-- The last edge of a switch at or before a time. -/
def lastEdge (k t32 : Nat) : List Edge → Option Edge
  | [] => none
  | e :: es =>
    match lastEdge k t32 es with
    | some f => some f
    | none => if e.sw = k && e.at32 ≤ t32 then some e else none

/-- The last turn-on edge of a switch at or before a time. -/
def lastOnEdge (k t32 : Nat) (es : List Edge) : Option Edge := lastEdge k t32 (es.filter (·.level))

/-- The time of the last turn-on of a switch at its ball, in 1/32 ticks (R265): in ASC of the low sides. -/
def State.lastOn (s : State) (st k : Nat) : Option Nat :=
  let h := s.stg st
  let g := s.stg (s.lead st)
  if s.gstate st = 3 && k % 2 = 1 then some (32 * (g.start + s.gsoft st) + s.dead32 st)
  else match lastOnEdge k (32 * s.tick + 31) h.edges with
    | some e => some e.at32
    | none => if sget (fun _ => 0) h.lastOns k = 0 then none else some (sget (fun _ => 0) h.lastOns k - 1)

/-- The command balls of a stage are cut: its placed edges, pulses and holds are gone, and the refresh count restarts (R263, R280). The
turn-ons stay known, because blanking runs on from them (R265). -/
def State.cutBalls (s : State) (m : Nat) : State :=
  let ons := (List.range (stageSwitches m)).foldl (fun l k =>
    match s.lastOn m k with
    | some t => sset (fun _ => 0) l k (t + 1)
    | none => l) (s.stg m).lastOns
  s.modStg m fun h => { h with lastOns := ons, edges := [], holds := [], overs := [], blocked := [], onPeriods := [] }

/-- The command source of a stage commands nothing any more. -/
def State.clearCmds (s : State) (m : Nat) : State := (s.cutBalls m).modStg m fun h => { h with cmds := [] }

/-! Carriers (R230, R231). -/

/-- What of a carrier and of a traction stage no register shows. -/
def State.tr (s : State) (st : Nat) : TracH := sget (fun _ => {}) s.trac st

/-- The state with that of a carrier or a traction stage changed. -/
def State.modTr (s : State) (st : Nat) (f : TracH → TracH) : State :=
  { s with trac := sset (fun _ => {}) s.trac st (f (s.tr st)) }

/-- What of a carrier that does not run is left. -/
def TracH.carrierOff (h : TracH) : TracH :=
  { h with period := 0, len := 0, next := none, nextPeak := false, loadAt := none, held := [], heldSix := false, selFrom := none }

/-- A carrier starts: its first valley falls on this tick (R231). -/
def State.carrierBegin (s : State) (st : Nat) : State :=
  if (s.tr st).next = none then s.modTr st fun h => { h with next := some s.tick, nextPeak := false } else s

/-- The tick of the valley or peak of a carrier that is due, where it is the next one of the two (R230). -/
def State.carrierDue (s : State) (st : Nat) (peak : Bool) : Option Nat :=
  match (s.tr st).next with
  | some d => if s.due d && (s.tr st).nextPeak = peak then some d else none
  | none => none

/-- A carrier passes a valley at tick `d`, at which a period of `p` ticks comes into force and takes `len` ticks; its peak falls half
of them later (R230, R232). -/
def State.carrierValley (s : State) (st d p len : Nat) : State :=
  s.modTr st fun h => { h with period := p, len := len, valley := d, next := some (d + len / 2), nextPeak := true, selFrom := some d }

/-- A carrier passes a peak. -/
def State.carrierPeak (s : State) (st : Nat) : State :=
  s.modTr st fun h => { h with next := some (h.valley + h.len), nextPeak := false }

/-- The ticks of the half period that begins at a point that has just been passed. -/
def State.carrierHalf (s : State) (st : Nat) (peak : Bool) : Nat :=
  let h := s.tr st
  if peak then h.len - h.len / 2 else h.len / 2

/-! Cadence generators and the carriers that slave them (R55 to R58). -/

/-- What of a cadence generator no register shows. -/
def State.cad (s : State) (n : Nat) : CadH := sget (fun _ => {}) s.cads n

/-- The state with that of a cadence generator changed. -/
def State.modCad (s : State) (n : Nat) (f : CadH → CadH) : State :=
  { s with cads := sset (fun _ => {}) s.cads n (f (s.cad n)) }

/-- Does a cadence generator run? -/
def State.cadRuns (s : State) (n : Nat) : Bool := (s.get uCadSh cadsh_RUNNING_CAD).testBit n

/-- CADERR records a cause (R56, R57): 1 PERIOD, 2 PHASE, 3 CARRIER, 4 SRC. -/
def State.cadErr (s : State) (n cause : Nat) : State :=
  (s.first (uCad n) cad_CADERR_ERR cad_CADERR_CAUSE cause).cor (uCad n) cad_CADERR_ERR 1

/-- A cadence generator stops (R59); it keeps its registers. -/
def State.cadStop (s : State) (n : Nat) : State :=
  let r := s.get uCadSh cadsh_RUNNING_CAD
  (s.set uCadSh cadsh_RUNNING_CAD (if r.testBit n then r - 2 ^ n else r)).modCad n fun _ => {}

/-- The interval of a cadence (R61): of a slaved one by the carrier period in force of its stage, none while that carrier
does not run. A generator that does not run goes by its registers. -/
def State.cadInterval (s : State) (n : Nat) : Option Nat :=
  let h := s.cad n
  let u := uCad n
  let run := s.cadRuns n
  if if run then h.slaved else s.on u cad_CADCFG_MODE then
    let st := s.lead (if run then h.src else s.get u cad_CADCFG_SRC)
    let d := if run then h.div else s.get u cad_CADCFG_DIV
    let per := (s.tr st).period
    if per = 0 then none else some ((d + 1) * per)
  else some (if run then h.interval else s.get u cad_PERIOD_TICKS)

/-- One selected carrier point counted by a slaved generator (R55, R56). The first one gives an event (R56, R58), and every
(DIV + 1)-th after it. -/
def State.cadPoint (s : State) (n at_ : Nat) : State :=
  let h := s.cad n
  if h.count < h.div then s.modCad n fun h => { h with count := h.count + 1, carrier := true }
  else if h.due.any (at_ ≤ ·) then (s.cadStop n).cadErr n 2
  else s.modCad n fun h => { h with count := 0, carrier := true, due := h.due ++ [at_ + h.phase] }

/-- The serve holder sends a sync at a valley of a stage's carrier, but for DCL (R485). -/
def State.syncSend (s : State) (st at_ : Nat) : State :=
  if st ≠ 2 && s.on uSrv srv_SVSTAT_TOKEN && s.on uRly rly_RLSTAT_TRAINED then
    { s with pair := { s.pair with sync := some (st, at_) } }
  else s

/-- A valley or a peak of a stage's carrier on tick `at_`, as the slaved generators count it (R55). -/
def State.carrierPoint (s : State) (st : Nat) (peak : Bool) (at_ : Nat) : State :=
  let s := if peak then s else s.syncSend st at_
  forN 16 (fun n s =>
    let h := s.cad n
    if s.cadRuns n && h.slaved && h.src = st && h.peak = peak && h.start ≤ at_ then s.cadPoint n at_ else s) s

/-- A stage's carrier stops (R58): no event of its generators falls, the count starts again, and the interval that begins with
their next event is a new one (R61). -/
def State.carrierStopped (s : State) (st : Nat) : State :=
  let s := forN 16 (fun n s =>
    let h := s.cad n
    if s.cadRuns n && h.slaved && h.src = st then
      let s := s.modCad n fun h => { h with last := 0 }
      if h.carrier then (s.modCad n fun h => { h with carrier := false, count := h.div, due := [] }).cadErr n 3 else s
    else s) s
  s.modTr st TracH.carrierOff

/-! Protection states. -/

/-- PROT of a stage and its group updated (R276): GSTAT.STATE + 8 * LATCH. -/
def State.setProt (s : State) (st : Nat) : State :=
  let v := s.gstate st + 8 * (if s.glatch st then 1 else 0)
  let s := s.setQtyI st 15 v
  if st = 0 && s.six then s.setQtyI 1 15 v else s

/-- RSTAT.STATE changed, with quantities 4 STATE and 7 HALT (R324, R326). -/
def State.regSetState (s : State) (v : Nat) : State :=
  let s := s.set uReg reg_RSTAT_STATE v
  let s := s.setQtyI 2 4 v
  s.setQtyI 2 7 (if v = 1 || v = 2 then 0 else 1)

/-- Every phase IDLE with both switches off, no on-pulse, no wait and no rank (R322, R324): interleave is not in force (R311), and DCL has
no carrier (R312). -/
def State.regPhasesIdle (s : State) : State :=
  let s := s.clearCmds 2
  let s := { s with
    convPhases := (s.convPhases.map fun p => (p.1, { p.2 with
      wait := none, peak := false, off := if s.on (uPhase p.1) ph_PHSTAT_ONP then some s.tick else p.2.off })).filter fun p => p.2 ≠ {}
    conv := { s.conv with join := [], joinWith := [], below := none, above := none, seen := 0 } }
  let s := forN 4 (fun n s => s.set (uPhase n) ⟨ph_PHSTAT_STATE.off, 0, 10⟩ 0) s
  let s := (s.set uReg reg_RSTAT_NACT 0).set uReg reg_RSTAT_LOCKED 0
  (s.setQtyI 2 3 0).carrierStopped 2

/-- What of a commutation kernel no register shows. -/
def State.kn (s : State) (n : Nat) : KernH := sget (fun _ => {}) s.kern n

/-- The state with that of a commutation kernel changed. -/
def State.modKn (s : State) (n : Nat) (f : KernH → KernH) : State :=
  { s with kern := sset (fun _ => {}) s.kern n (f (s.kn n)) }

/-- A stage reference as last latched (R136). -/
def State.ref (s : State) (st i : Nat) : Int := lo16 (sget (fun _ => 0) s.refs (st * 256 + i))

/-- Does a stage reference have a writer (R25)? -/
def State.refBound (s : State) (st i : Nat) : Bool := sget (fun _ => 0) s.refOwner (st * 256 + i) ≠ 0

/-- Does DUTY count as exactly 1.0 (R355)? -/
def State.cmSat (s : State) (n : Nat) : Bool := s.get (uCm n) cm_ALIM_DSAT ≤ (max 0 (s.ref (5 + n) 0)).toNat

/-- FRZ of a kernel: 1 outside CLOSED, and in CLOSED while DUTY is saturated (R363). -/
def State.cmFrz (s : State) (n : Nat) : State :=
  let v := if s.get (uCm n) cm_ASTAT_STATE ≠ 3 || s.cmSat n then 1 else 0
  (s.set (uCm n) cm_ASTAT_FRZ v).setQtyI (5 + n) 6 v

/-- ASTAT.STATE of a kernel changed, with quantities 3 STATE and 6 FRZ (R358, R363, R369). -/
def State.cmSetState (s : State) (n v : Nat) : State :=
  ((s.set (uCm n) cm_ASTAT_STATE v).setQtyI (5 + n) 3 v).cmFrz n

/-- The quantities of a kernel at its reset (R369). -/
def State.cmReset (s : State) (n : Nat) : State :=
  (forN 6 (fun q s => s.setQtyI (5 + n) q 0) s).setQtyI (5 + n) 6 1

/-- A kernel's stage trips, or returns to NORMAL (R366): TRIPPED with the state before it kept, and CATCH at the resume
point where it was driving; a FAULTED kernel stays FAULTED (R358). -/
def State.cmStage (s : State) (n : Nat) (normal : Bool) : State :=
  let st := s.get (uCm n) cm_ASTAT_STATE
  if normal then
    if st ≠ 7 then s
    else
      let b := (s.kn n).before
      if 1 ≤ b && b ≤ 4 then
        let s := s.modKn n fun h => { h with
          stateAt := s.tick, restart := b ≠ 4, seen := [], prev := none, next := none, hard := false, armed := false }
        s.cmSetState n 4
      else s.cmSetState n 0
  else if st = 6 || st = 7 then s
  else (s.modKn n fun h => { h with before := st, stopping := false, next := none, hard := false }).cmSetState n 7

/-- GSTAT.STATE of a stage changed. While DCL acts and is not NORMAL, REG reads TRIPPED with every phase IDLE (R324, R325); a
LATCHED converter stays LATCHED (R318). A commutation kernel reads TRIPPED (R366). -/
def State.setGstate (s : State) (st v : Nat) : State :=
  let s := (s.set (uStage st) stg_GSTAT_STATE v).setProt st
  if st = 2 && v ≠ 0 && (s.inMode .run || s.inMode .discharge) then
    if s.get uReg reg_RSTAT_STATE = 5 then s else s.regPhasesIdle.regSetState 6
  else if 5 ≤ st && st ≤ 7 && s.inMode .run then s.cmStage (st - 5) (v = 0)
  else s

/-- A transition from READY to RUN has begun, after which every stage switches from its first load point (R78). -/
def State.toRun (s : State) : Bool :=
  s.inMode .ready &&
    (match s.trans with
     | some x => x.target = Mode.run.code
     | none => false)

/-- A transition from RUN to READY has begun, in which every stage goes low at its next load point (R78). A handover drives
until it releases (R499). -/
def State.fromRun (s : State) : Bool :=
  s.inMode .run &&
    (match s.trans with
     | some x => x.target = Mode.ready.code
     | none => false)

/-- In a transition from RUN to READY the command balls of a stage go low at its load point, without the SOFT sequence (R78). -/
def State.loadLow (s : State) (st : Nat) : State :=
  if s.fromRun then
    forL (if st = 0 && s.six then [0, 1] else [st]) (fun x s => s.clearCmds x) s
  else s

/-- The calibration that a stage's interpolators take at a load point: the newest one, but for one made on this very tick, with
which the load point is ordered first (R54). -/
def State.dlLoad (s : State) (st : Nat) : State :=
  let v := if s.dlAt = some s.tick then s.dlPrev else s.get ⟨.tbase, 0⟩ tb_DLSTAT_STAGES
  { s with dlStage := sset (fun _ => 0) s.dlStage st v }

/-- Do load points place edges (R78)? A partner that has accepted an OFFER switches from its tick V (R499). -/
def State.drives (s : State) : Bool := (s.inMode .run && !s.fromRun && s.pair.offerV.isNone) || s.toRun

/-- Does a stage act on its sources (R262)? -/
def State.acts (s : State) (st : Nat) : Bool :=
  s.enabled (uStage st) && (s.inMode .run || s.toRun || (s.inMode .discharge && (st = 2 || st = 8)))

/-- GBLANK.TICKS as it acts (R281). -/
def State.gblank (s : State) (st : Nat) : Nat := clamp 0 2000 (s.get (uStage (s.lead st)) stg_GBLANK_TICKS)

/-- The ASC choice of R268: only TA and TB, with TASC.EN and |TSPD| above TASC.SPEED. -/
def State.ascWanted (s : State) (st : Nat) : Bool :=
  st ≤ 1 && s.on (uStage st) trac_TASC_EN &&
    (s.get (uStage st) trac_TASC_SPEED : Int) < (s.geti (uStage st) trac_TSPD_SPEED).natAbs

/-- The modes in which pods run (R159). -/
def State.runsMode (s : State) : Bool :=
  s.inMode .ready || s.inMode .run || s.inMode .shadow || s.inMode .safeHold || s.inMode .discharge

/-- Does a fast window comparator report (R414)? Its group is enabled and has passed its check, and the mode is not DORMANT
D1 to D4. -/
def State.cmpOn (s : State) (n : Nat) : Bool :=
  let u : Unit := ⟨.wg, n / 8⟩
  s.enabled u && !(s.failedCheck.contains u.page) && !(s.inMode .dormant && s.get uSys sys_MODESTAT_VARIANT ≠ 0)

/-! Urgent requests of the converters (R407). -/

def uCv (n : Nat) : Unit := ⟨.cv, n⟩

/-- What of a converter no register shows. -/
def State.cv (s : State) (n : Nat) : ConvH := sget (fun _ => {}) s.convs n

/-- The state with that of a converter changed. -/
def State.modCv (s : State) (n : Nat) (f : ConvH → ConvH) : State :=
  { s with convs := sset (fun _ => {}) s.convs n (f (s.cv n)) }

/-- Do the queues of a converter work (R402, R415)? -/
def State.cvWorks (s : State) (n : Nat) : Bool :=
  s.runsMode && s.enabled (uCv n) && !(s.failedCheck.contains (uCv n).page)

/-- A request of urgent entry `e` of a converter; one whose entry is pending is merged (R407). -/
def State.urgent (s : State) (n e : Nat) : State :=
  if !(s.cvWorks n) then s
  else if (s.cv n).due.any fun i => i.slot = 32 + e then s.inc (uCv n) cv_UMERGE_COUNT
  else
    let i : CvItem := ⟨n, 32 + e, s.tick, s.get (uCv n) (cv_UREQB_IN e), 0, false⟩
    (s.modCv n fun h => { h with due := h.due ++ [i] }).raise (uCv n) 5

/-- Every urgent entry with a trigger is requested (R407): KIND 0 comparator, 1 apply instant of a pod. -/
def State.urgentAll (s : State) (kind num : Nat) : State :=
  forN 8 (fun n s => forN 2 (fun e s =>
    if s.on (uCv n) (cv_UREQA_EN e) && s.get (uCv n) (cv_UREQA_KIND e) = kind && s.get (uCv n) (cv_UREQA_SRCNUM e) = num
    then s.urgent n e else s) s) s

/-! Command balls. -/

/-- Is a per-switch return blanked (R265)? -/
def State.blanked (s : State) (st k : Nat) : Bool :=
  match s.lastOn st k with
  | some t32 => s.now < t32 / 32 + s.gblank st
  | none => false

/-- Is STO in force (R517)? -/
def State.sto (s : State) : Bool := s.on uSsv ssv_STOSTAT_ACTIVE

/-- Does the mode let a stage's command balls be commanded (R79)? -/
def State.ballsAllowed (s : State) (st : Nat) : Bool :=
  s.inMode .run || s.toRun || (s.inMode .discharge && (st = 2 || st = 8) && !s.pair.withdrawn) ||
    (s.inMode .safeHold && st ≤ 1)

/-- The ready hold of a leg (R278). -/
def State.readyHold (s : State) (st leg : Nat) : Option ReadyHold := (s.stg st).holds.find? fun h => h.leg = leg

/-- The level of a command ball: low under STO (R271), outside the commanded modes (R79), with the stage or the lead of its group
disabled (R262), at readiness STARTING (R229) and in steps 1 and 2 of a turn-off; every low side high in ASC; otherwise the level of
the last edge placed. -/
def State.ball (s : State) (st k : Nat) : Bool :=
  if s.sto || !(s.ballsAllowed st) || !(s.enabled (uStage st)) || !(s.enabled (uStage (s.lead st))) ||
      s.failedCheck.contains (uStage st).page then false
  else if s.gstate st = 1 || s.gstate st = 2 then false
  else if s.gstate st = 3 then k % 2 = 1
  else match lastEdge k (32 * s.tick + 31) (s.stg st).edges with
    | some e => e.level
    | none => false

/-- The level of a SOFT ball: as the turn-off commands it in RUN, DISCHARGE and SAFE-HOLD, released in the other modes (R79), and on a
stage or group that is disabled (R262). -/
def State.softBall (s : State) (st : Nat) : Bool :=
  (s.stg st).soft && (s.inMode .run || s.toRun || s.inMode .discharge || s.inMode .safeHold) && s.enabled (uStage st) &&
    s.enabled (uStage (s.lead st))

/-! The stage turn-off (R267). -/

/-- Steps 1 and 2 begin at the present instant: the balls low, SOFT high, STATE SOFT; `asc` is the choice of R268. -/
def State.turnOffWith (s : State) (st : Nat) (asc : Bool) : State :=
  let g := s.lead st
  let s := forL (s.group g) (fun m s => (s.cutBalls m).modStg m fun h => { h with soft := true }) s
  let s := s.modStg g fun h => { h with start := s.now, asc := asc, resuming := none }
  -- in HOLD the position supervisor stops timing (R249)
  let s := if g ≤ 1 && s.get (uStage g) trac_TPSTAT_STATE = 2 then s.modTr g fun h => { h with holdOff := true } else s
  s.setGstate g 1

/-- The stage turn-off from the present instant, with the ASC choice made now (R267, R268). -/
def State.turnOff (s : State) (st : Nat) : State := s.turnOffWith st (s.ascWanted (s.lead st))

/-- The turn-off that a request starts; one under way goes on with its ASC choice (R280). -/
def State.turnOffReq (s : State) (st : Nat) : State := if s.gstate st = 0 then s.turnOff st else s

end Sys2Proof.Machine
end

