-- ==== Sys2Proof/Machine/Stop.lean ====
section
/-!
DEFINITION. What every way out of RUN and every entry to SAFE-HOLD shares: the converter, the actuator kernels and a
precharge stop (R78, R296, R314, R322, R323, R358), the safe outputs follow their commands (R531), and the serve's balls
follow the mode (R476).
-/

namespace Sys2Proof.Machine

/-! REG. -/

/-- Does the mode let REG_DIS be commanded (R79)? -/
def State.regDisAllowed (s : State) : Bool :=
  s.inMode .ready || s.inMode .run || s.inMode .safeHold || s.inMode .discharge

/-- REG_DIS asserts at the end of a stop that leaves REG IDLE in BUCK with VDIS.EN = 1 (R323), where the mode lets it (R79). -/
def State.regDisStart (s : State) : State :=
  if s.get uReg reg_RSTAT_DIR = 0 && s.on uVsup vsup_VDIS_EN && s.regDisAllowed then
    { s.set uVsup vsup_VSTAT_DIS 1 with regDisAt := s.tick } else s

/-- REG_DIS falls, and VDISDUR records its duration (R323). -/
def State.regDisEnd (s : State) : State :=
  if s.on uVsup vsup_VSTAT_DIS then
    (s.set uVsup vsup_VSTAT_DIS 0).set uVsup vsup_VDISDUR_TICKS (s.tick - s.regDisAt)
  else s

/-- The HOST request is cleared; a START that was still running is aborted with a cause (R314). -/
def State.regDropHost (s : State) (cause : Nat) : State :=
  let s := if s.on uReg reg_RCTL_START then
      ((s.set uReg reg_RCTL_START 0).cause uReg reg_RRES_CAUSE cause).cor uReg reg_RRES_ABORTED 1
    else s
  s.set uReg reg_RSTAT_HOSTREQ 0

/-- REG on leaving RUN (R314, R322, R323): HOSTREQ falls with cause MODE, and REG is IDLE at once; a stop that was to end in LATCHED ends
there (R318). -/
def State.regLeaveRun (s : State) : State :=
  let ran := s.get uReg reg_RSTAT_STATE
  let latches := ran = 3 && s.conv.stopTo = 2
  let s := s.regDropHost 1
  let s := s.regPhasesIdle
  let s := s.set uReg reg_RSTAT_GOV 0
  if ran = 5 then s else if latches then s.regSetState 5 else
  let s := s.regSetState 0
  if ran = 1 || ran = 2 || ran = 3 then s.regDisStart else s

/-! ACT. -/

/-- A START in progress is aborted with a cause (R359). -/
def State.cmAbortStart (s : State) (n cause : Nat) : State :=
  if s.on (uCm n) cm_ACTL_START then
    ((s.set (uCm n) cm_ACTL_START 0).cause (uCm n) cm_ARES_CAUSE cause).cor (uCm n) cm_ARES_ABORTED 1
  else s

/-- A kernel on leaving RUN (R358): IDLE, but FAULTED stays; a START in progress ends with ABORTED, cause MODE. -/
def State.cmLeaveRun (s : State) (n : Nat) : State :=
  let s := (s.cmAbortStart n 1).modKn n fun _ => {}
  if s.get (uCm n) cm_ASTAT_STATE = 6 then s else s.cmSetState n 0

/-! The link supervisor. -/

/-- The state with that of the link supervisor changed. -/
def State.modLink (s : State) (f : LinkH → LinkH) : State := { s with link := f s.link }

/-- The supervisor is in force (R284). -/
def State.linkOn (s : State) : Bool := s.on uBrk brk_LCFG_EN && s.enabled uBrk

/-- Does the hysteretic chopper work: in force, with LCHOP.EN, while BRK acts (R284, R288)? In a transition from RUN to READY its balls
are low already (R78). -/
def State.chopActs (s : State) : Bool := s.linkOn && s.on uBrk brk_LCHOP_EN && s.acts 8 && !s.fromRun

/-- The ticks of the present turn-on that LONTIME has still to count up to a tick (R289). -/
def State.chopTicks (s : State) (t : Nat) : Nat := if s.on uBrk brk_LSTAT_CHOP then t - s.link.countAt else 0

/-- The hysteretic command ends at a tick (R288, R289). -/
def State.chopEnd (s : State) (t : Nat) : State :=
  let s := s.incBy uBrk brk_LONTIME_TICKS (s.chopTicks t)
  let s := s.modLink fun h => { h with offAt := some t, switches := 0 }
  (s.set uBrk brk_LSTAT_CHOP 0).setQtyI 8 3 0

/-- A hysteretic command that stands where the chopper works no more is off. -/
def State.chopLeave (s : State) : State :=
  if s.on uBrk brk_LSTAT_CHOP && !s.chopActs then s.chopEnd s.tick else s

/-- A discharge route ends (R298): no pulse goes on, and the hysteretic command alone drives the switches. -/
def State.routeEnd (s : State) : State :=
  (s.set uBrk brk_LSTAT_DISSTATE 0).modLink fun h => { h with pulseEnd := none }

/-! Precharge. -/

/-- A precharge in states NEG to POS fails or is aborted (R295, R296): the boost request and the pilots it switched on
go, ABORTED is recorded with a cause, and PRECHG is raised. -/
def State.preAbort (s : State) (cause : Nat) : State :=
  let p := s.get uBrk brk_LSTAT_PRESTATE
  if p = 1 || p = 2 || p = 3 then
    let s := s.set uBrk brk_LSTAT_PRESTATE 0
    let s := if s.preOn.testBit 0 then s.set uBrk brk_LSTAT_NEG 0 else s
    let s := if s.preOn.testBit 1 then s.set uBrk brk_LSTAT_POS 0 else s
    let s := { s with preOn := 0 }
    let s := s.set uBrk brk_LPRECMD_GO 0
    let s := (s.cause uBrk brk_LPRERES_CAUSE cause).cor uBrk brk_LPRERES_ABORTED 1
    s.raise uBrk 19
  else s

/-! Safe outputs (R531). -/

/-- The number of claims on a safe output, and the claimant: 1 link supervisor, 2 PPX, 3 SESS (R531). -/
def State.soClaims (s : State) (k : Nat) : List Nat :=
  (if (s.on uBrk brk_LCONT_NEGEN && s.get uBrk brk_LCONT_NEGSO = k) then [1] else []) ++
  (if (s.on uBrk brk_LCONT_POSEN && s.get uBrk brk_LCONT_POSSO = k) then [1] else []) ++
  (if (s.on ⟨.ppx, 0⟩ ppx_PPCFG_S2EN && s.get ⟨.ppx, 0⟩ ppx_PPCFG_S2SO = k) then [2] else []) ++
  (if (s.on ⟨.sess, 0⟩ sess_SCFG_ACEN && s.get ⟨.sess, 0⟩ sess_SCFG_ACSO = k) then [3] else [])

/-- SOSTAT.OWNER: 0 host, the one claimant, or 7 for a conflict (R531). -/
def State.soOwner (s : State) (k : Nat) : Nat :=
  match s.soClaims k with
  | [] => 0
  | [c] => c
  | _ => 7

/-- Does the commanding unit command a safe output on (R531)? Under a conflict no single unit commands it. -/
def State.soAsked (s : State) (k : Nat) : Bool :=
  match s.soOwner k with
  | 0 => s.on (uSo k) so_SOCTL_ON
  | 1 => (s.on uBrk brk_LCONT_NEGEN && s.get uBrk brk_LCONT_NEGSO = k && s.on uBrk brk_LSTAT_NEG) ||
      (s.on uBrk brk_LCONT_POSEN && s.get uBrk brk_LCONT_POSSO = k && s.on uBrk brk_LSTAT_POS)
  | 2 => s.on ⟨.ppx, 0⟩ ppx_PSTAT_S2ON
  | 3 => s.on ⟨.sess, 0⟩ sess_SSTAT_ACON
  | _ => false

/-- Does the mode allow a safe output on (R79, R514)? -/
def State.soAllowed (s : State) (k : Nat) : Bool :=
  s.inMode .ready || s.inMode .run || (s.inMode .safeHold && s.on (uSo k) so_SOCFG_KEEP)

/-- The command of a safe output (R531). -/
def State.soWanted (s : State) (k : Nat) : Bool :=
  s.enabled (uSo k) && s.soAsked k && s.soAllowed k && !(s.sto && s.on (uSo k) so_SOCFG_STO) &&
    !(s.on (uSo k) so_SOSTAT_FLT)

/-- A pilot whose safe output the mode holds off is off, and a precharge that was DONE with it (R293, R295). -/
def State.pilotsFollow (s : State) : State :=
  let neg := s.on uBrk brk_LSTAT_NEG && !(s.soAllowed (s.get uBrk brk_LCONT_NEGSO))
  let pos := s.on uBrk brk_LSTAT_POS && !(s.soAllowed (s.get uBrk brk_LCONT_POSSO))
  let s := if neg then s.set uBrk brk_LSTAT_NEG 0 else s
  let s := if pos then s.set uBrk brk_LSTAT_POS 0 else s
  if (neg || pos) && s.get uBrk brk_LSTAT_PRESTATE = 4 then s.set uBrk brk_LSTAT_PRESTATE 0 else s

/-- What of a safe output no register shows. -/
def State.so (s : State) (k : Nat) : SoH := sget (fun _ => {}) s.souts k

/-- The state with that of a safe output changed. -/
def State.modSo (s : State) (k : Nat) (f : SoH → SoH) : State :=
  { s with souts := sset (fun _ => {}) s.souts k (f (s.so k)) }

/-- The test period in ticks (R534, R548). -/
def State.soPer (s : State) : Nat := 400000000 * atLeast1 (s.get ⟨.sos, 0⟩ sos_SOTCFG_PER)

/-- The switches of a safe output: as its command, but for the one that a test opens (R532). -/
def State.soDrive (s : State) (k : Nat) : State :=
  let on := s.on (uSo k) so_SOSTAT_CMD
  let bit := fun (b : Bool) => if b then 1 else 0
  let s := s.set (uSo k) so_SOSTAT_HSW (bit (on && (s.so k).phase ≠ 1))
  (s.set (uSo k) so_SOSTAT_LSW (bit (on && (s.so k).phase ≠ 3))).set (uSo k) so_SOSTAT_TEST (bit ((s.so k).phase ≠ 0))

/-- A safe output follows its command: both switches close together, or open (R531). An off command wins over a test
(R534). -/
def State.soFollow (s : State) (k : Nat) : State :=
  let v := s.soWanted k
  let was := s.on (uSo k) so_SOSTAT_CMD
  let s := s.set (uSo k) so_SOSTAT_OWNER (s.soOwner k)
  if v = was then s.soDrive k else
  let s := s.set (uSo k) so_SOSTAT_CMD (if v then 1 else 0)
  let per := s.soPer
  let s := s.modSo k fun h => { h with
    changed := s.tick, bad := 0, phase := if v then h.phase else 0, due := v && h.due, batch := v && h.batch
    ref := if v && (h.ref.isNone || (match h.offAt with | some o => o + 2 * per ≤ s.tick | none => false)) then some s.tick
      else h.ref
    offAt := if v then none else some s.tick }
  s.soDrive k

/-- May a safe output be tested (R534)? -/
def State.soEligible (s : State) (k : Nat) : Bool := s.on (uSo k) so_SOSTAT_CMD && s.on (uSo k) so_SOCFG_TESTEN

/-- The tests go on (R534): with none in progress, the lowest output whose test is due starts its HS test; and a TESTALL
whose outputs are all done completes, with cause FAIL where a test failed. -/
def State.sosNext (s : State) : State :=
  let sos : Unit := ⟨.sos, 0⟩
  let s := if (List.range 8).any fun k => (s.so k).phase ≠ 0 then s else
    match (List.range 8).find? fun k => (s.so k).due && s.soEligible k with
    | some k => (s.modSo k fun h => { h with phase := 1, testAt := s.now, good := 0, due := false }).soDrive k
    | none => s
  if s.on sos sos_SOTCMD_TESTALL && !((List.range 8).any fun k => (s.so k).batch) then
    let s := s.set sos sos_SOTCMD_TESTALL 0
    let s := if s.testFail then s.cause sos sos_SOTRES_CAUSE 3 else s
    s.cor sos sos_SOTRES_DONE 1
  else s

/-- Every safe output follows its command, and the tests go on. -/
def State.soFollowAll (s : State) : State := (forN 8 (fun k s => s.soFollow k) s).sosNext

/-! Loss of diagnostics (R537). -/

/-- An output with TESTEN has not passed its tests for twice the period, and was commanded on in that time (R537). -/
def State.soOffTest (s : State) (k : Nat) : Bool :=
  s.on (uSo k) so_SOCFG_TESTEN &&
    (match (s.so k).ref with
     | some r => r + 2 * s.soPer ≤ s.tick
     | none => false) &&
    (s.on (uSo k) so_SOSTAT_CMD ||
      (match (s.so k).offAt with
       | some o => s.tick < o + 2 * s.soPer
       | none => false))

/-- DGSTAT.LOSS as it is now: bit 0 LANE, 1 PAIR, 2 OFFTEST. -/
def State.lossNow (s : State) : Nat :=
  (if s.on ⟨.laneShell, 0⟩ lnsh_ROTSTAT_SUSP then 1 else 0) +
  (if (List.range 4).any fun p => s.on ⟨.pair, p⟩ pr_PSTAT_SUSP then 2 else 0) +
  (if (List.range 8).any s.soOffTest then 4 else 0)

/-- DGSTAT.LOSS follows; a bit that sets raises DGLOSS, and its timeout starts. -/
def State.lossFollow (s : State) : State :=
  let was := s.get ⟨.dgk, 0⟩ dgk_DGSTAT_LOSS
  let now := s.lossNow
  let s := s.set ⟨.dgk, 0⟩ dgk_DGSTAT_LOSS now
  forN 3 (fun b s =>
    if now.testBit b && !(was.testBit b) then
      { s with lossAt := sset (fun _ => 0) s.lossAt b s.tick }.raise ⟨.dgk, 0⟩ 2
    else s) s

/-! The charger's outputs and interlock (R339 to R343). -/

def uPpx : Unit := ⟨.ppx, 0⟩
def uSess : Unit := ⟨.sess, 0⟩

/-- A PPX (0) or SESS (1) quantity updated at a change (R344). -/
def State.setObc (s : State) (src q : Nat) (v : Int) : State :=
  let k := 0x200 + 0x10 * src + q
  let w := BitVec.ofInt 32 v
  if sget qtyDefault s.qty k = w then s else
  let s := { s with qty := sset qtyDefault s.qty k w }
  forN 8 (fun e s => s.pubEntrySrc uObc (0x80 + 4 * e) src q k w) s

/-- Does the pilot state in force permit the AC input: C, or D with VENT (R340)? -/
def State.pilotPermits (s : State) : Bool :=
  s.get uPpx ppx_PSTAT_STATE = 3 || (s.get uPpx ppx_PSTAT_STATE = 4 && s.on uSess sess_SCFG_VENT)

/-- Is a cable plugged in: PP 1 to 4? -/
def State.plugged (s : State) : Bool := 1 ≤ s.get uPpx ppx_PSTAT_PP && s.get uPpx ppx_PSTAT_PP ≤ 4

/-- The command of S2 (R339). -/
def State.s2Wanted (s : State) : Bool :=
  s.enabled uPpx && s.on uPpx ppx_PPCFG_S2EN && s.on uPpx ppx_PPCTL_S2 && s.plugged &&
    2 ≤ s.get uPpx ppx_PSTAT_STATE && s.get uPpx ppx_PSTAT_STATE ≤ 4

/-- The command of the AC contactor (R340). -/
def State.acWanted (s : State) : Bool :=
  s.enabled uSess && s.on uSess sess_SCFG_ACEN && s.on uSess sess_SCTL_AC && s.pilotPermits

/-- The interlock (R340). -/
def State.ilkNow (s : State) : Bool :=
  s.enabled uSess && s.on uSess sess_SCTL_GRANT && s.pilotPermits && s.on uPpx ppx_PSTAT_FREQOK && s.plugged &&
    s.on uPpx ppx_PSTAT_S2ON && s.on uSess sess_SSTAT_ACON && s.on (uSo (s.get uSess sess_SCFG_ACSO)) so_SOSTAT_CMD

/-- ILK and all that follows it (R340 to R343): at a fall the command source of OBA and OBD holds every command low. -/
def State.ilkSet (s : State) : State :=
  let was := s.on uSess sess_SSTAT_ILK
  let now := s.ilkNow
  let s := s.set uSess sess_SSTAT_ILK (if now then 1 else 0)
  let s := if was && !now then
      ((s.clearCmds 3).clearCmds 4).raise uSess 0
    else if now && !was then s.raise uSess 2 else s
  let s := s.set uSess sess_SSTAT_EXPOK (if now && s.on uSess sess_OEXP_ARM then 1 else 0)
  let lim := min (min (s.get uPpx ppx_PDUTY_ICP) (s.get uPpx ppx_PRES_IPP))
    (min (s.get uSess sess_SLIM_IMAX) (s.get uSess sess_SLIM_IHOST))
  let lim := if now then lim else 0
  let s := s.set uSess sess_SSTAT_IGRID lim
  let q := satQ15 (roundDiv ((lim : Int) * 32768) (10 * atLeast1 (s.get uSess sess_SCFG_AMPFS)))
  ((s.setObc 1 0 lim).setObc 1 1 q).setObc 1 2 (if now then 1 else 0)

/-- The safe outputs and the charger's outputs follow their commands, and the interlock follows them. -/
def State.outputsFollow (s : State) : State :=
  let s := s.set uPpx ppx_PSTAT_S2ON (if s.s2Wanted then 1 else 0)
  let s := s.set uSess sess_SSTAT_ACON (if s.acWanted then 1 else 0)
  s.soFollowAll.ilkSet

/-! The serve's balls (R476). -/

/-- AUTH and SERVE_OUT follow the serve and the mode (R476). -/
def State.authFollow (s : State) : State :=
  let tok := s.on uSrv srv_SVSTAT_TOKEN
  let auth := tok && (s.inMode .run || s.inMode .discharge || (s.inMode .safeHold && s.authKeep))
  let s := s.set uSrv srv_SVSTAT_AUTH (if auth then 1 else 0)
  s.set uSrv srv_SVSTAT_SERVEO (if tok && s.inMode .run then 1 else 0)

/-- Leaving RUN ends HOLD and LOST (R242, R249). -/
def State.tracLeaveRun (s : State) (st : Nat) : State :=
  s.set (uStage st) trac_TPSTAT_STATE (s.get (uStage st) trac_TSRC_SRC)

/-- What every way out of RUN does besides the stages, once the new mode stands (R296, R314, R358): the placed edges go, but
those of the chopper in DISCHARGE (R297). -/
def State.leaveRun (s : State) : State :=
  let s := s.preAbort 7
  let s := s.regLeaveRun
  let s := forN 9 (fun st s =>
    if st = 8 && s.inMode .discharge then s else s.clearCmds st) s
  (forN 2 (fun st s => s.tracLeaveRun st) (forN 3 (fun n s => s.cmLeaveRun n) s)).chopLeave

/-- A swap drill ends (R506): its outcome bit with a cause, and the earlier TAKEOVER_ARM is restored. -/
def State.drillEnd (s : State) (f : Fld) (cause : Nat) : State :=
  let holder := s.pair.drill = 1 || s.pair.drill = 2
  let arm := s.pair.armBefore
  let s := { s with pair := { s.pair with drill := 0 } }
  if !holder then s else
  let s := (s.set uSrv srv_SVCMD_DRILL 0).setW (uSrv.addr srv_TAKEOVER_ARM_ARM.off) arm
  (if cause = 0 then s else s.cause uSrv srv_SVRES_CAUSE cause).cor uSrv f 1

/-- A drill that a mode change cuts off is aborted with cause MODE. -/
def State.drillMode (s : State) : State :=
  if s.pair.drill ≠ 0 && !(s.inMode .run || s.inMode .shadow) then s.drillEnd srv_SVRES_ABORTED 1 else s

/-- Outside RUN the following-error supervisors report no series (R210). -/
def State.followLeave (s : State) : State :=
  forN 128 (fun p s => (s.set (uPod p) pod_FESTAT_EXCESS 0).set (uPod p) pod_FESTAT_FOLLOW 0) s

/-- The mode registers at a mode entry (R69, R80): MODE, PREV, ENTRY, VARIANT and MODESTAMP, and event MODECHG. -/
def State.setMode (s : State) (m entry variant : Nat) : State :=
  let prev := s.mode
  let s := (s.set uSys sys_MODESTAT_PREV prev).set uSys sys_MODESTAT_MODE m
  let s := (s.set uSys sys_MODESTAT_ENTRY entry).set uSys sys_MODESTAT_VARIANT variant
  let s := s.set uSys sys_MODESTAMP_STAMP s.stamp
  let s := if s.regDisAllowed then s else s.regDisEnd
  let s := if prev = Mode.run.code then s.followLeave else s
  let s := s.pilotsFollow
  s.raise uSys 0

/-- A transition in progress is pre-empted (R75): MODERES shows ABORTED with a cause, and MODEREF is raised. -/
def State.preempt (s : State) (cause : Nat) : State :=
  if s.on uSys sys_MODESTAT_TRANS then
    let s := { s.set uSys sys_MODESTAT_TRANS 0 with trans := none }
    let s := (s.cause uSys sys_MODERES_CAUSE cause).cor uSys sys_MODERES_ABORTED 1
    s.raise uSys 1
  else s

end Sys2Proof.Machine
end

