-- ==== Sys2Proof/Machine/Running.lean ====
section
/-!
DEFINITION. What runs in the modes of R159, and begins where SAFE-HOLD is entered from CALIBRATE: the carriers (R230, R231), the lane
rotation (R174), the triggers of the sequencers (R440), the CAN controllers (R469); and the messages by which the partner learns of a
mode (R483).
-/

namespace Sys2Proof.Machine

/-- Is a carrier period valid (R230)? -/
def periodOk (p : Nat) : Bool := p % 2 = 0 && 10000 ≤ p && p ≤ 200000

/-- Does a traction stage's carrier run (R231)? In SIX, TB's is TA's. -/
def State.tracRuns (s : State) (st : Nat) : Bool :=
  s.runsMode && s.locked && s.enabled (uStage st) && periodOk (s.get (uStage (s.lead st)) trac_TCAR_PERIOD) &&
    (s.lead st = st || s.enabled (uStage 0))

/-- Does the carrier of OBA or OBD run (R231, R331)? -/
def State.obRuns (s : State) (st : Nat) : Bool :=
  s.runsMode && s.locked && s.enabled (uStage st) && periodOk (s.get (uStage st) ob_OCAR_PERIOD)

/-- Does a kernel's carrier run (R231, R355)? -/
def State.acRuns (s : State) (n : Nat) : Bool :=
  s.runsMode && s.locked && s.enabled (uCm n) && periodOk (s.get (uCm n) cm_ACAR_PERIOD) &&
    !(s.failedCheck.contains (uCm n).page)

/-- The state of a phase: 0 IDLE, 1 ACTIVE, 2 SHEDDING. -/
def State.phState (s : State) (n : Nat) : Nat := s.get (uPhase n) ph_PHSTAT_STATE

/-- The ACTIVE phases in ascending order: a phase's rank is its place (R310). -/
def State.activePhases (s : State) : List Nat := (List.range 4).filter fun n => s.phState n = 1

/-- n_on (R308). -/
def State.nOn (s : State) : Nat := s.activePhases.length

/-! Carriers. -/

/-- Does the carrier of a stage run (R231, R331, R350)? DCL has one while a phase is ACTIVE (R312), and BRK has none. -/
def State.carrierRuns (s : State) (st : Nat) : Bool :=
  if st ≤ 1 then s.tracRuns st
  else if st = 3 || st = 4 then s.obRuns st
  else if 5 ≤ st && st ≤ 7 then s.acRuns (st - 5)
  else st = 2 && s.locked && 1 ≤ s.nOn

/-- Does a running generator count the carrier of a stage? -/
def State.carrierCounted (s : State) (st : Nat) : Bool :=
  (List.range 16).any fun n => s.cadRuns n && (s.cad n).slaved && (s.cad n).src = st && (s.cad n).carrier

/-- The carriers that do not run any more stop their generators' events (R58), and one whose conditions now hold starts with a valley on
this tick (R231). In SIX, TB has no carrier of its own (R228); DCL's points are the master's (R312). -/
def State.carrierFollow (s : State) : State :=
  forN 8 (fun st s =>
    if !(s.carrierRuns st) then
      (if (s.tr st).next ≠ none || s.carrierCounted st then s.carrierStopped st else s)
    else if st = 2 then s
    else if s.lead st = st then s.carrierBegin st
    else if (s.tr st).next ≠ none then s.modTr st TracH.carrierOff else s) s

/-! The rotating lane test. -/

def uLaneSh : Unit := ⟨.laneShell, 0⟩

/-- The modes in which the rotation runs (R174). -/
def State.rotates (s : State) : Bool := s.runsMode && s.locked

/-- The lanes that R625 takes out of dispatch until a rotation tick: those disabled now besides those already away. -/
def State.lanesAway (s : State) : State :=
  { s with laneAway := (List.range 9).filter fun n => s.laneAway.contains n || !(s.enabled (uLane n)) }

/-- A rotation tick returns the lanes that are enabled again (R625). -/
def State.lanesBack (s : State) : State := { s with laneAway := s.laneAway.filter fun n => !(s.enabled (uLane n)) }

/-- Is a lane out of service, or treated so because it is or was disabled (R177, R625)? -/
def State.laneOut (s : State) (n : Nat) : Bool :=
  s.get (uLane n) hdr_USTAT_STATE = 3 || s.laneBad.contains n || !(s.enabled (uLane n)) || s.laneAway.contains n

/-- A lane that a rotation has taken out for its test takes runs again; one that still holds a run goes on with it. -/
def State.laneReturns (s : State) (n : Nat) : State :=
  if n < 9 && s.get (uLane n) hdr_USTAT_STATE = 2 then
    s.set (uLane n) hdr_USTAT_STATE (if s.on (uLane n) ln_LNSTAT_RUNNING then 1 else 0)
  else s

/-- Has a lane failed a test (R177)? -/
def State.laneFailed (s : State) (n : Nat) : Bool := s.get (uLane n) hdr_USTAT_STATE = 3 || s.laneBad.contains n

/-- The main lane for which LNS stands in while rotation is suspended: for good for one that has failed (R177), else for one that is
disabled (R625); where there are several, it keeps to the one it stands in for, and else takes the lowest (DESIGN CHOICE, log entry
111). -/
def State.substitute (s : State) : Nat :=
  let now := s.get uLaneSh lnsh_ROTSTAT_SUBST
  let failed := (List.range 8).filter s.laneFailed
  let out := if failed = [] then (List.range 8).filter s.laneOut else failed
  if s.laneOut 8 then 15 else if out.contains now then now else out.headD 15

/-- Rotation is suspended (R177, R625): ROTSUSP once, and no lane is under test. The lane that was returns to dispatch untested, with
RESULT as it stood (DESIGN CHOICE, log entry 111). -/
def State.suspend (s : State) : State :=
  let s := s.when (!(s.on uLaneSh lnsh_ROTSTAT_SUSP)) fun s => (s.set uLaneSh lnsh_ROTSTAT_SUSP 1).raise uLaneSh 1
  let x := s.get uLaneSh lnsh_ROTSTAT_TEST
  let s := s.set uLaneSh lnsh_ROTSTAT_TEST 15
  let s := s.laneReturns x
  (s.set uLaneSh lnsh_ROTSTAT_SUBST s.substitute).lossFollow

/-- Entry to a rotating mode from one that is not: the first test takes LN0, and a lane out of service is stood in for
(R174, R178). -/
def State.rotationEnter (s : State) : State :=
  let s := { s with rotNext := 0, laneAway := [] }.lanesAway
  let s := (s.set uLaneSh lnsh_ROTSTAT_TEST 15).set uLaneSh lnsh_ROTSTAT_SUBST 15
  if (List.range 9).any fun n => s.laneOut n then s.suspend else s

/-! Sequencers. -/

def uSq (n : Nat) : Unit := ⟨.sq, n⟩

/-- What of a sequencer no register shows. -/
def State.sq (s : State) (n : Nat) : SqH := sget (fun _ => {}) s.seqs n

/-- The state with that of a sequencer changed. -/
def State.modSq (s : State) (n : Nat) (f : SqH → SqH) : State :=
  { s with seqs := sset (fun _ => {}) s.seqs n (f (s.sq n)) }

/-- The occurrences of a sequencer's trigger event on earlier ticks. -/
def State.sqOccurred (s : State) (n : Nat) : Nat :=
  match unitOfSource (s.get (uSq n) sq_SQEVT_SRC) with
  | some v => s.evBefore v (s.get (uSq n) sq_SQEVT_BIT)
  | none => 0

/-- A sequencer begins to step: the triggers that fell before were none (R440, R446). -/
def State.sqWake (s : State) (n : Nat) : State :=
  let k := s.sqOccurred n
  let ofs := s.get (uSq n) sq_SQOFS_TICKS
  s.modSq n fun h => { h with events := h.events.filter fun e => s.tick ≤ e + ofs, taken := k }

/-! DORMANT. -/

/-- Is the device in DORMANT D2 to D4, where the memories are in retention or gated (R576, R578)? -/
def State.deepDormant (s : State) : Bool := s.inMode .dormant && 2 ≤ s.get uSys sys_MODESTAT_VARIANT

/-! CAN controllers. -/

/-- Entry to SAFE-HOLD from CALIBRATE: the enabled controllers take part again, starting with INTEGRATING (R469). R457 lists no load at
this time, so they go by what they last loaded (DEDUCED, log entry 130). -/
def State.canJoin (s : State) : State :=
  forN 4 (fun n s =>
    if s.enabled (⟨.cn, n⟩ : Unit) && !(s.failedCheck.contains (⟨.cn, n⟩ : Unit).page) then s.set (⟨.cn, n⟩ : Unit) cn_CNSTAT_STATE 1 else s) s

/-! CRC-32 (R117): reflected, initial value and final XOR all ones. -/

/-- One bit of the CRC shift register. -/
def crcBit (c : Word) : Word := if c.getLsbD 0 then (c >>> 1) ^^^ 0xEDB88320#32 else c >>> 1

/-- One byte taken into the CRC register. -/
def crcByte (c : Word) (b : Byte) : Word :=
  let c := c ^^^ b.setWidth 32
  crcBit (crcBit (crcBit (crcBit (crcBit (crcBit (crcBit (crcBit c)))))))

/-- The CRC-32 of a list of bytes. -/
def crc32 (bs : List Byte) : Word := bs.foldl crcByte 0xFFFFFFFF#32 ^^^ 0xFFFFFFFF#32

/-- The four bytes of a word, least significant first (R6). -/
def wordBytes (w : Word) : List Byte := [byteOf 0 w, byteOf 1 w, byteOf 2 w, byteOf 3 w]

/-! Messages (R483, R484). -/

/-- What of the pair no register shows, changed. -/
def State.modPair (s : State) (f : PairH → PairH) : State := { s with pair := f s.pair }

/-- Has the last frame been applied within 55 µs, in SHADOW (R493)? -/
def State.primed (s : State) : Bool :=
  s.inMode .shadow &&
    (match s.pair.appliedAt with
     | some a => s.tick ≤ a + us 55
     | none => false)

/-- One bit of a word. -/
def bitAt (n : Nat) (b : Bool) : Nat := if b then 2 ^ n else 0

/-- Word 0 of a message of a type (R483): 1 HB, 2 CLAIM, 3 OFFER. -/
def State.msgWord (s : State) (type : Nat) : Word :=
  BitVec.ofNat 32 (type * 2 ^ 28 + s.mode * 2 ^ 24 + bitAt 23 (s.on uSrv srv_SVSTAT_TOKEN) +
    bitAt 22 (s.on uSrv srv_SVSTAT_AUTH) + bitAt 21 (s.on uSrv srv_SVSTAT_SERVEO) +
    bitAt 20 (s.inMode .safeHold || s.pair.flt) + bitAt 19 (s.on uRly rly_RLSTAT_UP) +
    bitAt 18 (s.on uSys sys_STRAPS_PRI) + bitAt 17 (s.on uSrv srv_TAKEOVER_ARM_ARM) + bitAt 16 s.primed)

/-- A message is sent while the link is trained (R481, R483). -/
def State.sendMsg (s : State) (type w2 : Nat) : State :=
  if !(s.on uRly rly_RLSTAT_TRAINED) then s else
  let w := [s.msgWord type, BitVec.ofNat 32 (s.get uSrv srv_SVSEQ_SEQ), BitVec.ofNat 32 w2]
  s.modPair fun h => { h with sent := w ++ [crc32 (w.flatMap wordBytes)] }

/-- A message follows each change of a field of word 0 (R484). -/
def State.msgFollow (s : State) : State :=
  let w := s.msgWord 1
  if s.pair.sent.head?.any fun v => bits v 16 12 = bits w 16 12 then s else s.sendMsg 1 s.stamp

/-- The Rally link goes down (R481, R510): LINKDOWN, and fault 0x0C21 LINK, event only, while a pair is enabled. -/
def State.linkDown (s : State) : State :=
  let u := uRly
  let was := s.on u rly_RLSTAT_UP
  let s := ((s.set u rly_RLSTAT_UP 0).set u rly_RLSTAT_PRXOK 0).modPair fun h => { h with resync := true }
  if !was then s else
  let s := s.raise u 1
  if s.on uSrv srv_SVCFG_PAIREN then s.fault u 0x0C21 else s

/-! SAFE-HOLD entered from CALIBRATE. -/

/-- The queues of the converters start (R402, R406). -/
def State.queuesFresh (s : State) : State :=
  forN 8 (fun n s => (s.modCv n fun h => { h with trig := [], filt := [], due := [] }).set (uCv n) cv_CVSEQ_SEQ 0) s

/-- What CALIBRATE stops and SAFE-HOLD runs begins. -/
def State.runsBegin (s : State) : State :=
  (forN 32 (fun n s => s.sqWake n) s.rotationEnter.queuesFresh.canJoin).carrierFollow

end Sys2Proof.Machine
end

