-- ==== Sys2Proof/Machine/Reaction.lean ====
section
/-!
DEFINITION. Safety reactions (R512 to R514), the entry to SAFE-HOLD, the reaction selectors of R92 and the stage
latch with its reaction (R270, R275).
-/

namespace Sys2Proof.Machine

/-- A takeover or an accepted OFFER is dropped (R75, R495): PAIR raises DROPPED. -/
def State.dropTake (s : State) : State :=
  if s.pair.take.isSome || s.pair.offerV.isSome then
    { s with pair := { s.pair with take := none, guardOver := false, offerV := none } }.raise uSrv 1
  else s

/-- Entry to SAFE-HOLD (R513, R514): a transition under way is pre-empted (R75), every enabled stage runs its turn-off
with the ASC choice made now, a handover or takeover is over, REG stops, the actuators go IDLE, safe outputs without KEEP go off, AUTH follows R476. -/
def State.enterSafeHold (s : State) : State :=
  let from_ := s.mode
  let s := { s.preempt 10 with pair := { s.pair with release := none } }.dropTake
  let s := { s with authKeep := s.on uSrv srv_SVSTAT_TOKEN && (from_ = Mode.run.code || from_ = Mode.discharge.code) }
  let s := (s.setMode Mode.safeHold.code 1 0).drillMode
  let s := forN 9 (fun st s => if s.lead st = st && s.enabled (uStage st) then s.turnOffReq st else s) s
  let s := if from_ = Mode.run.code || from_ = Mode.discharge.code then s.leaveRun else s
  let s := if from_ = Mode.discharge.code then s.routeEnd else s
  let s := s.outputsFollow.authFollow
  (if from_ = Mode.calibrate.code then s.runsBegin else s).msgFollow

/-- A safety reaction request: a cause is set (R512, R513). `src` is the router source of the unit for cause UNIT. -/
def State.safety (s : State) (cause src : Nat) : State :=
  let firstNow := s.stmode || s.get uSsv ssv_SHFIRST_VALID = 0
  let s := s.set uSsv ssv_SHCAUSE_CAUSE (s.get uSsv ssv_SHCAUSE_CAUSE ||| 2 ^ cause)
  let s := if cause = 3 && !(s.shUnits.contains src) then { s with shUnits := src :: s.shUnits } else s
  let s := if firstNow then
      (((s.cor uSsv ssv_SHFIRST_CAUSE cause).cor uSsv ssv_SHFIRST_SRC src).cor uSsv ssv_SHFIRST_VALID 1).set
        uSsv ssv_SHSTAMP_STAMP s.stamp
    else s
  let s := s.inc uSsv ssv_SHCNT_COUNT
  let s := s.raise uSsv 0
  if s.inMode .calibrate || s.inMode .ready || s.inMode .run || s.inMode .shadow || s.inMode .discharge then
    s.enterSafeHold
  else s

/-- The stage that a unit drives, if any (R92, code STAGE_OFF). -/
def Unit.drives (u : Unit) : Option Nat :=
  match u.kind with
  | .stage => some u.inst
  | .leg => some (u.inst / 8)
  | .reg => some 2
  | .vsup => some 2
  | .phase => some 2
  | .cm => some (5 + u.inst)
  | _ => none

/-- One entry of a stage's trip log (R264, R281), where one of the eight is free. -/
def State.logEntry (s : State) (st leg kind num : Nat) : State :=
  let n := s.get (uStage st) stg_GSTAT_LOGN
  if n < 8 then
    let u := uStage st
    let s := ((s.set u (stg_FLOGA_LEG n) leg).set u (stg_FLOGA_KIND n) kind).set u (stg_FLOGA_NUM n) num
    let s := (s.set u (stg_FLOGA_VALID n) 1).set u (stg_FLOGT_STAMP n) s.stamp
    s.set u stg_GSTAT_LOGN (n + 1)
  else s

/-- The log of a stage cleared. -/
def State.clearLog (s : State) (st : Nat) : State :=
  let u := uStage st
  let s := forN 8 (fun k s => (s.setW (u.addr (0x280 + 8 * k)) 0).setW (u.addr (0x284 + 8 * k)) 0) s
  (s.set u stg_GSTAT_LOGN 0).set u stg_GSTAT_MULTI 0

/-- HOLD (1) and ZERO (2) hold the published outputs of a unit (R92). -/
def State.holdOut (s : State) (u : Unit) (code : Nat) : State :=
  let s := if code = 2 then s.zeroOutputs u else s
  { s with outHold := sset (fun _ => 0) s.outHold u.page code }

/-- The latch of a stage sets (R275): OWNF with it, event LATCH, no retry or resume waits, and REACT.SEL0 applies once
per episode. A stage that is off already does all that STAGE_OFF asks. -/
def State.setLatch (s : State) (st : Nat) : State :=
  let g := s.lead st
  let u := uStage g
  let s := (s.set u stg_GSTAT_LATCH 1).ownFault u
  let done := (s.stg g).reacted
  let s := s.modStg g fun h => { h with reacted := true, retryAt := none, resuming := none }
  let s := s.setProt g
  let s := s.raise u 2
  if done then s else
  match s.sel u 0 with
  | 0 | 3 => s
  | 1 => s.holdOut u 1
  | 2 => s.holdOut u 2
  | _ => s.safety 3 u.source

/-- The STAGE_OFF and LOSTPOS requests (R270): the turn-off without a trip, an episode opened if none is open, an entry
of KIND 4, and the latch. A disabled stage runs no turn-off (R262). -/
def State.stageOff (s : State) (st : Nat) : State :=
  let g := s.lead st
  if !(s.enabled (uStage g)) then s else
  let s := s.turnOffReq g
  let s := if (s.stg g).episode then s else
    (s.clearLog g).modStg g fun h => { h with episode := true, reacted := false }
  let s := s.logEntry g 15 4 0
  s.setLatch g

/-- The reaction of selector `k` of a unit (R92): EVENT does nothing more; HOLD and ZERO hold the unit's published
outputs; STAGE_OFF turns off the stage it drives; SAFE and every code the unit does not define request a safety
reaction with cause UNIT. STAGE_OFF in a unit that drives no stage takes no reaction: R92 gives that selection no effect (DESIGN
CHOICE, log entry 108). -/
def State.react (s : State) (u : Unit) (k : Nat) : State :=
  match s.sel u k with
  | 0 => s
  | 1 => s.holdOut u 1
  | 2 => s.holdOut u 2
  | 3 => match u.drives with
    | some st => s.stageOff st
    | none => s
  | _ => s.safety 3 u.source

/-- A fault recorded with the reaction of a selector. -/
def State.faultR (s : State) (u : Unit) (code k : Nat) : State := (s.fault u code).react u k

/-- A read of a signal that finds a parity error returns the word as it stands; SIGB records cause PARITY and raises a unit
fault under its reaction selector (R32). -/
def State.sigParity (s : State) (n : Nat) : State :=
  if s.badParity.contains n then (s.sigErr n 4).faultR uSigb 4 0 else s

/-- Outputs and interlock follow a change, and a fall of ILK in RUN with GRANT set is the fault of R341. -/
def State.outputs (s : State) : State :=
  let was := s.on uSess sess_SSTAT_ILK
  let s := s.outputsFollow
  if was && !(s.on uSess sess_SSTAT_ILK) && s.on uSess sess_SCTL_GRANT && s.inMode .run then
    (s.inc uSess sess_SILKCNT_COUNT).faultR uSess 0x0620 0
  else s

end Sys2Proof.Machine
end

