-- ==== Sys2Proof/Machine/Ecc.lean ====
section
/-!
DEFINITION. Codewords of the three memories (R568, R569), their decoding (R571 to R573), and reads and writes of the
pool and table memory under the code.
-/

namespace Sys2Proof.Machine

def uPscrub : Unit := ⟨.pscrub, 0⟩

/-- The number of codewords of pod state memory, of pod state and table memory, and of all three memories (R569). -/
def cwTables : Nat := 5120
def cwPool : Nat := 21504
def cwAll : Nat := 152576

/-- The codeword of a byte address of the pool or of table memory (R569). -/
def cwOfAddr (a : Nat) : Nat :=
  if poolBase ≤ a then cwPool + (a - poolBase) / 32 else cwTables + (a - tableBase) / 32

/-- The codeword of pod `p` that holds an offset of its page, if pod state memory holds it (R569). -/
def cwOfPod (p o : Nat) : Option Nat :=
  if 0x400 ≤ o && o < 0x800 then some (40 * p + (o - 0x400) / 32)
  else if 0x200 ≤ o && o < 0x300 then some (40 * p + 32 + (o - 0x200) / 64)
  else if 0x300 ≤ o && o < 0x380 then some (40 * p + 36 + (o - 0x300) / 32)
  else none

/-- The memory of a codeword and its index there (R569): 0 pod, 1 table, 2 pool. -/
def cwMem (c : Nat) : Nat × Nat :=
  if c < cwTables then (0, c) else if c < cwPool then (1, c - cwTables) else (2, c - cwPool)

/-- The symbols in error of a codeword. -/
def State.errs (s : State) (c : Nat) : List (Nat × Byte) :=
  (s.flips.filter fun p => p.1 / 37 = c).map fun p => (p.1 % 37, p.2)

/-- A codeword whose symbols are all as encoded. -/
def State.clean (s : State) (c : Nat) : State :=
  { s with flips := s.flips.filter fun p => p.1 / 37 ≠ c
           uncorr := s.uncorr.filter (· ≠ c) }

/-- Data bytes of a codeword of the pool or table memory changed by a miscorrection. -/
def State.xorData (s : State) (c : Nat) (e : List (Nat × Byte)) : State :=
  let (m, i) := cwMem c
  let base := (if m = 1 then tableBase else poolBase) + 32 * i
  if m = 0 then s
  else forL e (fun p s => s.setByte (base + p.1 % 32) (s.byte (base + p.1 % 32) ^^^ p.2)) s

/-- MILOG and MISTAMP load the first error since the last read (R573, R580). -/
def State.milog (s : State) (c syms : Nat) (unc : Bool) : State :=
  let u := uPscrub
  if s.stmode || s.get u psc_MILOG_VALID = 0 then
    let (m, i) := cwMem c
    let s := ((s.cor u psc_MILOG_UNC (if unc then 1 else 0)).cor u psc_MILOG_MEM m).cor u psc_MILOG_SYMS syms
    let s := (s.cor u psc_MILOG_INDEX i).cor u psc_MILOG_VALID 1
    s.set u psc_MISTAMP_STAMP s.stamp
  else s

/-- A correction counted in the present scrub pass: the one that exceeds MICFG.CELIM raises CEHIGH, with fault 0x0F12, event
only (R575). -/
def State.passCorrect (s : State) : State :=
  let s := { s with passCorr := s.passCorr + 1 }
  if s.passCorr = s.get uPscrub psc_MICFG_CELIM + 1 then (s.raise uPscrub 3).fault uPscrub 0x0F12 else s

/-- A corrected decode (R571, R573): the codeword is written back, its memory's counter increments, CE is raised. -/
def State.corrected (s : State) (c n : Nat) : State :=
  let s := s.clean c
  let (m, _) := cwMem c
  let s := s.inc uPscrub (if m = 0 then psc_CEPOD_COUNT else if m = 1 then psc_CETBL_COUNT else psc_CEPOOL_COUNT)
  let s := s.milog c n false
  s.passCorrect.raise uPscrub 0

/-- An uncorrectable decode (R572, R573): never written back; UECNT, UNC and fault 0x0F10 under REACT.SEL0. -/
def State.uncorrectable (s : State) (c : Nat) : State :=
  let s := { s with uncorr := if s.uncorr.contains c then s.uncorr else c :: s.uncorr }
  let s := s.milog c 3 true
  let s := s.inc uPscrub psc_UECNT_COUNT
  let s := s.raise uPscrub 1
  s.faultR uPscrub 0x0F10 0

/-- The decode of a codeword at a read (R571): whether data are delivered, and the state after. Four or more symbols in
error are beyond the code: the outcome is a free value. -/
def State.decode (s : State) (c : Nat) : Bool × State :=
  match s.errs c with
  | [] => (true, s)
  | [_] => (true, s.corrected c 1)
  | [_, _] => (true, s.corrected c 2)
  | [_, _, _] => (false, s.uncorrectable c)
  | _ =>
    match Config.fourErrors s.freeCtr with
    | none => (false, s.fresh.uncorrectable c)
    | some e => (true, ((s.fresh.clean c).xorData c e).corrected c 2)

/-- The decode of a run of codewords: whether all deliver data. -/
def State.decodeAll (s : State) : List Nat → Bool × State
  | [] => (true, s)
  | c :: cs =>
    let (a, s) := s.decode c
    let (b, s) := s.decodeAll cs
    (a && b, s)

/-- A word of table memory or the pool as a consumer reads it: 0 where its codeword is uncorrectable (R572). -/
def State.readMem (s : State) (a : Nat) : Word × State :=
  let (ok, s) := s.decode (cwOfAddr a)
  (if ok then s.memWord a else 0, s)

/-- Is a codeword correctable as it stands (three errors or more are not)? -/
def State.cwGood (s : State) (c : Nat) : Bool := (s.errs c).length ≤ 2

/-- A hardware write of part of a codeword (R572): discarded, with UNCDROP, where the codeword is uncorrectable. -/
def State.hwWord (s : State) (a : Nat) (w : Word) : State :=
  let (ok, s) := s.decode (cwOfAddr a)
  if ok then s.setMemWord a w 15 else s.inc uPscrub psc_UNCDROP_COUNT

/-- Consecutive words written by hardware. -/
def State.hwWords (s : State) (a : Nat) : List Word → State
  | [] => s
  | w :: ws => (s.hwWord a w).hwWords (a + 4) ws

end Sys2Proof.Machine
end

