-- ==== Sys2Proof/Machine/Tables.lean ====
section
/-!
DEFINITION. Table memory as its consumers read it: the bank header and directory (R422, R423), the CRC (R117, R425),
curves and maps (R426, R427), gain-schedule tables (R429) and frame formats (R433, R434).
-/

namespace Sys2Proof.Machine

def uTbk : Unit := ⟨.tbk, 0⟩



/-! The banks. -/

/-- The first byte of a bank (R422). -/
def bankBase (b : Nat) : Nat := tableBase + 0x40000 * (b % 2)

/-- The active bank. -/
def State.activeBank (s : State) : Nat := s.get uTbk tbk_TBSTAT_ACTIVE

/-- A word of a bank as a consumer reads it: 0 where its codeword is uncorrectable (R572). -/
def State.tw (s : State) (b o : Nat) : Word :=
  let a := bankBase b + o
  if s.cwGood (cwOfAddr a) then s.memWord a else 0

/-- Did bank `b` pass its check, and is it unwritten since? -/
def State.bankOk (s : State) (b : Nat) : Bool := (s.get uTbk tbk_TBSTAT_BANKOK).testBit b

/-- A table present in a bank with a kind: its byte offset in the bank and its length in words (R423). -/
def State.table (s : State) (b t kind : Nat) : Option (Nat × Nat) :=
  let e0 := s.tw b (0x20 + 8 * t)
  let e1 := s.tw b (0x24 + 8 * t)
  if s.bankOk b && t < bits (s.tw b 4) 0 11 && bits e0 28 4 = kind && kind ≠ 0 then
    some (bits e0 0 18, bits e1 0 13)
  else none

/-- The reads of a table by a consumer decode its codewords (R571): corrections are written back, uncorrectable ones
are reported by PSCRUB. -/
def State.touchTable (s : State) (b t kind : Nat) : State :=
  match s.table b t kind with
  | none => s
  | some (o, n) =>
    let c0 := cwOfAddr (bankBase b + o)
    (s.decodeAll ((List.range (n / 8 + 1)).map (c0 + ·))).2

/-! Curves (R426). -/

/-- Linear interpolation, rounded half to even (R426). -/
def interp (x0 x1 y0 y1 v : Int) : Int := y0 + roundDiv ((y1 - y0) * (v - x0)) (x1 - x0).natAbs

/-- A curve over its breakpoints in ascending order (R426). -/
def curveAt (v : Int) : List (Int × Int) → Int
  | [] => 0
  | [(_, y)] => y
  | (x0, y0) :: (x1, y1) :: r =>
    if v ≤ x0 then y0 else if v < x1 then interp x0 x1 y0 y1 v else curveAt v ((x1, y1) :: r)

/-- CURVE1 table `t` of bank `b` evaluated at `v` (R426); none where the table is absent. -/
def State.curve1 (s : State) (b t : Nat) (v : Int) : Option Int :=
  match s.table b t 1 with
  | none => none
  | some (o, _) =>
    let nb := bits (s.tw b (o + 4)) 0 7
    some (curveAt v ((List.range nb).map fun k => (lo16 (s.tw b (o + 8 + 4 * k)), hi16 (s.tw b (o + 8 + 4 * k)))))

/-- Element `m` of a list of half-words packed two to a word from byte offset `o` (R427). -/
def State.half (s : State) (b o m : Nat) : Int :=
  let w := s.tw b (o + 4 * (m / 2))
  if m % 2 = 0 then lo16 w else hi16 w

/-- The index i with x_i ≤ v < x_(i+1), or the last interval at the top (R427). -/
def cellOf (v : Int) (i : Nat) : List Int → Nat
  | _ :: x1 :: r =>
    match r with
    | [] => i
    | _ => if v < x1 then i else cellOf v (i + 1) (x1 :: r)
  | _ => i

/-- CURVE2 table `t` of bank `b` evaluated at `(x, yd / 2)` (R427), so that a mean of two numbers is exact; none where
the table is absent. -/
def State.curve2d (s : State) (b t : Nat) (x yd : Int) : Option Int :=
  match s.table b t 2 with
  | none => none
  | some (o, _) =>
    let w := s.tw b (o + 4)
    let nx := bits w 0 8
    let ny := bits w 8 8
    let xo := o + 8
    let yo := xo + 4 * ((nx + 1) / 2)
    let zo := yo + 4 * ((ny + 1) / 2)
    let xs := (List.range nx).map (s.half b xo)
    let ys := (List.range ny).map (2 * s.half b yo ·)
    let x := clampI (xs.headD 0) (xs.getLastD 0) x
    let y := clampI (ys.headD 0) (ys.getLastD 0) yd
    let i := cellOf x 0 xs
    let j := cellOf y 0 ys
    let z := fun j i => s.half b zo (j * nx + i)
    let row := fun j => interp (xs.getD i 0) (xs.getD (i + 1) 0) (z j i) (z j (i + 1)) x
    some (interp (ys.getD j 0) (ys.getD (j + 1) 0) (row j) (row (j + 1)) y)

/-- CURVE2 table `t` of bank `b` evaluated at `(x, y)` (R427); none where the table is absent. -/
def State.curve2 (s : State) (b t : Nat) (x y : Int) : Option Int := s.curve2d b t x (2 * y)

/-! Gain schedules (R429). -/

/-- A SCHED table: gains per region, x edges, y edges and the byte offset of the gain words. -/
structure Sched where
  ng : Nat
  bx : Nat
  by_ : Nat
  ex : List Int
  ey : List Int
  gains : Nat
deriving DecidableEq, Repr

/-- SCHED table `t` of bank `b`. -/
def State.sched (s : State) (b t : Nat) : Option Sched :=
  match s.table b t 3 with
  | none => none
  | some (o, _) =>
    let w := s.tw b (o + 4)
    let bx := bits w 0 8
    let by_ := bits w 8 8
    let yo := o + 8 + 4 * (bx - 1)
    some ⟨bits w 16 8, bx, by_, (List.range (bx - 1)).map fun k => lo16 (s.tw b (o + 8 + 4 * k)),
      (List.range (by_ - 1)).map fun k => lo16 (s.tw b (yo + 4 * k)), yo + 4 * (by_ - 1)⟩

/-! Frame formats (R433, R434). -/

/-- One field of a frame. -/
structure FmtField where
  sig : Nat
  sgn : Bool
  be : Bool
  len : Nat
  start : Nat
  mul : Int
  sh : Nat
  ofs : Int
deriving DecidableEq, Repr

/-- A frame format. -/
structure Fmt where
  dir : Nat
  ide : Bool
  fdf : Bool
  brs : Bool
  cn : Nat
  tb : Nat
  bytes : Nat
  ident : Nat
  fields : List FmtField
deriving DecidableEq, Repr

/-- FMT table `t` of bank `b`. -/
def State.fmt (s : State) (b t : Nat) : Option Fmt :=
  match s.table b t 5 with
  | none => none
  | some (o, _) =>
    let w := s.tw b (o + 4)
    let fld := fun k =>
      let f0 := s.tw b (o + 12 + 12 * k)
      let f1 := s.tw b (o + 16 + 12 * k)
      let f2 := s.tw b (o + 20 + 12 * k)
      (⟨bits f0 20 12, f0.getLsbD 19, f0.getLsbD 18, bits f0 9 7, bits f0 0 9, hi16 f1, bits f1 11 5,
        f2.toInt⟩ : FmtField)
    some ⟨bits w 31 1, w.getLsbD 30, w.getLsbD 29, w.getLsbD 28, bits w 26 2, bits w 24 2, bits w 16 7,
      bits (s.tw b (o + 8)) 0 29, (List.range (bits w 0 6)).map fld⟩

/-- The frame bit of the next lower field bit in big-endian order (R434). -/
def bePrev (p : Nat) : Nat := if p % 8 = 0 then p + 15 else p - 1

/-- The frame bits of a field, most significant first when `be`, else least significant first (R434). -/
def beBits : Nat → Nat → List Nat
  | 0, _ => []
  | n + 1, p => p :: beBits n (bePrev p)

/-- The frame bits of a field, least significant first (R434). -/
def FmtField.frameBits (f : FmtField) : List Nat :=
  if f.be then (beBits f.len f.start).reverse else (List.range f.len).map (f.start + ·)

/-- A bit of a payload. -/
def payloadBit (p : List Byte) (n : Nat) : Bool := (p.getD (n / 8) 0).getLsbD (n % 8)

/-- The number that a list of bits spells, least significant first. -/
def natOfBits : List Bool → Nat
  | [] => 0
  | b :: bs => (if b then 1 else 0) + 2 * natOfBits bs

/-- The value of a field unpacked from a payload and saturated to its signal's type (R434). -/
def FmtField.unpack (f : FmtField) (p : List Byte) (int32 : Bool) : Int :=
  let raw := natOfBits (f.frameBits.map (payloadBit p))
  let raw : Int := if f.sgn then signed f.len raw else raw
  let v := roundDiv (raw * f.mul) (2 ^ f.sh) + f.ofs
  if int32 then sat32 v else satQ15 v

/-- The raw field of a signal value (R434). -/
def FmtField.packRaw (f : FmtField) (v : Int) : Nat :=
  let r := roundDivI ((v - f.ofs) * 2 ^ f.sh) f.mul
  let r := if f.sgn then clampI (-(2 ^ (f.len - 1) : Nat)) ((2 ^ (f.len - 1) : Nat) - 1) r
    else clampI 0 ((2 ^ f.len : Nat) - 1) r
  unsigned f.len r

/-- A payload with one bit set to a level. -/
def setPayloadBit (p : List Byte) (n : Nat) (v : Bool) : List Byte :=
  p.set (n / 8) (if v then p.getD (n / 8) 0 ||| BitVec.ofNat 8 (2 ^ (n % 8))
    else p.getD (n / 8) 0 &&& ~~~ BitVec.ofNat 8 (2 ^ (n % 8)))

/-- A payload with a field packed into it. -/
def FmtField.pack (f : FmtField) (v : Int) (p : List Byte) : List Byte :=
  let raw := f.packRaw v
  (f.frameBits.zipIdx).foldl (fun p x => setPayloadBit p x.1 (raw.testBit x.2)) p

end Sys2Proof.Machine
end

