-- ==== Sys2Proof/Machine/Trip.lean ====
section
/-!
DEFINITION. Placing the edges of command balls (R257 to R259), ready holds (R278), and what an activation of a
protection source does (R260 to R264, R268, R272, R273, R279).
-/

namespace Sys2Proof.Machine

/-! Edges. -/

/-- The edges of a stage that still matter: those to come, and of each switch the last one and the last turn-on. -/
def pruneEdges (now32 : Nat) (es : List Edge) : List Edge :=
  es.filter fun e => now32 < e.at32 || lastEdge e.sw now32 es = some e || lastOnEdge e.sw now32 es = some e

/-- An edge put behind every edge of an earlier or the same time. -/
def insertEdge (e : Edge) : List Edge → List Edge
  | [] => [e]
  | f :: fs => if f.at32 ≤ e.at32 then f :: insertEdge e fs else e :: f :: fs

/-- The other switch of a two-switch leg. -/
def otherSwitch (k : Nat) : Nat := if k % 2 = 0 then k + 1 else k - 1

/-- GDEAD.TDMIN as it acts, in ticks (R281). -/
def State.tdmin (s : State) (st : Nat) : Nat := clamp 16 2000 (s.get (uStage (s.lead st)) stg_GDEAD_TDMIN)

/-- The last command of a leg at or before a time. -/
def lastCmd (leg t32 : Nat) : List LegCmd → Option LegCmd
  | [] => none
  | c :: cs =>
    match lastCmd leg t32 cs with
    | some d => some d
    | none => if c.leg = leg && c.at32 ≤ t32 then some c else none

/-- The command of a leg at a time (block 1 of R257): is the high side on, and the low side? -/
def StageH.base (h : StageH) (leg t32 : Nat) : Bool × Bool :=
  match lastCmd leg t32 h.cmds with
  | some c => (c.hi, c.lo)
  | none => (false, false)

/-- Does a refresh pulse or a ready hold stand at a time? -/
def LegOver.covers (o : LegOver) (t32 : Nat) : Bool :=
  o.from32 ≤ t32 && (match o.to32 with
    | some e => t32.blt e
    | none => true)

/-- The command that leaves block 2: a refresh pulse or a ready hold has the low side alone on (R277, R278). -/
def StageH.leaves (h : StageH) (leg t32 : Nat) : Bool × Bool :=
  if h.overs.any fun o => o.leg = leg && o.covers t32 then (false, true) else h.base leg t32

/-- A time put into an ascending list. -/
def insertTime (t : Nat) : List Nat → List Nat
  | [] => [t]
  | u :: us => if t ≤ u then t :: u :: us else u :: insertTime t us

/-- The times at which the command that leaves block 2 can change, ascending. -/
def StageH.times (h : StageH) (leg : Nat) : List Nat :=
  let cs := (h.cmds.filter fun c => c.leg = leg).map (·.at32)
  let os := (h.overs.filter fun o => o.leg = leg).flatMap fun o => o.from32 :: o.to32.toList
  (cs ++ os).foldr insertTime []

/-- The intervals in which something holds that can change at the given times, each with its end; the last may be open. -/
def spans (on : Nat → Bool) : Option Nat → List Nat → List (Nat × Option Nat)
  | none, [] => []
  | some a, [] => [(a, none)]
  | none, t :: ts => spans on (if on t then some t else none) ts
  | some a, t :: ts => if on t then spans on (some a) ts else (a, some t) :: spans on none ts

/-- The on-intervals of a switch that leave the dead time and the protection sequence (R257, R258): every turn-on comes dead time after
its command and not before the resume point and dead time (R274), and an interval that is not longer gives no pulse. BRK has no dead
time. -/
def State.onSpans (s : State) (st k : Nat) : List (Nat × Option Nat) :=
  let h := s.stg st
  let leg := legOf st k
  let on := fun t => if st = 8 || k % 2 = 0 then (h.leaves leg t).1 else (h.leaves leg t).2
  (spans on none (h.times leg)).filterMap fun x =>
    let t := max x.1 h.since32 + (if st = 8 then 0 else s.dead32 st)
    if x.2.any (· ≤ t) then none else some (t, x.2)

/-- Is a turn-on at a time legal (R259)? The other switch of the leg has been off for TDMIN and does not turn on with it. -/
def State.legalOn (s : State) (st k t32 : Nat) : Bool :=
  st = 8 || (s.onSpans st (otherSwitch k)).all fun x =>
    !(x.1 ≤ t32 && (match x.2 with
      | some e => t32.blt (e + 32 * s.tdmin st)
      | none => true))

/-- A blocked turn-on is counted and reported (R259). -/
def State.overlap (s : State) (st k : Nat) : State :=
  let s := s.inc (uStage st) stg_GOVLCNT_COUNT
  let s := s.inc (uLeg st (legOf st k)) leg_LOVL_COUNT
  let s := s.raise (uStage st) 4
  s.faultR (uStage st) 0x0420 1

/-- The edges of a leg from a time on, placed anew from its commands (R257 to R259): a turn-on that the overlap check blocks has no
pulse, and is counted once. Nothing is placed while a turn-off holds the balls (R263). -/
def State.replan (s : State) (st leg f32 : Nat) : State :=
  if s.gstate st ≠ 0 then s else
  let ks := (List.range (stageSwitches st)).filter fun k => legOf st k = leg
  let all := ks.flatMap fun k => (s.onSpans st k).map fun x => (k, x)
  let bad := all.filter fun y => f32 ≤ y.2.1 && !(s.legalOn st y.1 y.2.1)
  let good := all.filter fun y => !(bad.contains y)
  let es := good.flatMap fun y => ⟨y.1, y.2.1, true⟩ :: (y.2.2.map fun e => (⟨y.1, e, false⟩ : Edge)).toList
  let was := (s.stg st).blocked
  let now := bad.map fun y => (y.1, y.2.1)
  let s := s.modStg st fun h => { h with
    edges := (es.filter fun e => f32 ≤ e.at32).foldl (fun l e => insertEdge e l)
      (pruneEdges (32 * s.tick) (h.edges.filter fun e => legOf st e.sw ≠ leg || e.at32 < f32))
    blocked := (h.blocked.filter fun b => legOf st b.1 ≠ leg) ++ now }
  forL (now.filter fun b => !(was.contains b)) (fun b s => s.overlap st b.1) s

/-- Every leg of a stage placed anew from a time on. -/
def State.replanAll (s : State) (st f32 : Nat) : State := forN (stageLegs st) (fun leg s => s.replan st leg f32) s

/-- The commands of a stage that still matter: those to come, and those that can still shape an edge. -/
def pruneCmds (now32 : Nat) (cs : List LegCmd) : List LegCmd :=
  cs.filter fun c => now32 < c.at32 + 131072 || lastCmd c.leg (now32 - 131072) cs = some c

/-- A leg's command changes to high side on, low side on or neither, at a time in 1/32 ticks, in place of what was commanded for that
time and after it. BRK's legs have the one switch, their high side. -/
def State.legCmd (s : State) (st leg t32 : Nat) (hi lo : Bool) : State :=
  let s := s.modStg st fun h =>
    let cs := pruneCmds (32 * s.tick) (h.cmds.filter fun c => c.leg ≠ leg || c.at32 < t32)
    { h with
      cmds := if StageH.base { h with cmds := cs } leg t32 = (hi, lo) then cs else cs ++ [⟨leg, t32, hi, lo⟩]
      overs := h.overs.filter fun o => (match o.to32 with
        | some e => (32 * s.tick).blt (e + 131072)
        | none => true) }
  s.replan st leg t32

/-- Does the command of a switch stand on now (R274, R278)? -/
def State.commanded (s : State) (st k : Nat) : Bool :=
  let c := (s.stg st).base (legOf st k) (32 * s.tick + 31)
  if st = 8 || k % 2 = 0 then c.1 else c.2

/-! Ready holds. -/

/-- Does a leg have a driver-ready ball (R254)? -/
def hasReady (st leg : Nat) : Bool := leg < readyLegs st

/-- GREF.TICKS as it acts (R281). -/
def State.trefresh (s : State) (st : Nat) : Nat := clamp 80 800 (s.get (uStage (s.lead st)) stg_GREF_TICKS)

/-! Trips. -/

/-- Is an input a source of a stage's protection group (R260, R261)? -/
def State.isSource (s : State) (g : Nat) (src : Src) : Bool :=
  let members := if g = 0 && s.six then [0, 1] else [g]
  match src with
  | .cmp n => members.any fun m => (s.get (uStage m) stg_GSRC0_CMP).testBit n
  | .sw m k => members.contains m && k < stageSwitches m && (s.get (uStage m) stg_GSRC1_SWRET).testBit k
  | .grp m => members.contains m && s.on (uStage m) stg_GSRC1_GRP

/-- The leg a source belongs to, 15 for the whole stage or group (R260, R261). -/
def State.srcLeg (s : State) (g : Nat) (src : Src) : Nat :=
  match src with
  | .cmp n =>
    let l := (s.get (uStage g) (stg_GCMPLEG_LEG (n / 8))) / 2 ^ (4 * (n % 8)) % 16
    if l < (if g = 0 && s.six then 6 else stageLegs g) then l else 15
  | .sw m k => legOf m k + (if g = 0 && m = 1 then 3 else 0)
  | .grp _ => 15

/-- The kind and number of a source in the log (R281). -/
def srcLogged : Src → Nat × Nat
  | .cmp n => (0, n)
  | .sw _ k => (1, k)
  | .grp _ => (2, 0)

/-- Is a source a low-side per-switch return? -/
def srcLow : Src → Bool
  | .sw _ k => k % 2 = 1
  | _ => false

/-- Is a source blanked (R265)? -/
def State.srcBlanked (s : State) (src : Src) : Bool :=
  match src with
  | .sw m k => s.blanked m k
  | _ => false

/-- Is an enabled source of a group active now? -/
def State.srcNow (s : State) (g : Nat) : Bool := s.srcActive.any fun src => s.isSource g src

/-- An activation is counted (R264): GTRIPCNT, and LTRIP of the source's leg. -/
def State.countTrip (s : State) (g leg : Nat) : State :=
  let s := s.inc (uStage g) stg_GTRIPCNT_COUNT
  if leg = 15 then s
  else s.inc (uLeg (if g = 0 && 3 ≤ leg then 1 else g) (if g = 0 && 3 ≤ leg then leg - 3 else leg)) leg_LTRIP_COUNT

/-- The retries granted within the present window (R273). -/
def State.grantsNow (s : State) (g : Nat) : List Nat :=
  (s.stg g).grants.filter fun a => s.tick < a + ms (atLeast1 (s.get (uStage g) stg_GRETRY_TWIN))

/-- The retry decision of R273, but for the conditions on the episode: whether a retry is granted, and the state with
the grant recorded. A trip of DCL and an SSFAIL of one instant count one retry (R325). -/
def State.grantRetry (s : State) (g : Nat) : Bool × State :=
  let l := s.grantsNow g
  if l.contains s.tick then (true, s)
  else if l.length < s.get (uStage g) stg_GRETRY_NRETRY then
    (true, s.modStg g fun h => { h with grants := l ++ [s.tick] })
  else (false, s)

/-- The ticks of GRETRY.TRETRY. -/
def State.tretry (s : State) (g : Nat) : Nat := 4000 * atLeast1 (s.get (uStage g) stg_GRETRY_TRETRY)

/-- A trip (R264, R267, R273): the episode opens, the turn-off starts, and the retry decision is made; `bootuv` is a trip
that latches at once (R279). -/
def State.trip (s : State) (g leg kind num : Nat) (bootuv : Bool) : State :=
  let s := s.clearLog g
  let s := s.logEntry g leg kind num
  let s := s.turnOff g
  let s := s.modStg g fun h => { h with episode := true, reacted := false, retryAt := none }
  let s := (s.fault (uStage g) 0x0410).raise (uStage g) 0
  let s := s.countTrip g leg
  if bootuv then ((s.fault (uStage g) 0x0430).raise (uStage g) 6).setLatch g
  else if (s.stg g).asc then s.setLatch g
  else
    match s.grantRetry g with
    | (true, s) => s.modStg g fun h => { h with retryAt := some (s.tick + s.tretry g) }
    | (false, s) => (s.fault (uStage g) 0x0412).setLatch g

/-- The legs logged within 1 µs of entry 0 (R272). -/
def State.logLegs (s : State) (g : Nat) : List Nat :=
  let u := uStage g
  let t0 := s.get u (stg_FLOGT_STAMP 0)
  (((List.range 8).filter fun k => s.on u (stg_FLOGA_VALID k) && s.get u (stg_FLOGA_LEG k) ≠ 15 &&
    (s.get u (stg_FLOGT_STAMP k) + 2 ^ 32 - t0) % 2 ^ 32 ≤ 400).map fun k => s.get u (stg_FLOGA_LEG k)).eraseDups

/-- The multi-leg check at a new log entry (R272). -/
def State.multiCheck (s : State) (g : Nat) : State :=
  if !(s.on (uStage g) stg_GSTAT_MULTI) && 2 ≤ (s.logLegs g).length then
    let s := s.set (uStage g) stg_GSTAT_MULTI 1
    let s := s.raise (uStage g) 1
    (s.fault (uStage g) 0x0411).setLatch g
  else s

/-- A low-side return in ASC ends the ASC (R268). -/
def State.ascFail (s : State) (g : Nat) : State :=
  let s := (s.fault (uStage g) 0x0414).raise (uStage g) 8
  s.turnOffWith g false

/-- What an activation does to one protection group that has it as a source (R262 to R264, R268, R272). -/
def State.activate (s : State) (g : Nat) (src : Src) : State :=
  let leg := s.srcLeg g src
  let (kind, num) := srcLogged src
  if s.acts g && s.gstate g = 0 && !(s.glatch g) then s.trip g leg kind num false
  else if s.acts g then
    let s := s.countTrip g leg
    let s := if (s.stg g).episode then (s.logEntry g leg kind num).multiCheck g else s
    if s.gstate g = 3 && srcLow src then s.ascFail g else s
  else if s.inMode .safeHold && g ≤ 1 && s.enabled (uStage g) && s.gstate g = 3 && srcLow src then
    ((s.countTrip g leg).logEntry g leg kind num).ascFail g
  else (s.countTrip g leg).raise (uStage g) 0

/-- An activation, for every protection group that has the input as a source (R260). -/
def State.activateAll (s : State) (src : Src) : State :=
  forN 9 (fun g s => if s.lead g = g && s.isSource g src then s.activate g src else s) s

/-- A stage that begins to act, or that returns to NORMAL, trips on a source that is active already (R263). -/
def State.tripCheck (s : State) (g : Nat) : State :=
  if s.lead g = g && s.acts g && s.gstate g = 0 && !(s.glatch g) then
    match s.srcActive.find? fun src => s.isSource g src && !(s.srcBlanked src) with
    | some src => s.activate g src
    | none => s
  else s

/-- Every stage makes the check of R263. -/
def State.tripCheckAll (s : State) : State := forN 9 (fun g s => s.tripCheck g) s

/-! Ready holds. -/

/-- A ready hold of a leg starts (R278), at the start of a refresh pulse where it meets one that is earlier, with which it merges; and
BOOTUV trips the stage where too many fall in the window (R279). -/
def State.startHold (s : State) (st leg : Nat) : State :=
  let g := s.lead st
  let u := uStage g
  let s := s.inc u stg_GWITHCNT_COUNT
  let s := (s.inc (uLeg st leg) leg_LWITH_COUNT).raise u 5
  let win := ms (atLeast1 (s.get u stg_GBSLIM_WIN))
  let recent := ((s.stg g).holdTicks.filter fun a => s.tick < a + win) ++ [s.tick]
  let s := s.modStg g fun h => { h with holdTicks := recent }
  let now := 32 * s.tick
  let from_ := match (s.stg st).overs.find? fun o => o.leg = leg && o.from32 ≤ now && o.to32.any fun e => now < e with
    | some o => o.from32
    | none => now
  let until_ := (from_ + s.dead32 st + 31) / 32 + s.trefresh st
  let s := s.modStg st fun h => { h with
    holds := (h.holds.filter (·.leg ≠ leg)) ++ [⟨leg, from_ / 32, until_, false⟩]
    overs := (h.overs.filter fun o => o.leg ≠ leg || o.to32.any fun e => e ≤ now) ++ [⟨leg, from_, none⟩] }
  let s := s.replan st leg now
  if atLeast1 (s.get u stg_GBSLIM_N) ≤ recent.length then s.trip g 15 3 0 true else s

/-- A ready hold ends at a tick (R278): the low side turns off then, and the high side follows its command again after dead time. -/
def State.endHold (s : State) (st leg at_ : Nat) : State :=
  let s := s.modStg st fun h => { h with
    holds := h.holds.filter (·.leg ≠ leg)
    overs := h.overs.map fun o => if o.leg = leg && o.to32.isNone then { o with to32 := some (32 * at_) } else o }
  s.replan st leg (32 * at_)

end Sys2Proof.Machine
end

