-- ==== Sys2Proof/Machine/Reg.lean ====
section
/-!
DEFINITION. The converter REG on stage DCL: thresholds (R308), phases and interleave (R309 to R311), requests and starts
(R313 to R316), supervision (R317, R318), shedding, load steps, OVT, stops and REG_DIS (R319 to R324).
-/

namespace Sys2Proof.Machine

/-- What of a phase no register shows. -/
def State.phase (s : State) (n : Nat) : PhaseH := sget (fun _ => {}) s.convPhases n

/-- The state with that of a phase changed; a phase whose every item is at its default has no entry. -/
def State.modPhase (s : State) (n : Nat) (f : PhaseH → PhaseH) : State :=
  { s with convPhases := sset (fun _ => {}) s.convPhases n (f (s.phase n)) }

/-- RCFG.NMAX as it acts (R327). -/
def State.nmax (s : State) : Nat := clamp 1 4 (s.get uReg reg_RCFG_NMAX)

/-- The rank of a phase (R310). -/
def State.rank (s : State) (n : Nat) : Nat := (s.activePhases.filter (· < n)).length

/-! Thresholds (R308). -/

/-- The total current demand in force (R308, R313). -/
def State.itot (s : State) : Int :=
  if s.get uReg reg_RSTAT_GOV = 3 then (s.get uReg reg_RDCH_ITOT : Int) else max 0 (s.ref 2 0)

/-- ICTR: the demand per ACTIVE phase, rounded half to even. -/
def State.ictr (s : State) : Int := roundDiv s.itot s.nOn

/-- The cap C. -/
def State.regCap (s : State) : Nat :=
  if s.get uReg reg_RSTAT_STATE = 1 then s.get uReg reg_RLIM_ISS else s.get uReg reg_RLIM_ILIM

/-- The peak threshold. -/
def State.regPeak (s : State) : Int := min (s.ictr + (s.get uReg reg_RBAND_HALF : Int)) (s.regCap : Int)

/-- The valley threshold: in SOFTSTART raised to IZ where it is lower. -/
def State.regValley (s : State) : Int :=
  let v := s.regPeak - 2 * (s.get uReg reg_RBAND_HALF : Int)
  if s.get uReg reg_RSTAT_STATE = 1 then max v (s.get uReg reg_RBAND_IZ : Int) else v

/-- The code that a threshold DAC takes: 12 bits and signed (R306); in BOOST the threshold is negated (R307). -/
def State.dacCode (s : State) (threshold : Int) : Int :=
  clampI (-2048) 2047 ((if s.get uReg reg_RSTAT_DIR = 1 then -threshold else threshold) / 16)

/-- The codes of the peak and valley comparators that are in force: a change counts from the second tick after it (R308). -/
def State.peakCode (s : State) : Int := if s.conv.codeAt ≤ s.tick then s.dacCode s.conv.peak else s.conv.oldPeak
def State.valleyCode (s : State) : Int := if s.conv.codeAt ≤ s.tick then s.dacCode s.conv.valley else s.conv.oldValley

/-- The codes of the OVT comparator's edges (R306, R321). -/
def State.ovtCodes (s : State) : Int × Int := ((s.get uReg reg_ROVT_OVT : Int) / 16, (s.get uReg reg_ROVT_REL : Int) / 16)

/-- The thresholds computed again at a change that takes effect at a tick, and quantities 0 ITOT, 1 ICTR and 2 PEAK (R308, R326). With no
phase ACTIVE there is no per-phase centre, and ICTR and PEAK keep their values. -/
def State.regThresholds (s : State) (at_ : Nat) : State :=
  let s := s.setQtyI 2 0 s.itot
  if s.nOn = 0 then s else
  let (p, v) := (s.regPeak, s.regValley)
  let s := if p = s.conv.peak && v = s.conv.valley then s else
    { s with conv := { s.conv with peak := p, valley := v, oldPeak := s.peakCode, oldValley := s.valleyCode, codeAt := at_ + 2 } }
  (s.setQtyI 2 1 (satQ15 s.ictr)).setQtyI 2 2 (satQ15 p)

/-- The set of ACTIVE phases has changed: ranks, NACT, the timers of R319 and the suspension of R311. A phase that is not ACTIVE waits for
no window (R329), and with none ACTIVE DCL has no carrier (R312). -/
def State.regNewOn (s : State) : State :=
  let n := s.nOn
  let s := forN 4 (fun i s =>
    if s.phState i = 1 then s.set (uPhase i) ph_PHSTAT_RANK (s.rank i)
    else ((s.set (uPhase i) ph_PHSTAT_RANK 0).set (uPhase i) ph_PHSTAT_WAITW 0).modPhase i fun h => { h with wait := none }) s
  let s := if n = 0 then s.carrierStopped 2 else s
  let s := (s.set uReg reg_RSTAT_NACT n).set uReg reg_RSTAT_LOCKED 0
  let s := { s with conv := { s.conv with below := none, above := none, seen := 0 } }
  (s.setQtyI 2 3 n).regThresholds s.tick

/-! Switching (R309). -/

/-- The command of a phase from a tick on: its active switch, its freewheel switch or neither on (R307). -/
def State.phCmd (s : State) (n t : Nat) (active freewheel : Bool) : State :=
  if s.get uReg reg_RSTAT_DIR = 0 then s.legCmd 2 n (32 * t) active freewheel else s.legCmd 2 n (32 * t) freewheel active

/-- Is a phase the master (R310)? -/
def State.isMaster (s : State) (n : Nat) : Bool := s.phState n = 1 && s.rank n = 0

/-- Does OVT hold on-pulses back (R321)? Only in BUCK with ROVT.EN. -/
def State.ovtHolds (s : State) : Bool := s.conv.ovt.isSome && s.on uReg reg_ROVT_EN && s.get uReg reg_RSTAT_DIR = 0

/-- The on-pulse of a phase ends at a tick: the active switch off, the freewheel switch on. The master's turn-off is a peak of DCL's
carrier (R312). -/
def State.phOff (s : State) (n t : Nat) : State :=
  let s := (s.phCmd n t false true).set (uPhase n) ph_PHSTAT_ONP 0
  let s := s.modPhase n fun h => { h with off := some t, peak := false }
  if s.isMaster n then s.carrierPoint 2 true t else s

/-- The switches and counters at a turn-on of a phase. -/
def State.phOn (s : State) (n t : Nat) : State :=
  let s := ((s.phCmd n t true false).set (uPhase n) ph_PHSTAT_ONP 1).set (uPhase n) ph_PHSTAT_WAITW 0
  let s := s.inc (uPhase n) ph_PHPULSE_COUNT
  let s := match (s.phase n).on with
    | some t0 => s.set (uPhase n) ph_PHPER_TICKS (t - t0)
    | none => s
  s.modPhase n fun h => { h with on := some t, wait := none, peak := false }

/-- SHED and ADD of n phases, n = 2 to 4 (R319). -/
def State.shedLevel (s : State) (n : Nat) : Int := s.get uReg (reg_RSHED_SHED (n - 2))
def State.addLevel (s : State) (n : Nat) : Int := s.get uReg (reg_RSHED_ADD (n - 2))

/-- Does a load step hold now (R320)? -/
def State.stepNow (s : State) : Bool :=
  (s.get uReg reg_RSTAT_STATE = 1 || s.get uReg reg_RSTAT_STATE = 2) && 1 ≤ s.nOn &&
    (s.get uReg reg_RSTEP_LEVEL : Int) < s.ictr &&
    (List.range s.nmax).any fun n => s.phState n ≠ 1

/-- The first tick at which an on-pulse of a phase may start (R309). -/
def State.afterMinOff (s : State) (n t : Nat) : Nat :=
  match (s.phase n).off with
  | some t0 => max t (t0 + s.get uReg reg_RPULSE_MINOFF)
  | none => t

/-- An on-pulse of a phase is to start at a tick: it starts then, or waits where OVT or MINOFF holds it back (R309, R321). -/
def State.phStart (s : State) (n t : Nat) : State :=
  if s.on (uPhase n) ph_PHSTAT_ONP then s
  else if s.ovtHolds || t < s.afterMinOff n 0 then s.modPhase n fun h => { h with wait := some (h.wait.getD s.tick) }
  else s.phOn n t

/-- A load step at a tick (R320): every phase is brought in; a SHEDDING phase starts an on-pulse on the next tick, an IDLE one
with the next turn-on of a phase that was ACTIVE. -/
def State.loadStep (s : State) (at_ : Nat) : State :=
  if s.stepNow then
    let was := s.activePhases
    let below := List.range s.nmax
    let shedding := below.filter fun n => s.phState n = 2
    let idle := below.filter fun n => s.phState n = 0
    let s := forL (shedding ++ idle) (fun n s => s.set (uPhase n) ph_PHSTAT_STATE 1) s
    let s := s.regNewOn
    let s := { s with conv := { s.conv with join := idle, joinWith := was, stepAt := at_ } }
    let s := forL shedding (fun n s => s.phStart n (at_ + 1)) s
    let s := s.raise uReg 2
    s.inc uReg reg_RSTEPCNT_COUNT
  else s

/-- The demand or the set of phases changed: thresholds, and the load step that may follow. -/
def State.regUpdate (s : State) : State := (s.regThresholds s.tick).loadStep s.tick

/-- The source of ITOT has changed and is taken at the next tick (R313). -/
def State.regUpdateNext (s : State) : State := (s.regThresholds (s.tick + 1)).loadStep (s.tick + 1)

/-- The timers of R319 at a master turn-on, in every state that has one. -/
def State.dwellTimers (s : State) (t : Nat) : State :=
  let n := s.nOn
  let low := 2 ≤ n && s.itot < s.shedLevel n
  let high := n < s.nmax && s.addLevel (n + 1) < s.itot
  { s with conv := { s.conv with
      below := if low then (match s.conv.below with | some b => some b | none => some t) else none
      above := if high then (match s.conv.above with | some b => some b | none => some t) else none } }

/-- A turn-on of the master (R310, R311, R319), which is a valley of DCL's carrier (R312); its period in force is P (DEDUCED, log entry
124). -/
def State.masterOn (s : State) (t : Nat) : State :=
  let c := s.conv
  let p := match c.master with
    | some t0 => t - t0
    | none => c.period
  let s := { s with conv := { c with master := some t, period := p, seen := min 2 (c.seen + 1) } }
  let s := s.set uReg reg_RSTAT_LOCKED (if 2 ≤ s.conv.seen then 1 else 0)
  let s := (s.modTr 2 fun h => { h with period := p }).carrierPoint 2 false t
  if s.stepNow then s.loadStep s.tick else s.dwellTimers t

/-- An on-pulse of a phase starts at a tick, with the phases that wait to start together with it (R320). -/
def State.startPulse (s : State) (n t : Nat) : State :=
  let s := s.phOn n t
  let s := if s.conv.joinWith.contains n then
      let l := s.conv.join
      let s := { s with conv := { s.conv with join := [], joinWith := [] } }
      forL l (fun m s => s.phStart m t) s
    else s
  if s.isMaster n then s.masterOn t else s

/-- A window miss (R310). -/
def State.lockMiss (s : State) (n : Nat) : State := (s.inc (uPhase n) ph_PHMISS_COUNT).raise uReg 7

/-- The window of a rank (R310): its opening and its close. -/
def State.window (s : State) (n : Nat) : Int × Int :=
  let m := (s.conv.master.getD 0 : Int)
  let w := (s.get uReg reg_RLOCK_WIN : Int)
  let t := m + roundDiv ((s.rank n : Int) * s.conv.period) s.nOn
  (t - w, t + w)

/-- A valley sample of an ACTIVE phase acts (R309, R310): it starts an on-pulse on the next tick, or waits for MINOFF,
for OVT or for its window. -/
def State.valley (s : State) (n : Nat) : State :=
  let c := s.tick
  if s.phState n ≠ 1 || s.on (uPhase n) ph_PHSTAT_ONP || s.conv.join.contains n then s
  else if s.ovtHolds || c + 1 < s.afterMinOff n 0 then
    s.modPhase n fun h => { h with wait := some ((h.wait).getD c) }
  else if s.rank n = 0 || !(s.on uReg reg_RSTAT_LOCKED) then s.startPulse n (c + 1)
  else
    let (lo, hi) := s.window n
    if (c : Int) < lo then
      let s := s.set (uPhase n) ph_PHSTAT_WAITW 1
      s.modPhase n fun h => { h with wait := some ((h.wait).getD c) }
    else if (c : Int) ≤ hi then s.startPulse n (c + 1)
    else (s.lockMiss n).startPulse n (c + 1)

/-- A valley crossing of a phase (R309). -/
def execPhaseValleyCrossing (t n : Nat) (s : State) : Host.Outcome State Fault Refusal :=
  .next ((s.at t).valley (n % 4))

/-- A peak crossing of a phase (R309): the on-pulse ends on the next tick, but not before MINON. -/
def execPhasePeakCrossing (t n : Nat) (s : State) : Host.Outcome State Fault Refusal :=
  let s := s.at t
  let n := n % 4
  if !(s.on (uPhase n) ph_PHSTAT_ONP) then .next s
  else if s.tick + 1 < ((s.phase n).on.getD 0) + s.get uReg reg_RPULSE_MINON then
    .next (s.modPhase n fun h => { h with peak := true })
  else .next (s.phOff n (s.tick + 1))

/-- The end of MINON (R309): a peak that was reached ends the on-pulse. -/
def execPhaseMinOnEnd (t n : Nat) (s : State) : Host.Outcome State Fault Refusal :=
  let s := s.at t
  let n := n % 4
  if s.on (uPhase n) ph_PHSTAT_ONP && (s.phase n).peak &&
      s.due (((s.phase n).on.getD 0) + s.get uReg reg_RPULSE_MINON) then .next (s.phOff n s.tick)
  else .next s

/-- The end of MINOFF (R309): an on-pulse that waits on a valley sample may start, under the interleave rules. -/
def execPhaseMinOffEnd (t n : Nat) (s : State) : Host.Outcome State Fault Refusal :=
  let s := s.at t
  let n := n % 4
  if (s.phase n).wait.isSome && !(s.on (uPhase n) ph_PHSTAT_WAITW) then .next (s.valley n) else .next s

/-- The opening of a phase's window, or the end of its wait (R310); a phase that a load step brought in starts at the end
of WMAX (R320). -/
def execInterleaveWindowOpen (t n : Nat) (s : State) : Host.Outcome State Fault Refusal :=
  let s := s.at t
  let n := n % 4
  let wmax := s.get uReg reg_RLOCK_WMAX
  if s.conv.join.contains n then
    if s.due (s.conv.stepAt + wmax) then
      let s := { s with conv := { s.conv with join := s.conv.join.filter (· ≠ n) } }
      .next (if s.ovtHolds || s.tick < s.afterMinOff n 0 then s.phStart n s.tick else s.startPulse n s.tick)
    else .next s
  else if s.on (uPhase n) ph_PHSTAT_WAITW && s.phState n = 1 && !s.ovtHolds then
    if (s.window n).1 ≤ (s.tick : Int) then .next (s.startPulse n s.tick)
    else if s.due (((s.phase n).wait.getD 0) + wmax) then .next ((s.lockMiss n).startPulse n s.tick)
    else .next s
  else .next s

/-! Requests and starts (R313, R314, R316). -/

/-- The request that governs: 3 DISCH, 2 BOOST, 1 HOST, 0 none (R313). -/
def State.regRequest (s : State) : Nat :=
  if s.get uBrk brk_LSTAT_DISSTATE = 2 && s.inMode .discharge then 3
  else if s.get uBrk brk_LSTAT_PRESTATE = 2 || s.get uBrk brk_LSTAT_PRESTATE = 3 then 2
  else if s.on uReg reg_RSTAT_HOSTREQ then 1 else 0

/-- The direction of a request (R313). -/
def State.regDirOf (s : State) (g : Nat) : Nat := if g = 2 then 1 else if g = 1 then s.conv.hostDir else 0

/-- Entry to SOFTSTART in the direction of the governing request (R316). -/
def State.softStart (s : State) : State :=
  let s := s.regDisEnd
  let d := s.regDirOf (s.get uReg reg_RSTAT_GOV)
  let s := (s.set uReg reg_RSTAT_DIR d).setQtyI 2 5 d
  let s := { s with conv := { s.conv with softAt := s.tick, stopTo := 0, ovt := if d = 1 then none else s.conv.ovt } }
  let s := s.regSetState 1
  let s := s.when (s.on uReg reg_RCFG_VPEN) fun s => s.seedAsk (s.get uReg reg_RCFG_VPOD)
  let s := forN 4 (fun n s => s.set (uPhase n) ph_PHSTAT_STATE (if n < s.nmax then 1 else 0)) s
  s.regNewOn.loadStep s.tick

/-- The end of a stop (R318, R322, R323). -/
def State.stopEnd (s : State) : State :=
  let s := s.regPhasesIdle
  match s.conv.stopTo with
  | 1 => s.regSetState 4
  | 2 => s.regSetState 5
  | 3 => s.softStart
  | _ =>
    if s.get uReg reg_RSTAT_GOV ≠ 0 then s.softStart
    else (s.regSetState 0).when s.conv.stopDis fun s => s.regDisStart

/-- A stop ends when every phase is IDLE (R322). -/
def State.stopCheck (s : State) : State :=
  if s.get uReg reg_RSTAT_STATE = 3 && (List.range 4).all fun n => s.phState n = 0 then s.stopEnd else s

/-- A stop begins (R322). -/
def State.regStop (s : State) (to_ : Nat) (dis : Bool) : State :=
  let s := forN 4 (fun n s => if s.phState n = 1 then s.set (uPhase n) ph_PHSTAT_STATE 2 else s) s
  let s := { s with conv := { s.conv with stopAt := s.tick, stopTo := to_, stopDis := dis, join := [], joinWith := [] } }
  (s.regSetState 3).regNewOn.stopCheck

/-- Does REG work: enabled, and past its check (R13, R315)? -/
def State.regWorks (s : State) : Bool := s.enabled uReg && !(s.failedCheck.contains uReg.page)

/-- The governing request may have changed (R313, R316). A converter whose stage acts and is not NORMAL is TRIPPED, with the requests
standing (R324). -/
def State.regGovern (s : State) : State :=
  if !s.regWorks then s else
  let old := s.get uReg reg_RSTAT_GOV
  let g := s.regRequest
  let st := s.get uReg reg_RSTAT_STATE
  let s := s.set uReg reg_RSTAT_GOV g
  if s.gstate 2 ≠ 0 && (s.inMode .run || s.inMode .discharge) then
    (if st = 5 || st = 6 then s else s.regPhasesIdle.regSetState 6)
  else if st = 0 then (if g ≠ 0 then s.softStart else s)
  else if st = 1 || st = 2 then
    if g = 0 then s.regStop 0 true
    else if s.regDirOf g ≠ s.get uReg reg_RSTAT_DIR then (s.raise uReg 6).regStop 3 false
    else if g ≠ old then s.regUpdateNext else s
  else if st = 3 && s.conv.stopTo = 3 && g = 0 then
    { s with conv := { s.conv with stopTo := 0, stopDis := true } }
  else s

/-- DCL has resumed: REG enters SOFTSTART where a request stands (R324). -/
def State.regResume (s : State) : State :=
  if s.get uReg reg_RSTAT_STATE = 6 then
    let g := s.regRequest
    let s := s.set uReg reg_RSTAT_GOV g
    if g ≠ 0 then s.softStart else s.regSetState 0
  else s

/-- START is done: REG is REGULATING under the HOST request (R314). -/
def State.regStartDone (s : State) : State :=
  if s.on uReg reg_RCTL_START && s.get uReg reg_RSTAT_GOV = 1 then
    ((s.set uReg reg_RCTL_START 0).cor uReg reg_RRES_DONE 1).doneNote uReg reg_RCTL_START
  else s

/-- RCTL.START (R314). Direction and START may be written by one word (R95). A START that reads 1 already is ignored. -/
def State.regStart (s : State) : State :=
  if s.on uReg reg_RCTL_START then s else
  let refuse := fun c => (s.cause uReg reg_RRES_CAUSE c).cor uReg reg_RRES_REFUSED 1
  if !(s.inMode .run) then refuse 1
  else if !(s.enabled uReg) || s.failedCheck.contains uReg.page then refuse 2
  else if s.get uReg reg_RSTAT_STATE = 5 then refuse 3
  else
    let s := (s.set uReg reg_RCTL_START 1).set uReg reg_RSTAT_HOSTREQ 1
    let s := { s with conv := { s.conv with hostDir := s.get uReg reg_RCTL_DIR } }
    let s := s.regGovern
    if s.get uReg reg_RSTAT_STATE = 2 then s.regStartDone else s

/-- RCTL.STOP clears HOSTREQ; a START still running is aborted with cause HOST (R314). -/
def State.regHostStop (s : State) : State := (s.regDropHost 4).regGovern

/-- START written 0 (R314): an abort of a running START, or one that meets its completion (R101). -/
def State.regStartClear (s : State) : State :=
  if s.on uReg reg_RCTL_START then s.regHostStop else s.abortLate uReg reg_RCTL_START reg_RRES_ABORTLATE

/-! Supervision (R317, R318, R323). -/

/-- SSFAIL (R318). -/
def State.ssFail (s : State) : State :=
  let s := (s.fault uReg 0x0510).raise uReg 0
  let s := s.inc uReg reg_RSSCNT_COUNT
  match s.grantRetry 2 with
  | (true, s) =>
    { s with conv := { s.conv with waitEnd := s.tick + s.tretry 2 } }.regStop 1 false
  | (false, s) =>
    let s := s.regStop 2 false
    let s := (s.fault uReg 0x0511).raise uReg 1
    s.react uReg 0

/-- REGULATING is reached (R317). -/
def State.regulating (s : State) : State := ((s.regSetState 2).raise uReg 10).regStartDone.regUpdate

/-- An event of VSUP's cadence: a supervision instant falls OFS ticks after it (R317). -/
def State.vsupEvent (s : State) (cad : Nat) : State :=
  if s.get uVsup vsup_VCFG_CAD = cad then { s with conv := { s.conv with events := s.conv.events ++ [s.tick] } } else s

/-- A supervision instant of VSUP: the output and the target are read at that tick (R317, R41). -/
def State.vsupInstant (s : State) : Host.Outcome State Fault Refusal :=
  let boost := s.get uReg reg_RSTAT_DIR = 1
  let sig := if boost then s.get uBrk brk_LSIG0_VDC else s.get uVsup vsup_VSIG_VOUT
  let s := s.sigParity sig
  let s := if boost then s.sigParity (s.get uBrk brk_LSIG1_PACK) else s
  let out := s.sigI sig
  let target : Int := if boost then s.sigI (s.get uBrk brk_LSIG1_PACK) else (s.get uReg reg_RTGT_VT : Int)
  let s := (s.seti uVsup vsup_VSTAT_VOUT out).setQtyI 2 6 out
  let s := if s.get uReg reg_RSTAT_STATE = 1 then
      let tmo := ms (atLeast1 (s.get uVsup (if boost then vsup_VSS_TMOB else vsup_VSS_TMO)))
      if target * 15 ≤ out * 16 then s.regulating
      else if s.due (s.conv.softAt + tmo) then
        (if target * 3 ≤ out * 10 then s.regulating else s.ssFail)
      else s
    else s
  if s.on uVsup vsup_VSTAT_DIS && out < (s.get uVsup vsup_VDIS_VEND : Int) then .next (s.regDisEnd.raise uReg 8)
  else .next s

/-- VSUP_SUPERVISION_INSTANT: VCFG.OFS ticks after an event of cadence VCFG.CAD, while VSUP is enabled. -/
def execVsupSupervisionInstant (t : Nat) (s : State) : Host.Outcome State Fault Refusal :=
  let s := s.at t
  match s.conv.events with
  | e :: es =>
    if s.due (e + s.get uVsup vsup_VCFG_OFS) then
      let s := { s with conv := { s.conv with events := es } }
      if s.enabled uVsup then s.vsupInstant else .next s
    else .next s
  | [] => .next s

/-- The WAIT time ends (R318): SOFTSTART again where a request still stands. -/
def execRegRetryWaitEnd (t : Nat) (s : State) : Host.Outcome State Fault Refusal :=
  let s := s.at t
  if s.get uReg reg_RSTAT_STATE = 4 && s.due s.conv.waitEnd then
    let s := s.set uReg reg_RSTAT_GOV s.regRequest
    .next (if s.regRequest ≠ 0 then s.softStart else s.regSetState 0)
  else .next s

/-- RDOWN.TICKS have passed in a stop (R322): both switches of every phase go off. -/
def execStopRundownEnd (t : Nat) (s : State) : Host.Outcome State Fault Refusal :=
  let s := s.at t
  if s.get uReg reg_RSTAT_STATE = 3 && s.due (s.conv.stopAt + s.get uReg reg_RDOWN_TICKS) then .next s.stopEnd
  else .next s

/-- VDIS.TMAX ms have passed (R323): REG_DIS falls with DISFAIL. -/
def execRegDisTimeout (t : Nat) (s : State) : Host.Outcome State Fault Refusal :=
  let s := s.at t
  if s.on uVsup vsup_VSTAT_DIS && s.due (s.regDisAt + ms (atLeast1 (s.get uVsup vsup_VDIS_TMAX))) then
    .next ((s.regDisEnd.fault uReg 0x0512 |>.raise uReg 9).react uReg 1)
  else .next s

/-! Shedding, adding, zero current and OVT (R309, R319, R321). -/

/-- A phase current sample at or below IZ (R309, R319): in SOFTSTART the freewheel switch turns off; a SHEDDING phase in
freewheel turns both switches off and is IDLE, which can end a stop. -/
def execPhaseZeroCurrent (t n : Nat) (s : State) : Host.Outcome State Fault Refusal :=
  let s := s.at t
  let n := n % 4
  if s.on (uPhase n) ph_PHSTAT_ONP then .next s
  else
    match s.phState n with
    | 2 => .next (((s.phCmd n (s.tick + 1) false false).set (uPhase n) ph_PHSTAT_STATE 0).stopCheck)
    | 1 => if s.get uReg reg_RSTAT_STATE = 1 then .next (s.phCmd n (s.tick + 1) false false) else .next s
    | _ => .next s

/-- A timer of R319 reaches DWELL: the highest ACTIVE phase is shed, or the lowest IDLE one is added. -/
def execShedDwellExpiry (t : Nat) (s : State) : Host.Outcome State Fault Refusal :=
  let s := s.at t
  let dwell := s.get uReg reg_RDWELL_TICKS
  if s.get uReg reg_RSTAT_STATE ≠ 2 then .next s
  else match s.conv.below, s.conv.above with
    | some b, _ =>
      if s.due (b + dwell) && !((List.range 4).any fun n => s.phState n = 2) then
        match s.activePhases.getLast? with
        | some n =>
          let s := (s.set (uPhase n) ph_PHSTAT_STATE 2).regNewOn.raise uReg 3
          .next ((s.inc uReg reg_RSHEDCNT_COUNT).loadStep s.tick)
        | none => .next s
      else .next s
    | none, some a =>
      if s.due (a + dwell) then
        match (List.range s.nmax).find? fun n => s.phState n = 0 with
        | some n =>
          let s := s.set (uPhase n) ph_PHSTAT_STATE 1
          let s := s.regNewOn.raise uReg 4
          .next (((s.inc uReg reg_RADDCNT_COUNT).loadStep s.tick).valley n)
        | none => .next s
      else .next s
    | none, none => .next s

/-- A crossing of the output above OVT, or below REL (R321). -/
def execOvtCrossing (t : Nat) (above : Bool) (s : State) : Host.Outcome State Fault Refusal :=
  let s := s.at t
  if above then
    if s.on uReg reg_ROVT_EN && s.get uReg reg_RSTAT_DIR = 0 then
      let cut := (List.range 4).filter fun n => s.on (uPhase n) ph_PHSTAT_ONP
      let s := { s with conv := { s.conv with ovt := some (s.conv.ovt.getD s.tick) } }
      if cut = [] then .next s
      else
        let s := forL cut (fun n s => (s.phOff n (s.tick + 1)).inc (uPhase n) ph_PHTRUNC_COUNT) s
        .next ((s.raise uReg 5).inc uReg reg_ROVTCNT_COUNT)
    else .next s
  else
    match s.conv.ovt with
    | none => .next s
    | some t0 =>
      -- the time that OVT held a turn-on back does not count towards WMAX (R310)
      let s := { s with conv := { s.conv with ovt := none } }
      .next (forN 4 (fun n s =>
        match (s.phase n).wait with
        | none => s
        | some c =>
          let s := s.modPhase n fun h => { h with wait := some (c + (s.tick - max c t0)) }
          if s.on (uPhase n) ph_PHSTAT_WAITW then s else s.valley n) s)

end Sys2Proof.Machine
end

