-- ==== Sys2Proof/Machine/PodBase.lean ====
section
/-!
DEFINITION. What pods share: reads of signals with their parity (R32), the latch of outputs into signals and stage
references (R136), abandoned runs (R170) and the reaction table of R171.
-/

namespace Sys2Proof.Machine

/-- The captured Q15 input of a pod. -/
def State.podIn (s : State) (p i : Nat) : Int := (s.getW ((uPod p).addr (0x380 + 4 * i))).toInt

/-! Outputs. -/

/-- A stage reference latched (R136); on DCL every tick is a load point, so ITOT acts at once (R308);
TA and TB stamp a latch of THETA (R237), and FRZ of a kernel follows its DUTY (R363). -/
def State.setRef (s : State) (st i : Nat) (w : Word) : State :=
  let s := { s with refs := sset (fun _ => 0) s.refs (st * 256 + i) w }
  let s := if st ≤ 1 && i = 4 then
      { s with trac := sset (fun _ => {}) s.trac st { sget (fun _ => {}) s.trac st with thetaAt := some s.tick } }
    else s
  if st = 2 && i = 0 then s.regUpdate else if 5 ≤ st && st ≤ 7 && i = 0 then s.cmFrz (st - 5) else s

/-- One output of a pod latched, into OUTk and into its signal or stage reference (R136). -/
def State.latchOut (s : State) (p k : Nat) (w : Word) : State :=
  let s := s.setW ((uPod p).addr (0x3C0 + 4 * k)) w
  let tgt := s.get (uPod p) (pod_OUTBIND_TARGET k)
  match s.get (uPod p) (pod_OUTBIND_KIND k) with
  | 1 =>
    if s.dir tgt dir_WCLASS = 1 && s.dir tgt dir_WINST = p * 8 + k then s.writeSig tgt w else s
  | 2 => s.setRef (tgt / 256) (tgt % 256) w
  | _ => s

/-- Every output latched to 0 (R171, ZERO). -/
def State.podZero (s : State) (p : Nat) : State :=
  let s := forN 8 (fun k s => s.latchOut p k 0) s
  s.modPod p fun h => { h with latched := List.range 8 }

/-- The stages that the outputs of a pod name (R171, STAGE_OFF). -/
def State.podStages (s : State) (p : Nat) : List Nat :=
  (((List.range 8).filter fun k => s.get (uPod p) (pod_OUTBIND_KIND k) = 2).map fun k =>
    s.get (uPod p) (pod_OUTBIND_TARGET k) / 256).eraseDups

/-- The reaction table of R171 for selector `k` of a pod; HOLD keeps every output from being latched until the fault is cleared (log
entry 84). -/
def State.podReact (s : State) (p k : Nat) : State :=
  match s.sel (uPod p) k with
  | 0 => s
  | 1 => s.holdOut (uPod p) 1
  | 2 => s.podZero p
  | 3 => if s.podStages p = [] then s.podZero p else forL (s.podStages p) (fun st s => s.stageOff st) s
  | _ => s.safety 3 (uPod p).source

/-! Runs. -/

/-- A lane is free: idle, or, where its turn in the rotation has come, at the start of its test (R175). -/
def State.laneFree (s : State) (n : Nat) : State :=
  let u := uLane n
  let s := s.set u ln_LNSTAT_RUNNING 0
  if s.get u hdr_USTAT_STATE = 3 then s
  else if s.get uLaneSh lnsh_ROTSTAT_TEST = n then { s.set u hdr_USTAT_STATE 2 with testAt := s.tick }
  else s.set u hdr_USTAT_STATE 0

/-- A pod leaves the ready set and the lane, and nothing is committed (R165, R170, R173); a seed that it had taken is taken again at
the next capture (R183). -/
def State.abandonRun (s : State) (p : Nat) : State :=
  let s := { s with ready := s.ready.filter (· ≠ p) }
  let s := match (s.pod p).run with
    | some r => s.laneFree r.lane
    | none => s
  let s := s.set (uPod p) pod_RUNSTAT_RUNNING 0
  let s := if s.get (uPod p) hdr_USTAT_STATE = 3 then s else s.set (uPod p) hdr_USTAT_STATE 0
  s.modPod p fun h => { h with
    run := none, staged := none, captured := false, rampW := none, region := none
    seedNext := h.seedNext || (h.rampSeed && h.rampW.isSome) }

/-- A run that ends without a commit, and the interval it belongs to (R156, R173). -/
def State.dropRun (s : State) (p : Nat) : State := (s.abandonRun p).modPod p fun h => { h with event := none }

/-- An access of a run to an uncorrectable word (R156): the run stops and commits nothing, no output of it is latched,
fault 0x0111 and event ECCUNC, and the reaction of REACT.SEL0. -/
def State.podEcc (s : State) (p : Nat) : State :=
  let s := s.dropRun p
  let s := (s.fault (uPod p) 0x0111).raise (uPod p) 4
  s.podReact p 0

end Sys2Proof.Machine
end

