-- ==== Sys2Proof/Machine/MicroOps.lean ====
section
/-!
DEFINITION. The micro-ops (R141 to R150, R156): each acts on the working copy of the run that a pod has in progress,
where the word at the run's index has the micro-op's opcode.
-/

namespace Sys2Proof.Machine

/-- What a micro-op leaves: the run, and whether it saturated an accumulator, saturated a store or clamped. -/
structure MicroRes where
  run : PodRun
  acc : Bool := false
  st : Bool := false
  lim : Bool := false
deriving DecidableEq, Repr

/-! Number forms. -/

/-- The saturation of R141. -/
def satAcc (v : Int) : Int := clampI (-(2 ^ 39)) (2 ^ 39 - 1) v

/-- Rounding to Q15 without saturation (R142, step 1). -/
def roundQ15 (v : Int) : Int := roundDiv v 32768

/-- A node of the working copy. -/
def PodRun.node (r : PodRun) (n : Nat) : Int := sget (fun _ => 0) r.nodes (n % 64)

/-- An accumulator of the working copy. -/
def PodRun.acc (r : PodRun) (a : Nat) : Int := sget (fun _ => 0) r.accs (a % 16)

/-- A node written. -/
def PodRun.setNode (r : PodRun) (n : Nat) (v : Int) : PodRun :=
  { r with nodes := sset (fun _ => 0) r.nodes (n % 64) (signed 16 (unsigned 16 v)) }

/-- An accumulator written. -/
def PodRun.setAcc (r : PodRun) (a : Nat) (v : Int) : PodRun :=
  { r with accs := sset (fun _ => 0) r.accs (a % 16) v }

/-- An accumulator written with an exact result, saturated once (R141). -/
def PodRun.putAcc (r : PodRun) (a : Nat) (v : Int) : MicroRes :=
  { run := r.setAcc a (satAcc v), acc := satAcc v ≠ v }

/-- A node written with an accumulator value rounded and saturated (R142). -/
def MicroRes.putQ15 (m : MicroRes) (n : Nat) (v : Int) : MicroRes :=
  { m with run := m.run.setNode n (satQ15 (roundQ15 v)), st := m.st || satQ15 (roundQ15 v) ≠ roundQ15 v }

/-! Operand forms (R141, R144, R145). -/

/-- An input as the run reads it: the working set-point stands for I[SPIN] (R181). -/
def State.runIn (s : State) (p : Nat) (r : PodRun) (i : Nat) : Int :=
  match r.setp with
  | some (k, v) => if k = i then v else s.podIn p i
  | none => s.podIn p i

/-- The 16-bit value of a node or input source. -/
def State.src16 (s : State) (p : Nat) (r : PodRun) (c : Nat) : Int :=
  if c < 0x40 then r.node c else if c < 0x50 then s.runIn p r (c - 0x40) else 0

/-- A factor of a product: the mantissa and the shift of a gain, or a Q15 value with no shift (R141). -/
def State.factor (s : State) (p : Nat) (r : PodRun) (c : Nat) : Int × Nat :=
  if 0x50 ≤ c && c < 0x58 then r.gains.getD (c - 0x50) (0, 0) else (s.src16 p r c, 0)

/-- v(SRC): a source aligned to the accumulator (R141). -/
def State.srcAcc (s : State) (p : Nat) (r : PodRun) (c : Nat) : Int :=
  (s.factor p r c).1 * 2 ^ (15 + (s.factor p r c).2)

/-- The exact product of two sources (R141). -/
def State.product (s : State) (p : Nat) (r : PodRun) (x y : Nat) : Int :=
  (s.factor p r x).1 * (s.factor p r y).1 * 2 ^ ((s.factor p r x).2 + (s.factor p r y).2)

/-- The operand w of ADD, SUB, MIN, MAX, CMP and LD MODE 0 to 2 (R145, R147). -/
def State.operandW (s : State) (p : Nat) (r : PodRun) (w : Word) : Int :=
  match bits w 20 2 with
  | 0 => s.srcAcc p r (bits w 0 8)
  | 1 => lo16 w * 32768
  | _ => r.acc (bits w 0 4)

/-- The condition codes of SEL and SKIP (R146). -/
def PodRun.cond (r : PodRun) (c : Nat) : Bool :=
  match c with
  | 0 => r.eq
  | 1 => !r.eq
  | 2 => r.lt
  | 3 => !r.lt
  | 4 => r.gt
  | 5 => !r.gt
  | 6 => true
  | _ => r.accSat || r.stSat

/-- The clamp of LIM and INTEG between two nodes (R147). -/
def PodRun.clampTo (r : PodRun) (l : Nat) (v : Int) : Int :=
  min (max v (r.node l * 32768)) (r.node (l + 1) * 32768)

/-! The frame of a micro-op. -/

/-- The bits of RUNSTAT and the events that a micro-op's saturations set (R156): ACCSAT and STSAT are raised at the
first setting in a run. -/
def State.podReport (s : State) (p : Nat) (r : PodRun) (m : MicroRes) : State :=
  let u := uPod p
  let s := s.when m.acc fun s => (s.cor u pod_RUNSTAT_ACCSAT 1).when (!r.accSat) fun s => s.raise u 1
  let s := s.when m.st fun s => (s.cor u pod_RUNSTAT_STSAT 1).when (!r.stSat) fun s => s.raise u 2
  s.when m.lim fun s => s.cor u pod_RUNSTAT_LIMHIT 1

/-- The word of a pod's program at an index. -/
def State.progWord (s : State) (p i : Nat) : Word := s.getW ((uPod p).addr (0x400 + 4 * (i % 256)))

/-- A micro-op of a pod's run: where the pod has a run whose next word has the opcode, the word's codeword is decoded, `reads` is what
the op reads outside the pod, the effect is taken on the working copy, and the run moves to the next index. -/
def State.microReading (s : State) (p op : Nat) (reads : State → PodRun → Word → State) (f : State → PodRun → Word → MicroRes) :
    State :=
  match (s.pod p).run with
  | none => s
  | some r =>
    let w := s.progWord p r.pc
    if bits w 26 6 ≠ op then s else
    let (ok, s) := s.decode (40 * p + r.pc % 256 / 8)
    if !ok then s.podEcc p else
    let s := reads s r w
    let m := f s r w
    let s := s.modPod p fun h => { h with run := some { m.run with
      pc := m.run.pc + 1, accSat := r.accSat || m.acc, stSat := r.stSat || m.st } }
    s.podReport p r m

/-- A micro-op that reads nothing outside its pod. -/
def State.micro (s : State) (p op : Nat) (f : State → PodRun → Word → MicroRes) : State := s.microReading p op (fun s _ _ => s) f

/-! The effects (R147). A is the field [25:22]. -/

def fieldA (w : Word) : Nat := bits w 22 4
def fieldD (w : Word) : Nat := bits w 20 6
def fieldS (w : Word) : Nat := bits w 14 6
def fieldT (w : Word) : Nat := bits w 8 6

/-- LD: MODE 3 loads an INT32 input, sign-extended and unscaled. -/
def fxLd (p : Nat) (s : State) (r : PodRun) (w : Word) : MicroRes :=
  if bits w 20 2 = 3 then { run := r.setAcc (fieldA w) (s.podIn p (bits w 0 4)) }
  else r.putAcc (fieldA w) (s.operandW p r w)

/-- ST: rounded and saturated, or with WRAP the modular form. -/
def fxSt (_ : State) (r : PodRun) (w : Word) : MicroRes :=
  if bits w 15 1 = 1 then { run := r.setNode (bits w 16 6) (roundQ15 (r.acc (fieldA w))) }
  else ({ run := r } : MicroRes).putQ15 (bits w 16 6) (r.acc (fieldA w))

def fxMpy (p : Nat) (s : State) (r : PodRun) (w : Word) : MicroRes :=
  r.putAcc (fieldA w) (s.product p r (bits w 8 8) (bits w 0 8))

def fxMac (p : Nat) (s : State) (r : PodRun) (w : Word) : MicroRes :=
  r.putAcc (fieldA w) (r.acc (fieldA w) + s.product p r (bits w 8 8) (bits w 0 8))

def fxMsu (p : Nat) (s : State) (r : PodRun) (w : Word) : MicroRes :=
  r.putAcc (fieldA w) (r.acc (fieldA w) - s.product p r (bits w 8 8) (bits w 0 8))

def fxAdd (p : Nat) (s : State) (r : PodRun) (w : Word) : MicroRes :=
  r.putAcc (fieldA w) (r.acc (fieldA w) + s.operandW p r w)

def fxSub (p : Nat) (s : State) (r : PodRun) (w : Word) : MicroRes :=
  r.putAcc (fieldA w) (r.acc (fieldA w) - s.operandW p r w)

def fxNeg (_ : State) (r : PodRun) (w : Word) : MicroRes := r.putAcc (fieldA w) (-(r.acc (fieldA w)))

def fxAbs (_ : State) (r : PodRun) (w : Word) : MicroRes :=
  r.putAcc (fieldA w) ((r.acc (fieldA w)).natAbs : Int)

def fxShl (_ : State) (r : PodRun) (w : Word) : MicroRes :=
  r.putAcc (fieldA w) (r.acc (fieldA w) * 2 ^ bits w 0 4)

def fxShr (_ : State) (r : PodRun) (w : Word) : MicroRes :=
  { run := r.setAcc (fieldA w) (r.acc (fieldA w) / 2 ^ bits w 0 5) }

/-- SAT: the clamp to [−2^(30+K), 2^(30+K) − 1]; a change sets ACCSAT. -/
def fxSat (_ : State) (r : PodRun) (w : Word) : MicroRes :=
  let a := r.acc (fieldA w)
  let k := bits w 0 4
  let v := clampI (-(2 ^ (30 + k))) (2 ^ (30 + k) - 1) a
  { run := r.setAcc (fieldA w) v, acc := v ≠ a }

def fxMin (p : Nat) (s : State) (r : PodRun) (w : Word) : MicroRes :=
  r.putAcc (fieldA w) (min (r.acc (fieldA w)) (s.operandW p r w))

def fxMax (p : Nat) (s : State) (r : PodRun) (w : Word) : MicroRes :=
  r.putAcc (fieldA w) (max (r.acc (fieldA w)) (s.operandW p r w))

def fxLim (_ : State) (r : PodRun) (w : Word) : MicroRes :=
  let a := r.acc (fieldA w)
  let v := r.clampTo (bits w 0 6) a
  { run := r.setAcc (fieldA w) v, lim := v ≠ a }

def fxSel (p : Nat) (s : State) (r : PodRun) (w : Word) : MicroRes :=
  if r.cond (bits w 19 3) then
    r.putAcc (fieldA w) (if bits w 18 1 = 0 then s.srcAcc p r (bits w 0 8) else r.acc (bits w 0 4))
  else { run := r }

def fxCmp (p : Nat) (s : State) (r : PodRun) (w : Word) : MicroRes :=
  let a := r.acc (fieldA w)
  let v := s.operandW p r w
  { run := { r with lt := a < v, eq := a = v, gt := v < a } }

def fxSkip (_ : State) (r : PodRun) (w : Word) : MicroRes :=
  { run := if r.cond (bits w 19 3) then { r with pc := r.pc + bits w 0 8 } else r }

/-- INTEG: the gain term is left out under freeze; the tracking accumulator takes the tracking term once. -/
def fxInteg (p : Nat) (s : State) (r : PodRun) (w : Word) : MicroRes :=
  let a := fieldA w
  let u := uPod p
  let m1 := if r.freeze then { run := r } else r.putAcc a (r.acc a + s.product p r (bits w 8 8) (bits w 0 8))
  let trk := s.on u pod_TRKCFG_EN && s.get u pod_TRKCFG_ACC = a
  let m2 : MicroRes := if trk then
      let m := m1.run.putAcc a (m1.run.acc a + r.track)
      { m with run := { m.run with track := 0 }, acc := m.acc || m1.acc }
    else m1
  let v := m2.run.clampTo (bits w 16 6) (m2.run.acc a)
  { m2 with run := m2.run.setAcc a v, lim := v ≠ m2.run.acc a }

def fxDiff (p : Nat) (s : State) (r : PodRun) (w : Word) : MicroRes :=
  let n := bits w 16 6
  let x := s.src16 p r (bits w 0 8)
  let m := r.putAcc (fieldA w) (x * 32768 - r.node n * 32768)
  { m with run := m.run.setNode n x }

/-- The curve value that LUT takes: 0 where the slot's table is absent (R156). -/
def State.lutValue (s : State) (p : Nat) (r : PodRun) (w : Word) : Option Int :=
  s.curve1 r.bank (s.get (uPod p) (pod_TBL_TABLE (bits w 20 2))) (s.src16 p r (bits w 0 8))

def fxLut (p : Nat) (s : State) (r : PodRun) (w : Word) : MicroRes :=
  r.putAcc (fieldA w) ((s.lutValue p r w).getD 0 * 32768)

/-- The 16-bit angle in a node. -/
def PodRun.angle (r : PodRun) (n : Nat) : Nat := unsigned 16 (r.node n)

def fxSincos (_ : State) (r : PodRun) (w : Word) : MicroRes :=
  let a := r.angle (fieldS w)
  { run := (r.setNode (fieldD w) (sinA a)).setNode (fieldD w + 1) (cosA a) }

def fxClarke (_ : State) (r : PodRun) (w : Word) : MicroRes :=
  let x := r.node (fieldS w)
  let y := r.node (fieldS w + 1)
  ({ run := r.setNode (fieldD w) x } : MicroRes).putQ15 (fieldD w + 1) ((x + 2 * y) * 18919)

def fxPark (_ : State) (r : PodRun) (w : Word) : MicroRes :=
  let x := r.node (fieldS w)
  let y := r.node (fieldS w + 1)
  let a := r.angle (fieldT w)
  (({ run := r } : MicroRes).putQ15 (fieldD w) (x * cosA a + y * sinA a)).putQ15 (fieldD w + 1)
    (-x * sinA a + y * cosA a)

def fxIpark (_ : State) (r : PodRun) (w : Word) : MicroRes :=
  let d := r.node (fieldS w)
  let q := r.node (fieldS w + 1)
  let a := r.angle (fieldT w)
  (({ run := r } : MicroRes).putQ15 (fieldD w) (d * cosA a - q * sinA a)).putQ15 (fieldD w + 1)
    (d * sinA a + q * cosA a)

/-- A node written with a sum over 65,536, rounded half to even and saturated (R149). -/
def MicroRes.putVsd (m : MicroRes) (n : Nat) (v : Int) : MicroRes :=
  let q := roundDiv v 65536
  { m with run := m.run.setNode n (satQ15 q), st := m.st || satQ15 q ≠ q }

def fxVsd (_ : State) (r : PodRun) (w : Word) : MicroRes :=
  let a1 := r.node (fieldS w)
  let b1 := r.node (fieldS w + 1)
  let a2 := r.node (fieldS w + 2)
  let b2 := r.node (fieldS w + 3)
  let d := fieldD w
  let m : MicroRes := { run := r }
  let m := m.putVsd d (32768 * a1 + 28378 * a2 - 16384 * b2)
  let m := m.putVsd (d + 1) (32768 * b1 + 16384 * a2 + 28378 * b2)
  let m := m.putVsd (d + 2) (32768 * a1 - 28378 * a2 + 16384 * b2)
  m.putVsd (d + 3) (-32768 * b1 + 16384 * a2 + 28378 * b2)

/-- A pending output replaced (R136). -/
def putOut (k : Nat) (w : Word) (outs : List (Nat × Word)) : List (Nat × Word) :=
  (outs.filter fun o => o.1 ≠ k) ++ [(k, w)]

/-- OUT: the Q15 value of a source, an accumulator rounded to Q15, or an accumulator saturated to INT32. -/
def fxOut (p : Nat) (s : State) (r : PodRun) (w : Word) : MicroRes :=
  let k := bits w 16 3
  let a := r.acc (fieldA w)
  if bits w 21 1 = 0 then
    { run := { r with outs := putOut k (BitVec.ofInt 32 (s.src16 p r (bits w 0 8))) r.outs } }
  else if s.get (uPod p) (pod_OUTBIND_TYPE k) = 1 then
    { run := { r with outs := putOut k (BitVec.ofInt 32 (sat32 a)) r.outs }, st := sat32 a ≠ a }
  else
    { run := { r with outs := putOut k (BitVec.ofInt 32 (satQ15 (roundQ15 a))) r.outs },
      st := satQ15 (roundQ15 a) ≠ roundQ15 a }

/-! The meanings. -/

def execLd (t p : Nat) (s : State) : Host.Outcome State Fault Refusal := .next ((s.at t).micro p 0x01 (fxLd p))
def execSt (t p : Nat) (s : State) : Host.Outcome State Fault Refusal := .next ((s.at t).micro p 0x02 fxSt)
def execMpy (t p : Nat) (s : State) : Host.Outcome State Fault Refusal := .next ((s.at t).micro p 0x03 (fxMpy p))
def execMac (t p : Nat) (s : State) : Host.Outcome State Fault Refusal := .next ((s.at t).micro p 0x04 (fxMac p))
def execMsu (t p : Nat) (s : State) : Host.Outcome State Fault Refusal := .next ((s.at t).micro p 0x05 (fxMsu p))
def execAdd (t p : Nat) (s : State) : Host.Outcome State Fault Refusal := .next ((s.at t).micro p 0x06 (fxAdd p))
def execSub (t p : Nat) (s : State) : Host.Outcome State Fault Refusal := .next ((s.at t).micro p 0x07 (fxSub p))
def execNeg (t p : Nat) (s : State) : Host.Outcome State Fault Refusal := .next ((s.at t).micro p 0x08 fxNeg)
def execAbs (t p : Nat) (s : State) : Host.Outcome State Fault Refusal := .next ((s.at t).micro p 0x09 fxAbs)
def execShl (t p : Nat) (s : State) : Host.Outcome State Fault Refusal := .next ((s.at t).micro p 0x0A fxShl)
def execShr (t p : Nat) (s : State) : Host.Outcome State Fault Refusal := .next ((s.at t).micro p 0x0B fxShr)
def execSat (t p : Nat) (s : State) : Host.Outcome State Fault Refusal := .next ((s.at t).micro p 0x0C fxSat)
def execMin (t p : Nat) (s : State) : Host.Outcome State Fault Refusal := .next ((s.at t).micro p 0x0D (fxMin p))
def execMax (t p : Nat) (s : State) : Host.Outcome State Fault Refusal := .next ((s.at t).micro p 0x0E (fxMax p))
def execLim (t p : Nat) (s : State) : Host.Outcome State Fault Refusal := .next ((s.at t).micro p 0x0F fxLim)
def execSel (t p : Nat) (s : State) : Host.Outcome State Fault Refusal := .next ((s.at t).micro p 0x10 (fxSel p))
def execCmp (t p : Nat) (s : State) : Host.Outcome State Fault Refusal := .next ((s.at t).micro p 0x11 (fxCmp p))
def execSkip (t p : Nat) (s : State) : Host.Outcome State Fault Refusal := .next ((s.at t).micro p 0x12 fxSkip)
def execInteg (t p : Nat) (s : State) : Host.Outcome State Fault Refusal :=
  .next ((s.at t).micro p 0x13 (fxInteg p))
def execDiff (t p : Nat) (s : State) : Host.Outcome State Fault Refusal := .next ((s.at t).micro p 0x14 (fxDiff p))

/-- What a LUT reads: the table's codewords are decoded (R571), and a LUT that misses reports TBLMISS, with fault 0x0110 under
REACT.SEL0, and the run goes on with 0 (R156). -/
def State.lutReads (p : Nat) (s : State) (r : PodRun) (w : Word) : State :=
  let s := s.touchTable r.bank (s.get (uPod p) (pod_TBL_TABLE (bits w 20 2))) 1
  if (s.lutValue p r w).isNone then ((s.fault (uPod p) 0x0110).raise (uPod p) 3).podReact p 0 else s

def execLut (t p : Nat) (s : State) : Host.Outcome State Fault Refusal :=
  .next ((s.at t).microReading p 0x15 (State.lutReads p) (fxLut p))

def execSincos (t p : Nat) (s : State) : Host.Outcome State Fault Refusal := .next ((s.at t).micro p 0x16 fxSincos)
def execClarke (t p : Nat) (s : State) : Host.Outcome State Fault Refusal := .next ((s.at t).micro p 0x17 fxClarke)
def execPark (t p : Nat) (s : State) : Host.Outcome State Fault Refusal := .next ((s.at t).micro p 0x18 fxPark)
def execIpark (t p : Nat) (s : State) : Host.Outcome State Fault Refusal := .next ((s.at t).micro p 0x19 fxIpark)
def execVsd (t p : Nat) (s : State) : Host.Outcome State Fault Refusal := .next ((s.at t).micro p 0x1A fxVsd)
def execOutOp (t p : Nat) (s : State) : Host.Outcome State Fault Refusal := .next ((s.at t).micro p 0x1B (fxOut p))

end Sys2Proof.Machine
end

