-- ==== Sys2Proof/Machine/Pods.lean ====
section
/-!
DEFINITION. Pods from capture to apply (R159 to R173), set-point ramps (R181 to R187), gain schedules (R188 to R192), the
following-error supervisor (R208 to R213) and the program check (R153).
-/

namespace Sys2Proof.Machine

/-! The program check (R153). -/

/-- A source code in range (R144); `gain` where a gain may stand. -/
def srcOk (gain : Bool) (c : Nat) : Bool := c < 0x50 || (gain && c < 0x58)

/-- Defined opcode, MODE and COND, and zero reserved bits (R153, condition 2). -/
def wordDefined (w : Word) : Bool :=
  let z := fun lo n => bits w lo n = 0
  let addForm := bits w 16 4 = 0 && bits w 20 2 ≠ 3 &&
    (bits w 20 2 = 1 || (z 8 8 && (bits w 20 2 = 0 || z 4 4)))
  match bits w 26 6 with
  | 0x01 => bits w 16 4 = 0 && (bits w 20 2 = 1 || (z 8 8 && (bits w 20 2 = 0 || z 4 4)))
  | 0x02 => z 8 7 && z 0 8
  | 0x03 | 0x04 | 0x05 => z 16 6
  | 0x06 | 0x07 | 0x0D | 0x0E | 0x11 => addForm
  | 0x08 | 0x09 => z 0 22
  | 0x0A | 0x0C => z 4 18
  | 0x0B => z 5 17
  | 0x0F => z 6 16
  | 0x10 => z 16 2 && z 8 8 && (bits w 18 1 = 0 || z 4 4)
  | 0x12 => z 22 4 && z 16 3 && z 8 8
  | 0x13 => true
  | 0x14 => z 8 8
  | 0x15 => z 16 4 && z 8 8
  | 0x16 | 0x17 | 0x1A => z 0 14
  | 0x18 | 0x19 => z 0 8
  | 0x1B => z 19 2 && z 8 8 && (if bits w 21 1 = 0 then z 22 4 else z 0 8)
  | 0x3F => z 0 26
  | _ => false

/-- Every field in range (R153, condition 3). -/
def wordInRange (w : Word) : Bool :=
  let lo := bits w 0 8
  let hi := bits w 8 8
  let node := fun n span => n + span ≤ 64
  match bits w 26 6 with
  | 0x01 | 0x06 | 0x07 | 0x0D | 0x0E | 0x11 => bits w 20 2 ≠ 0 || srcOk true lo
  | 0x03 | 0x04 | 0x05 => srcOk true lo && srcOk true hi
  | 0x0C => bits w 0 4 ≤ 9
  | 0x0F => bits w 0 6 ≤ 62
  | 0x10 => bits w 18 1 = 1 || srcOk true lo
  | 0x12 => 1 ≤ lo
  | 0x13 => bits w 16 6 ≤ 62 && srcOk true lo && srcOk true hi
  | 0x14 | 0x15 => srcOk false lo
  | 0x16 => node (fieldD w) 2
  | 0x17 | 0x18 | 0x19 => node (fieldD w) 2 && node (fieldS w) 2
  | 0x1A => node (fieldD w) 4 && node (fieldS w) 4
  | 0x1B => bits w 21 1 = 1 || srcOk false lo
  | _ => true

/-- The source codes that a word takes as Q15 or accumulator operands (R145). -/
def wordSources (w : Word) : List Nat :=
  let lo := bits w 0 8
  let hi := bits w 8 8
  match bits w 26 6 with
  | 0x01 | 0x06 | 0x07 | 0x0D | 0x0E | 0x11 => if bits w 20 2 = 0 then [lo] else []
  | 0x03 | 0x04 | 0x05 | 0x13 => [hi, lo]
  | 0x10 => if bits w 18 1 = 0 then [lo] else []
  | 0x14 | 0x15 => [lo]
  | 0x1B => if bits w 21 1 = 0 then [lo] else []
  | _ => []

/-- An input bound with a type. -/
def State.inTyped (s : State) (p i type : Nat) : Bool :=
  s.on (uPod p) (pod_INBIND_EN i) && s.get (uPod p) (pod_INBIND_TYPE i) = type

/-- The bindings that a word needs (R153, condition 5). -/
def State.wordTyped (s : State) (p : Nat) (w : Word) : Bool :=
  ((wordSources w).all fun c => c < 0x40 || 0x50 ≤ c || s.inTyped p (c - 0x40) 0) &&
  (!(bits w 26 6 = 0x01 && bits w 20 2 = 3) || s.inTyped p (bits w 0 4) 1) &&
  (!(bits w 26 6 = 0x1B && bits w 21 1 = 0) ||
    (s.get (uPod p) (pod_OUTBIND_KIND (bits w 16 3)) ≠ 0 && s.get (uPod p) (pod_OUTBIND_TYPE (bits w 16 3)) = 0))

/-- A LUT names an enabled slot (R153, condition 6). -/
def State.wordSlot (s : State) (p : Nat) (w : Word) : Bool :=
  bits w 26 6 ≠ 0x15 || s.on (uPod p) (pod_TBL_EN (bits w 20 2))

/-- The first failing condition of the program check, with its index: 0x0101 BADOP to 0x0106 SLOT (R153). -/
def State.progCheck (s : State) (p : Nat) : Option (Nat × Nat) :=
  match (List.range 256).find? fun i => bits (s.progWord p i) 26 6 = 0x3F with
  | none => some (0x0102, 255)
  | some e =>
    let idx := List.range (e + 1)
    let first := fun (code : Nat) (ok : Nat → Bool) => (idx.find? fun i => !(ok i)).map fun i => (code, i)
    (first 0x0101 fun i => wordDefined (s.progWord p i)).orElse fun _ =>
    (first 0x0103 fun i => wordInRange (s.progWord p i)).orElse fun _ =>
    (first 0x0104 fun i => bits (s.progWord p i) 26 6 ≠ 0x12 || i + bits (s.progWord p i) 0 8 ≤ e).orElse fun _ =>
    (first 0x0105 fun i => s.wordTyped p (s.progWord p i)).orElse fun _ =>
    first 0x0106 fun i => s.wordSlot p (s.progWord p i)

/-- ENDIDX: the index of the first END word, 0 where there is none. -/
def State.endIdx (s : State) (p : Nat) : Nat :=
  ((List.range 256).find? fun i => bits (s.progWord p i) 26 6 = 0x3F).getD 0

/-- The bindings of the ramp, the schedule and the supervisor are typed Q15 (R181, R188, R208). -/
def State.auxTyped (s : State) (p : Nat) : Bool :=
  let u := uPod p
  (!(s.on u pod_RAMPCFG_EN) || (s.inTyped p (s.get u pod_RAMPCFG_SPIN) 0 && s.inTyped p (s.get u pod_RAMPCFG_PVIN) 0)) &&
  (!(s.on u pod_SCHCFG_EN) || (s.inTyped p (s.get u pod_SCHCFG_SXIN) 0 &&
    (!(s.on u pod_SCHCFG_SYEN) || s.inTyped p (s.get u pod_SCHCFG_SYIN) 0))) &&
  (!(s.on u pod_FECFG_EN) || (s.inTyped p (s.get u pod_FECFG_REFIN) 0 && s.inTyped p (s.get u pod_FECFG_MEASIN) 0))

/-- Is a list of numbers strictly ascending? -/
def ascending : List Int → Bool
  | a :: b :: r => a < b && ascending (b :: r)
  | _ => true

/-- The schedule's table is present and meets R189. -/
def State.schedOk (s : State) (p : Nat) : Bool :=
  let u := uPod p
  !(s.on u pod_SCHCFG_EN) ||
  match s.sched s.activeBank (s.get u pod_SCHCFG_TABLE) with
  | none => false
  | some t => 1 ≤ t.bx && t.bx ≤ 16 && 1 ≤ t.by_ && t.by_ ≤ 16 && (s.on u pod_SCHCFG_SYEN || t.by_ = 1) &&
      1 ≤ t.ng && t.ng ≤ 8 && ascending t.ex && ascending t.ey

/-! The ramp (R182 to R186). -/

/-- The sign of an integer. -/
def sgn (v : Int) : Int := if v < 0 then -1 else if v = 0 then 0 else 1

/-- One step of the ramp (R184): the new W and Rt, before the 32-bit range is applied. -/
def rampStep (slope jerk : Nat) (t w r : Int) : Int × Int :=
  let e := t - w
  let sl : Int := slope
  if jerk = 0 then
    let r := clampI (-sl) sl e
    (w + r, r)
  else
    let sg := sgn e
    let brake := r * r / (2 * (jerk : Int))
    let r' :=
      if sg = 0 || (0 < r * sg && (e.natAbs : Int) ≤ brake + r.natAbs) then
        clampI (-sl) sl (r - sgn r * min (jerk : Int) r.natAbs)
      else clampI (-sl) sl (r + sg * jerk)
    if 0 < r' * sg && e.natAbs ≤ r'.natAbs then (t, 0) else (w + r', r')

/-- W saturated to 32 bits, with Rt 0 where it was out of range (R184). -/
def rampSat (x : Int × Int) : Int × Int := if sat32 x.1 = x.1 then x else (sat32 x.1, 0)

/-- The value of W that a run reads (R182). -/
def rampRead (w : Int) : Int := satQ15 (roundDiv w 65536)

/-- RAMPSTAT.ACTIVE follows the committed W and Rt and the last captured target (R186); with RAMPCFG.EN 0 it reads 0 (DESIGN CHOICE,
log entry 115). -/
def State.rampActive (s : State) (p : Nat) : State :=
  let u := uPod p
  s.set u pod_RAMPSTAT_ACTIVE
    (if s.on u pod_RAMPCFG_EN && (s.geti u pod_RAMPW_VALUE ≠ (s.pod p).rampT || s.geti u pod_RAMPR_VALUE ≠ 0) then 1 else 0)

/-- The ramp at a capture (R183, R184). A seed request that came before the capture is met by it, also where no ramp is in force. -/
def State.rampCapture (s : State) (p : Nat) : State :=
  let u := uPod p
  if s.on u pod_RAMPCFG_EN then
    let t := s.podIn p (s.get u pod_RAMPCFG_SPIN) * 65536
    let seed := (s.pod p).seedNext || s.on u pod_RAMPCTL_SEED
    let x := if seed then (s.podIn p (s.get u pod_RAMPCFG_PVIN) * 65536, 0)
      else rampSat (rampStep (s.get u pod_RSLOPE_RATE) (s.get u pod_RJERK_STEP) t (s.geti u pod_RAMPW_VALUE)
        (s.geti u pod_RAMPR_VALUE))
    (s.modPod p fun h => { h with rampW := some x, rampSeed := seed, rampT := t, seedNext := false }).rampActive p
  else s.modPod p fun h => { h with rampW := none, seedNext := false }

/-- The ramp at the commit (R183, R186). -/
def State.rampCommit (s : State) (p : Nat) : State :=
  let u := uPod p
  match (s.pod p).rampW with
  | none => s
  | some (w, r) =>
    let t := (s.pod p).rampT
    let was := s.geti u pod_RAMPW_VALUE ≠ t || s.geti u pod_RAMPR_VALUE ≠ 0
    let s := (s.seti u pod_RAMPW_VALUE w).seti u pod_RAMPR_VALUE r
    let s := if (s.pod p).rampSeed then
        (s.set u pod_RAMPCTL_SEED 0).cor u pod_RAMPSTAT_SEEDED 1
      else s
    let s := s.rampActive p
    if was && w = t && r = 0 then s.raise u 10 else s

/-! Gain schedules (R190 to R192). -/

/-- The region of an axis that holds a value (R190). -/
def plainRegion (v : Int) (edges : List Int) : Nat := (edges.takeWhile (· ≤ v)).length

/-- The region decision of an axis (R190); edge k of the rule is element k − 1 here. -/
def decideRegion (h : Int) (v : Int) (k : Nat) (edges : List Int) : Nat :=
  let above := k = 0 || edges.getD (k - 1) 0 - h ≤ v
  let below := edges.length ≤ k || v < edges.getD k 0 + h
  if above && below then k else plainRegion v edges

/-- The region decision at a capture (R190, R192). -/
def State.schedCapture (s : State) (p : Nat) : State :=
  let u := uPod p
  if !(s.on u pod_SCHCFG_EN) then s else
  let bank := (s.pod p).bank
  let s := s.touchTable bank (s.get u pod_SCHCFG_TABLE) 3
  match s.sched bank (s.get u pod_SCHCFG_TABLE) with
  | none =>
    let s := s.modPod p fun h => { h with region := none, ranBank := none }
    ((s.raise u 12).fault u 0x0130).podReact p 0
  | some t =>
    let x := s.podIn p (s.get u pod_SCHCFG_SXIN)
    let y := s.podIn p (s.get u pod_SCHCFG_SYIN)
    let plain := !(s.on u pod_SCHSTAT_VALID) || (s.pod p).ranBank ≠ some bank
    let kx := s.get u pod_SCHSTAT_RX
    let ky := s.get u pod_SCHSTAT_RY
    let rx := if plain then plainRegion x t.ex else decideRegion (s.get u pod_SCHHYS_HYSX) x kx t.ex
    let ry := if !(s.on u pod_SCHCFG_SYEN) then 0
      else if plain then plainRegion y t.ey else decideRegion (s.get u pod_SCHHYS_HYSY) y ky t.ey
    s.modPod p fun h => { h with region := some (rx, ry, plain || rx ≠ kx || ry ≠ ky) }

/-- The region at the run start (R191). -/
def State.schedLoad (s : State) (p : Nat) : State :=
  let u := uPod p
  match (s.pod p).region with
  | none => s
  | some (rx, ry, load) =>
    let bank := (s.pod p).bank
    match s.sched bank (s.get u pod_SCHCFG_TABLE) with
    | none => s
    | some t =>
      let r := ry * t.bx + rx
      let valid := s.on u pod_SCHSTAT_VALID
      let change := valid && (s.get u pod_SCHSTAT_RX ≠ rx || s.get u pod_SCHSTAT_RY ≠ ry)
      let s := if load then forN (min t.ng 8) (fun g s =>
          let w := s.tw bank (t.gains + 4 * (r * t.ng + g))
          s.hwUpdate u (0xE0 + 4 * g) fun s =>
            (s.set u (pod_GAIN_MANT g) (bits w 0 16)).set u (pod_GAIN_SHIFT g) (bits w 16 4)) s
        else s
      let s := (s.set u pod_SCHSTAT_VALID 1).set u pod_SCHSTAT_NG t.ng
      let s := ((s.set u pod_SCHSTAT_RX rx).set u pod_SCHSTAT_RY ry).set u pod_SCHSTAT_REGION r
      let s := s.modPod p fun h => { h with ranBank := some bank, region := none }
      if change then (s.inc u pod_SCHCHG_COUNT).raise u 11 else s

/-! The following-error supervisor (R208 to R212). -/

/-- The following difference (R209). -/
def followDiff (wrap : Bool) (r m : Int) : Int := if wrap then (r - m + 32768) % 65536 - 32768 else r - m

/-- The series ends (R211). -/
def State.followClear (s : State) (p : Nat) : State :=
  (s.set (uPod p) pod_FESTAT_EXCESS 0).set (uPod p) pod_FESTAT_FOLLOW 0

/-- The supervisor at a capture. -/
def State.followCapture (s : State) (p : Nat) : State :=
  let u := uPod p
  if !(s.on u pod_FECFG_EN) then s else
  let ri := s.get u pod_FECFG_REFIN
  let r := match s.on u pod_RAMPCFG_EN && s.get u pod_RAMPCFG_SPIN = ri, (s.pod p).rampW with
    | true, some (w, _) => rampRead w
    | _, _ => s.podIn p ri
  let d := followDiff (s.on u pod_FECFG_WRAP) r (s.podIn p (s.get u pod_FECFG_MEASIN))
  let s := s.seti u pod_FELAST_VALUE d
  let s := if s.get u pod_FEPEAK_VALUE < d.natAbs then s.cor u pod_FEPEAK_VALUE d.natAbs else s
  if !(s.inMode .run) then s.followClear p
  else if d.natAbs ≤ s.get u pod_FELIM_LIM then s.followClear p
  else
    let s := if s.on u pod_FESTAT_EXCESS then s
      else ((s.set u pod_FESTAT_EXCESS 1).set u pod_FESTART_STAMP s.stamp).raise u 14
    let elapsed := (s.stamp + 2 ^ 32 - s.get u pod_FESTART_STAMP) % 2 ^ 32
    if elapsed < s.get u pod_FETIME_TICKS then s
    else if s.on u pod_FESTAT_FOLLOW then s
    else
      let s := (s.set u pod_FESTAT_FOLLOW 1).fault u 0x0150
      let s := (s.raise u 13).inc u pod_FECNT_COUNT
      s.podReact p 2

/-! Capture, dispatch, END and apply. -/

/-- The inputs of a capture (R135). -/
def State.captureIns (s : State) (p : Nat) : State :=
  forN 16 (fun i s =>
    if s.on (uPod p) (pod_INBIND_EN i) then
      let n := s.get (uPod p) (pod_INBIND_SIG i)
      (s.sigParity n).setW ((uPod p).addr (0x380 + 4 * i)) (s.sig n)
    else s.setW ((uPod p).addr (0x380 + 4 * i)) 0) s

/-- Committed state replaced by the record of a rally frame (R490): the named accumulators, low word first, then the named
node groups. A hardware update of committed state (R101); a group of four accumulators not wholly replaced whose codeword
is uncorrectable keeps its words (R572). -/
def State.mirrorAcc (s : State) (p a : Nat) (lo hi : Word) (whole : Bool) : State :=
  let (ok, s) := if whole then (true, s.clean (40 * p + 36 + a / 4)) else s.decode (40 * p + 36 + a / 4)
  if !ok then s.inc uPscrub psc_UNCDROP_COUNT else
  let u := uPod p
  let s := s.hwUpdate u (pod_ACCLO_VALUE a).off fun s => s.set u (pod_ACCLO_VALUE a) lo.toNat
  s.hwUpdate u (pod_ACCHI_VALUE a).off fun s => s.set u (pod_ACCHI_VALUE a) (hi.toNat % 256)

/-- The words of a record for a list of accumulators. -/
def State.mirrorAccs (s : State) (p mask : Nat) : List Nat → List Word → State × List Word
  | [], ws => (s, ws)
  | a :: l, ws =>
    if mask.testBit a then
      (s.mirrorAcc p a (ws.getD 0 0) (ws.getD 1 0) (mask / 2 ^ (a / 4 * 4) % 16 = 15)).mirrorAccs p mask l (ws.drop 2)
    else s.mirrorAccs p mask l ws

/-- The words of a record for a list of node groups. -/
def State.mirrorNodes (s : State) (p mask : Nat) : List Nat → List Word → State
  | [], _ => s
  | g :: l, ws =>
    if mask.testBit g then
      let s := s.clean (40 * p + 32 + g)
      let u := uPod p
      let s := forN 16 (fun k s =>
        let w := ws.getD (k / 2) 0
        let v := if k % 2 = 0 then lo16 w else hi16 w
        s.hwUpdate u (pod_NODE_VALUE (16 * g + k)).off fun s => s.seti u (pod_NODE_VALUE (16 * g + k)) v) s
      s.mirrorNodes p mask l (ws.drop 8)
    else s.mirrorNodes p mask l ws

/-- A waiting record of a rally frame is applied at the pod's capture (R490). -/
def State.mirrorPod (s : State) (p : Nat) : State :=
  match sget (fun _ => []) s.podRecs p with
  | [] => s
  | h :: ws =>
    let s := { s with podRecs := serase s.podRecs p }
    let (s, ws) := s.mirrorAccs p (bits h 0 16) (List.range 16) ws
    s.mirrorNodes p (bits h 20 4) (List.range 4) ws

/-- POD_CAPTURE: inputs, the freeze word, the tracking term, the ramp step and the region decision, at e + CAPOFS of the
interval that the cadence event started (R160). -/
def execPodCapture (t p : Nat) (s : State) : Host.Outcome State Fault Refusal :=
  let s := s.at t
  let u := uPod p
  match (s.pod p).event with
  | none => .next s
  | some e =>
    if (s.pod p).captured || !(s.runsMode) || !(s.enabled u) || !(s.due (e + s.get u pod_CAPOFS_TICKS)) then .next s else
    let s := (s.mirrorPod p).captureIns p
    let frz := s.on u pod_FRZ_EN && s.sig (s.get u pod_FRZ_SIG) ≠ 0
    let s := if s.on u pod_FRZ_EN then s.sigParity (s.get u pod_FRZ_SIG) else s
    let term := sget (fun _ => 0) s.terms p
    let s := (s.set u pod_TRKTLO_VALUE (unsigned 32 term)).set u pod_TRKTHI_VALUE (unsigned 8 (term / 2 ^ 32))
    let s := s.modPod p fun h => { h with captured := true, freeze := frz, term := term, readyAt := s.tick }
    let s := (s.rampCapture p).schedCapture p
    let s := s.followCapture p
    -- a reaction of this capture that ended the interval leaves nothing to run
    if (s.pod p).captured then
      .next { s.set u hdr_USTAT_STATE 1 with ready := s.ready ++ [p] }
    else .next s

/-- Is a lane in dispatch (R175, R177, R625)? -/
def State.laneOpen (s : State) (n : Nat) : Bool :=
  s.enabled (uLane n) && !(s.laneAway.contains n) && !(s.laneBad.contains n) && s.get (uLane n) hdr_USTAT_STATE = 0 &&
    !(s.on (uLane n) ln_LNSTAT_RUNNING) && s.runsMode &&
    (n < 8 || (n = 8 && s.get uLaneSh lnsh_ROTSTAT_SUBST < 8))

/-- May a lane take a pod (R162, R175)? -/
def State.laneTakes (s : State) (n p : Nat) : Bool :=
  !(s.on (uPod p) pod_PCFG_AFFEN) ||
    s.get (uPod p) pod_PCFG_AFFLANE = (if n = 8 then s.get uLaneSh lnsh_ROTSTAT_SUBST else n)

/-- Does pod `a` go before pod `b` (R162)? -/
def State.goesBefore (s : State) (a b : Nat) : Bool :=
  let pa := s.get (uPod a) pod_PCFG_PRIO
  let pb := s.get (uPod b) pod_PCFG_PRIO
  let ra := (s.pod a).readyAt
  let rb := (s.pod b).readyAt
  pb < pa || (pa = pb && (ra < rb || (ra = rb && a < b)))

/-- The pod that a lane takes from a ready set (R162). -/
def State.pickPod (s : State) (n : Nat) : List Nat → Option Nat
  | [] => none
  | p :: ps =>
    match s.pickPod n ps with
    | none => if s.laneTakes n p then some p else none
    | some q => if s.laneTakes n p && s.goesBefore p q then some p else some q

/-- A committed accumulator of a pod. -/
def State.podAcc (s : State) (p a : Nat) : Int :=
  signed 40 (s.get (uPod p) (pod_ACCLO_VALUE a) + 2 ^ 32 * s.get (uPod p) (pod_ACCHI_VALUE a))

/-- The run start (R131): the working copy, the gains of this run and the flags. -/
def State.startRun (s : State) (n p : Nat) : State :=
  let u := uPod p
  let s := { s with ready := s.ready.filter (· ≠ p) }
  let (ok, s) := s.decodeAll ((List.range 8).map fun k => 40 * p + 32 + k)
  if !ok then s.podEcc p else
  let s := s.schedLoad p
  let h := s.pod p
  let run : PodRun := {
    lane := n
    nodes := (List.range 64).foldl (fun m k => sset (fun _ => 0) m k (s.geti u (pod_NODE_VALUE k))) []
    accs := (List.range 16).foldl (fun m k => sset (fun _ => 0) m k (s.podAcc p k)) []
    gains := (List.range 8).map fun k => (s.geti u (pod_GAIN_MANT k), s.get u (pod_GAIN_SHIFT k))
    freeze := h.freeze
    track := h.term
    bank := h.bank
    setp := h.rampW.map fun x => (s.get u pod_RAMPCFG_SPIN, rampRead x.1)
    started := s.tick }
  let s := s.modPod p fun h => { h with run := some run }
  let s := ((s.set u pod_RUNSTAT_RUNNING 1).set u pod_RUNSTAT_LANE n).set u hdr_USTAT_STATE 2
  let l := uLane n
  ((s.set l ln_LNSTAT_RUNNING 1).set l ln_LNSTAT_POD p).set l hdr_USTAT_STATE 1

/-- POD_DISPATCH: a lane that is free takes a pod from the ready set (R162, R163). -/
def execPodDispatch (t n : Nat) (s : State) : Host.Outcome State Fault Refusal :=
  let s := s.at t
  if !(s.laneOpen n) then .next s else
  match s.pickPod n s.ready with
  | none => .next s
  | some p => .next (s.startRun n p)

/-- The margin gauge of a lane at the END of a run (R63, R64). MGLOW is raised at every run whose slack lies below MGWARN, not only at
the first (DESIGN CHOICE, log entry 116). -/
def State.gauge (s : State) (n p slack : Nat) : State :=
  let u := uLane n
  let v := min slack (2 ^ 28 - 1)
  let s := s.set u ln_MGLAST_TICKS v
  let s := if v < s.get u ln_MGMIN_TICKS then (s.set u ln_MGMIN_TICKS v).set u ln_MGPOD_POD p else s
  if v < s.get u ln_MGWARN_TICKS then s.raise u 1 else s

/-- MGCTL.CLR (R65). -/
def State.gaugeClear (s : State) (n : Nat) : State :=
  (s.set (uLane n) ln_MGMIN_TICKS 0x0FFFFFFF).set (uLane n) ln_MGPOD_POD 0

/-- The commit (R131 step 5, R132). -/
def State.commit (s : State) (p : Nat) (r : PodRun) : State :=
  let u := uPod p
  let s := forN 64 (fun k s => s.seti u (pod_NODE_VALUE k) (r.node k)) s
  let s := forN 16 (fun k s =>
    (s.set u (pod_ACCLO_VALUE k) (unsigned 32 (r.acc k))).set u (pod_ACCHI_VALUE k) (unsigned 8 (r.acc k / 2 ^ 32))) s
  let s := forN 8 (fun k s => s.clean (40 * p + 32 + k)) s
  let s := (s.inc u pod_RUNCNT_COUNT).set u pod_LASTEND_STAMP s.stamp
  let s := s.set u pod_OVR_CONSEC 0
  let l := uLane r.lane
  let s := (s.inc l ln_RUNS_COUNT).incBy l ln_BUSYT_TICKS (s.tick - r.started)
  let s := (s.set u pod_RUNSTAT_RUNNING 0).laneFree r.lane
  let s := s.set u hdr_USTAT_STATE 0
  let s := s.rampCommit p
  let s := match (s.pod p).event with
    | some e => s.gauge r.lane p (e + s.get u pod_APPLY_TICKS - s.tick)
    | none => s
  s.modPod p fun h => { h with run := none, staged := some r.outs, reacted := false, rampW := none }

/-- END: the run ends and commits (R132). -/
def execEndRun (t p : Nat) (s : State) : Host.Outcome State Fault Refusal :=
  let s := s.at t
  match (s.pod p).run with
  | none => .next s
  | some r =>
    if bits (s.progWord p r.pc) 26 6 ≠ 0x3F then .next s else
    let (ok, s) := s.decode (40 * p + r.pc % 256 / 8)
    if ok then .next (s.commit p r) else .next (s.podEcc p)

/-- An overrun (R170, R171). -/
def State.overrun (s : State) (p : Nat) : State :=
  let u := uPod p
  let s := s.dropRun p
  let s := s.inc u pod_OVRCNT_COUNT
  let s := (s.incSat u pod_OVR_CONSEC).raise u 8
  if atLeast1 (s.get u pod_OVR_LIM) ≤ s.get u pod_OVR_CONSEC && !((s.pod p).reacted) then
    let s := s.modPod p fun h => { h with reacted := true }
    ((s.fault u 0x0120).raise u 9).podReact p 1
  else s

/-- The apply of a pod whose instant has come (R160, R170): the outputs of a run that reached END are latched, where no HOLD holds
them (R171); otherwise the run is an overrun. -/
def State.podApply (s : State) (p : Nat) : State :=
  let s := s.urgentAll 1 p
  match (s.pod p).staged with
  | none => s.overrun p
  | some outs =>
    let s := s.modPod p fun h => { h with event := none, staged := none, captured := false }
    if s.isHeld (uPod p) then s else
    let s := s.modPod p fun h => { h with latched := (outs.map (·.1) ++ h.latched).eraseDups }
    forL outs (fun o s => s.latchOut p o.1 o.2) s

/-- Has the apply instant of a pod come? -/
def State.applyDue (s : State) (p : Nat) : Bool :=
  match (s.pod p).event with
  | none => false
  | some e => s.due (e + s.get (uPod p) pod_APPLY_TICKS)

/-- POD_APPLY: at e + APPLY (R160, R170). -/
def execPodApply (t p : Nat) (s : State) : Host.Outcome State Fault Refusal :=
  let s := s.at t
  .next (if s.applyDue p then s.podApply p else s)

/-- The applies that have come for runs that reached END (R41). -/
def State.appliesDue (s : State) : State :=
  forL (s.pods.map (·.1)) (fun p s => if s.applyDue p && (s.pod p).staged.isSome then s.podApply p else s) s

/-- A pod is started by an event of its cadence (R159, R160): the run is matched to the bank in force (R40). -/
def State.startPod (s : State) (p : Nat) : State :=
  let s := s.dropRun p
  let b := s.activeBank
  s.modPod p fun h => { h with event := some s.tick, bank := b }

/-- Entry to a mode without runs abandons the runs in progress (R173). -/
def State.dropAllRuns (s : State) : State :=
  let s := forL (s.pods.map (·.1)) (fun p s => s.dropRun p) s
  { s with ready := [] }

/-- The first capture at or after an entry to RUN seeds (R183). -/
def State.seedAll (s : State) : State :=
  forN 128 (fun p s => s.modPod p fun h => { h with seedNext := true }) s

/-! Intervals (R61, R166, R172) and what every load point does. -/

/-- Do a pod's offsets fit an interval (R61, R166)? -/
def State.podFits (s : State) (p interval : Nat) : Bool :=
  s.get (uPod p) pod_CAPOFS_TICKS < s.get (uPod p) pod_APPLY_TICKS && s.get (uPod p) pod_APPLY_TICKS < interval &&
    4000 ≤ interval

/-- Is a pod one that its cadence starts (R159)? -/
def State.podStands (s : State) (p : Nat) : Bool :=
  s.enabled (uPod p) && s.on (uPod p) pod_PROGSTAT_OK && !(s.failedCheck.contains (uPod p).page)

/-- A new interval begins: a pod that no longer fits it records 0x0121 OFSFIT and takes the reaction of SEL1 at once (R172). -/
def State.podFitTest (s : State) (p interval : Nat) : State :=
  let fits := s.podFits p interval
  let was := (s.pod p).unfit
  let s := s.modPod p fun h => { h with unfit := !fits }
  if fits || was then s else (s.fault (uPod p) 0x0121).podReact p 1

/-- A cadence begins an interval: where it differs from the one before, its pods are tested in every mode (R61, R166, R172). -/
def State.intervalBegins (s : State) (cad interval : Nat) : State :=
  if (s.cad cad).last = interval then s else
  let s := s.modCad cad fun h => { h with last := interval }
  forN 128 (fun p s => if s.get (uPod p) pod_PCFG_CAD = cad && s.podStands p then s.podFitTest p interval else s) s

/-- At a load point a new carrier period begins, and with it a new interval of the generators slaved to it (R61). -/
def State.intervalsFollow (s : State) (st : Nat) : State :=
  forN 16 (fun n s =>
    let h := s.cad n
    if s.cadRuns n && h.slaved && s.lead h.src = st && h.last ≠ 0 then
      (match s.cadInterval n with
       | some i => s.intervalBegins n i
       | none => s)
    else s) s

/-- A load point of a stage: the applies of its tick have latched before it uses the references (R41), its interpolators take
the newest calibration (R54), and a transition out of RUN ends the commands here (R78). -/
def State.loadPoint (s : State) (st : Nat) : State := (s.appliesDue.dlLoad st).loadLow st

end Sys2Proof.Machine
end

