-- ==== Sys2Proof/Machine/Lanes.lean ====
section
/-!
DEFINITION. The rotating lane test (R174 to R177, R625) and the full logic self-test (R178).
-/

namespace Sys2Proof.Machine

/-- A lane fails its test (R177). -/
def State.laneFail (s : State) (n step : Nat) : State :=
  let u := uLane n
  let s := ((s.set u ln_STSTAT_RESULT 2).set u ln_STSTAT_FAILSTEP step).set u hdr_USTAT_STATE 3
  let s := (s.fault u 0x0201).raise u 0
  let s := s.suspend
  s.react u 0

/-- Leaving the rotating modes: no lane is under test. -/
def State.rotationLeave (s : State) : State :=
  let x := s.get uLaneSh lnsh_ROTSTAT_TEST
  let s := (s.set uLaneSh lnsh_ROTSTAT_TEST 15).set uLaneSh lnsh_ROTSTAT_SUBST 15
  { s with laneAway := [] }.laneReturns x

/-- A lane's effective enable has changed (R625). -/
def State.laneEnableChanged (s : State) : State :=
  if !(s.runsMode) then s else
  let s := s.lanesAway
  if (List.range 9).any fun n => s.laneOut n then s.suspend else s

/-- ROTATION_TICK (R175): the lane under test returns, and the next lane stops accepting runs and is tested. A test that has
not completed by now has failed (R176); it has not ended, and STSTAMP keeps the end of the last test (DESIGN CHOICE, log entry 117). -/
def execRotationTick (t : Nat) (s : State) : Host.Outcome State Fault Refusal :=
  let s := s.at t
  if !(s.rotates) || s.tick % 800000 ≠ 0 then .next s else
  let y := s.get uLaneSh lnsh_ROTSTAT_TEST
  let s := if y < 9 && s.get (uLane y) hdr_USTAT_STATE = 2 then
      (if s.get (uLane y) ln_STSTAT_RESULT = 3 then s.laneFail y 0 else s.laneReturns y)
    else s
  let s := s.lanesBack
  if (List.range 9).any fun n => s.laneOut n then .next s.suspend else
  let s := (s.set uLaneSh lnsh_ROTSTAT_SUSP 0).lossFollow
  let x := s.rotNext % 9
  let s := { s with rotNext := (x + 1) % 9, testAt := s.tick }
  let s := (s.inc uLaneSh lnsh_ROTCNT_COUNT).set uLaneSh lnsh_ROTSTAT_TEST x
  let s := s.set uLaneSh lnsh_ROTSTAT_SUBST (if x < 8 then x else 15)
  .next ((s.set (uLane x) hdr_USTAT_STATE 2).set (uLane x) ln_STSTAT_RESULT 3)

/-- LANE_TEST_DONE (R176, R177): the test of the lane whose turn it is ends, with the first failing program. -/
def execLaneTestDone (t : Nat) (pass : Bool) (step : Nat) (s : State) : Host.Outcome State Fault Refusal :=
  let s := s.at t
  let n := s.get uLaneSh lnsh_ROTSTAT_TEST
  if 9 ≤ n || s.get (uLane n) ln_STSTAT_RESULT ≠ 3 || s.on (uLane n) ln_LNSTAT_RUNNING then .next s else
  let u := uLane n
  let s := (s.set u ln_STSTAMP_STAMP s.stamp).set u ln_STDUR_TICKS (min (s.tick - s.testAt) (2 ^ 20 - 1))
  if pass then .next (((s.set u ln_STSTAT_RESULT 1).set u ln_STSTAT_FAILSTEP 0).inc u ln_STCNT_COUNT)
  else .next (s.laneFail n step)

/-- LBIST_START (R178): LBISTCMD.GO, refused with cause MODE outside CONFIG. -/
def State.lbistStart (s : State) : State :=
  if s.on uLaneSh lnsh_LBISTCMD_GO then s
  else if !(s.inMode .config) then
    (s.cause uLaneSh lnsh_LBISTRES_CAUSE 1).cor uLaneSh lnsh_LBISTRES_REFUSED 1
  else s.set uLaneSh lnsh_LBISTCMD_GO 1

/-- LBIST_DONE (R178): `fail` is the map of lanes that failed. One failed lane goes out of service as in R177; two or more
are MULTIFAIL. A lane that passes is in service again after a configuration reset (R177). A test that a mode change has overtaken goes
on and ends so in the mode then in force (DESIGN CHOICE, log entry 118). -/
def execLbistDone (t fail : Nat) (s : State) : Host.Outcome State Fault Refusal :=
  let s := s.at t
  if !(s.on uLaneSh lnsh_LBISTCMD_GO) then .next s else
  let s := (s.set uLaneSh lnsh_LBISTCMD_GO 0).set uLaneSh lnsh_LBISTMAP_FAIL fail
  let bad := (List.range 9).filter fun n => fail.testBit n
  let s := { s with laneBad := s.laneBad.filter fun n => bad.contains n }
  let s := forL bad (fun n s =>
    let u := uLane n
    let s := s.set u hdr_USTAT_STATE 3
    ((s.fault u 0x0201).raise u 0).react u 0) s
  let s := if bad = [] then s else s.cause uLaneSh lnsh_LBISTRES_CAUSE 2
  let s := (s.cor uLaneSh lnsh_LBISTRES_DONE 1).raise uLaneSh 0
  if 2 ≤ bad.length then .next (s.faultR uLaneSh 0x0202 0) else .next s

end Sys2Proof.Machine
end

