-- ==== Sys2Proof/Machine/Arenas.lean ====
section
/-!
DEFINITION. Arenas (R194 to R204): competitor entries, decisions, publication and the tracking terms. Arena `a` is block
`a % 4` of quad `a / 4`.
-/

namespace Sys2Proof.Machine

/-- The quad of an arena. -/
def uQuad (a : Nat) : Unit := ⟨.arenaQuad, a / 4⟩

/-- QERR records a configuration error (R207). -/
def State.quadErr (s : State) (a cause comp : Nat) : State :=
  let u := uQuad a
  let s := s.first u arq_QERR_ERR arq_QERR_CAUSE cause
  let s := s.first u arq_QERR_ERR arq_QERR_ARENA (a % 4)
  let s := s.first u arq_QERR_ERR arq_QERR_COMP comp
  s.cor u arq_QERR_ERR 1

/-- Does an arena decide (R197)? -/
def State.arenaOn (s : State) (a : Nat) : Bool := s.on (uQuad a) (arq_ACFG_EN (a % 4)) && s.enabled (uQuad a)

/-- The arena and competitor of the enabled entry that names a pod (R195). -/
def State.podEntry (s : State) (p : Nat) : Option (Nat × Nat) :=
  ((List.range 128).find? fun i =>
    let a := i / 8
    s.on (uQuad a) (arq_ACOMP_EN (a % 4) (i % 8)) && s.get (uQuad a) (arq_ACOMP_KIND (a % 4) (i % 8)) = 0 &&
      s.get (uQuad a) (arq_ACOMP_POD (a % 4) (i % 8)) = p).map fun i => (i / 8, i % 8)

/-- The value of a competitor: the latched output, or the request word (R195). -/
def State.compValue (s : State) (a c : Nat) : Int :=
  let u := uQuad a
  if s.get u (arq_ACOMP_KIND (a % 4) c) = 1 then s.geti u (arq_AREQ_VALUE (a % 4) c)
  else lo16 (s.getW ((uPod (s.get u (arq_ACOMP_POD (a % 4) c))).addr (0x3C0 + 4 * s.get u (arq_ACOMP_OUT (a % 4) c))))

/-- Is an entry an enabled pod output of type INT32 (R196)? -/
def State.compInt (s : State) (a c : Nat) : Bool :=
  let u := uQuad a
  s.on u (arq_ACOMP_EN (a % 4) c) && s.get u (arq_ACOMP_KIND (a % 4) c) = 0 &&
    s.on (uPod (s.get u (arq_ACOMP_POD (a % 4) c))) (pod_OUTBIND_TYPE (s.get u (arq_ACOMP_OUT (a % 4) c)))

/-- Is a competitor valid (R196)? -/
def State.compValid (s : State) (a c : Nat) : Bool :=
  let u := uQuad a
  s.arenaOn a && s.on u (arq_ACOMP_EN (a % 4) c) &&
  if s.get u (arq_ACOMP_KIND (a % 4) c) = 1 then s.on u (arq_AREQ_ACTIVE (a % 4) c)
  else
    let p := s.get u (arq_ACOMP_POD (a % 4) c)
    let k := s.get u (arq_ACOMP_OUT (a % 4) c)
    s.enabled (uPod p) && s.on (uPod p) pod_PROGSTAT_OK && !(s.compInt a c) && (s.pod p).latched.contains k

/-- The key of a competitor (R198). -/
def State.compKey (s : State) (a c : Nat) : Int :=
  if s.on (uQuad a) (arq_ACFG_MODE (a % 4)) then (s.compValue a c).natAbs else s.compValue a c

/-- The winner among competitors: the lowest key, then the lowest index (R198). -/
def State.arenaWinner (s : State) (a : Nat) : List Nat → Option Nat
  | [] => none
  | c :: cs =>
    match s.arenaWinner a cs with
    | none => some c
    | some d => if s.compKey a c ≤ s.compKey a d then some c else some d

/-- The value and index signals of an arena, where their bindings stand (R198, R200). -/
def State.arenaPublish (s : State) (a : Nat) (v : Option Int) (i : Int) : State :=
  let u := uQuad a
  let j := a % 4
  let put := fun (s : State) (sig inst : Nat) (w : Word) =>
    s.drive 4 inst sig w
  let s := match v with
    | some v => if s.on u (arq_APUB_VALEN j) then put s (s.get u (arq_APUB_VALSIG j)) (2 * a) (BitVec.ofInt 32 v) else s
    | none => s
  if s.on u (arq_APUB_IDXEN j) then put s (s.get u (arq_APUB_IDXSIG j)) (2 * a + 1) (BitVec.ofInt 32 i) else s

/-- The TYPE errors that a decision finds for the first time (R196). -/
def State.arenaTypes (s : State) (a : Nat) : State :=
  forN 8 (fun c s =>
    if s.compInt a c && !(s.typeSeen.contains (8 * a + c)) then
      let s := { s with typeSeen := s.typeSeen ++ [8 * a + c] }
      ((s.quadErr a 2 c).raise (uQuad a) (4 * (a % 4) + 2)).faultR (uQuad a) 0x0142 0
    else s) s

/-- The terms of an arena's members are 0 (R202), and none of them has won: WIN is cleared also where its arena is disabled (DESIGN
CHOICE, log entry 119). -/
def State.clearTerms (s : State) (a : Nat) : State :=
  forN 8 (fun c s =>
    let u := uQuad a
    if s.on u (arq_ACOMP_EN (a % 4) c) && s.get u (arq_ACOMP_KIND (a % 4) c) = 0 then
      let p := s.get u (arq_ACOMP_POD (a % 4) c)
      { s.set (uPod p) pod_TRKSTAT_WIN 0 with terms := serase s.terms p }
    else s) s

/-- The tracking term of a losing competitor (R202). -/
def State.trackTerm (s : State) (p : Nat) (w o : Int) : Int :=
  satAcc ((w - o) * (s.get (uPod p) pod_TRKGAIN_MANT : Int) * 2 ^ s.get (uPod p) pod_TRKGAIN_SHIFT)

/-- The terms after a decision that `win` won with value `v` (R202). -/
def State.setTerms (s : State) (a win : Nat) (v : Int) (valid : List Nat) : State :=
  forL valid (fun c s =>
    let u := uQuad a
    if s.get u (arq_ACOMP_KIND (a % 4) c) = 0 then
      let p := s.get u (arq_ACOMP_POD (a % 4) c)
      if c = win then s.set (uPod p) pod_TRKSTAT_WIN 1
      else if s.on (uPod p) pod_TRKCFG_EN then
        { s with terms := sset (fun _ => 0) s.terms p (s.trackTerm p v (s.compValue a c)) }
      else s
    else s) s

/-- A decision of an arena (R197 to R202). The first one after the arena was enabled raises EMPTY again where none is valid (DESIGN
CHOICE, log entry 120). -/
def State.decide (s : State) (a : Nat) : State :=
  if !(s.arenaOn a) then s else
  let u := uQuad a
  let j := a % 4
  let s := s.arenaTypes a
  let valid := (List.range 8).filter fun c => s.compValid a c
  let s := forL valid (fun c s => s.seti u (arq_AVAL_VALUE j c) (s.compValue a c)) s
  let s := s.set u (arq_ASTAT_VALID j) (valid.foldl (fun m c => m + 2 ^ c) 0)
  let s := s.clearTerms a
  let prev := sget (fun _ => 0) s.arenaPrev a
  let (s, idx) : State × Int := match s.arenaWinner a valid with
    | some c =>
      let v := s.compValue a c
      let s := (s.set u (arq_ASTAT_EMPTY j) 0).set u (arq_ASTAT_WIN j) c
      let s := (s.seti u (arq_AWIN_VALUE j) v).arenaPublish a (some v) c
      (s.setTerms a c v valid, (c : Int))
    | none =>
      let entering := !(s.on u (arq_ASTAT_EMPTY j)) || prev = 0
      let s := s.set u (arq_ASTAT_EMPTY j) 1
      let s := if s.on u (arq_ACFG_EMPTY j) then s.arenaPublish a none (-1)
        else (s.set u (arq_AWIN_VALUE j) 0).arenaPublish a (some 0) (-1)
      (if entering then s.raise u (4 * j + 1) else s, -1)
  let now := (idx + 2).toNat
  let s := { s with arenaPrev := sset (fun _ => 0) s.arenaPrev a now }
  let s := if now ≠ prev then (s.inc u (arq_ACHG_COUNT j)).raise u (4 * j) else s
  (s.inc u (arq_ADEC_COUNT j)).set u (arq_ASTAMP_STAMP j) s.stamp

/-- ARENA_DECISION (R197). -/
def execArenaDecision (t a : Nat) (s : State) : Host.Outcome State Fault Refusal := .next ((s.at t).decide (a % 16))

/-- An arena became enabled or disabled: the next decision is its first (R200), its members' terms are 0 (R199), and an
enabled arena decides at once. -/
def State.arenaToggled (s : State) (a : Nat) : State :=
  let s := { s.clearTerms a with
    arenaPrev := serase s.arenaPrev a
    typeSeen := s.typeSeen.filter fun k => k / 8 ≠ a }
  s.decide a

/-- After a write of a competitor entry (R195): an entry that names a pod which another enabled entry names is rejected. -/
def State.acompCheck (s : State) (a c : Nat) : State :=
  let u := uQuad a
  let j := a % 4
  let s := { s with typeSeen := s.typeSeen.filter (· ≠ 8 * a + c) }
  if s.on u (arq_ACOMP_EN j c) && s.get u (arq_ACOMP_KIND j c) = 0 then
    let p := s.get u (arq_ACOMP_POD j c)
    let dup := (List.range 128).any fun i => i ≠ 8 * a + c &&
      s.on (uQuad (i / 8)) (arq_ACOMP_EN (i / 8 % 4) (i % 8)) &&
      s.get (uQuad (i / 8)) (arq_ACOMP_KIND (i / 8 % 4) (i % 8)) = 0 &&
      s.get (uQuad (i / 8)) (arq_ACOMP_POD (i / 8 % 4) (i % 8)) = p
    if dup then ((s.set u (arq_ACOMP_EN j c) 0).quadErr a 1 c).faultR u 0x0141 0 else s
  else s

/-- A pod that no enabled entry names any more has no term (R202), and has won nothing. -/
def State.termFollow (s : State) (p : Nat) : State :=
  if (s.podEntry p).isNone then { s.set (uPod p) pod_TRKSTAT_WIN 0 with terms := serase s.terms p } else s

/-- A competitor entry was written from the word `old`: the check, and a decision where its validity has changed (R195, R197). -/
def State.acompWritten (s : State) (a c : Nat) (old : Word) : State :=
  let o := s.setW ((uQuad a).addr (arq_ACOMP_EN (a % 4) c).off) old
  let was := o.compValid a c
  let s := (s.acompCheck a c).termFollow (o.get (uQuad a) (arq_ACOMP_POD (a % 4) c))
  if s.compValid a c ≠ was then s.decide a else s

/-- APUB was written from `old`: the bindings it named are released and the new ones are checked (R200). -/
def State.apubBind (s : State) (a : Nat) (old : Word) : State :=
  let u := uQuad a
  let j := a % 4
  let s := if old.getLsbD 15 then s.freeWriter (bits old 0 12) 4 (2 * a) else s
  let s := if old.getLsbD 31 then s.freeWriter (bits old 16 12) 4 (2 * a + 1) else s
  let bad := fun (s : State) (f : Fld) =>
    (((s.set u f 0).quadErr a 3 0).raise u (4 * j + 2)).faultR u 0x0143 0
  let s := if s.on u (arq_APUB_VALEN j) then
      (match s.bindWriter (s.get u (arq_APUB_VALSIG j)) 4 (2 * a) 0 with
        | (s, true) => s
        | (s, false) => bad s (arq_APUB_VALEN j))
    else s
  if s.on u (arq_APUB_IDXEN j) then
    (match s.bindWriter (s.get u (arq_APUB_IDXSIG j)) 4 (2 * a + 1) 1 with
      | (s, true) => s
      | (s, false) => bad s (arq_APUB_IDXEN j))
  else s

end Sys2Proof.Machine
end

