-- ==== Sys2Proof/Machine/Scorebook.lean ====
section
/-!
DEFINITION. Scorebooks (R215 to R227): arming, samples, triggers and the records they write into the pool.
-/

namespace Sys2Proof.Machine

def uScb (n : Nat) : Unit := ⟨.scb, n⟩

/-- What of a scorebook no register shows. -/
def State.book (s : State) (n : Nat) : ScbH := sget (fun _ => {}) s.books n

/-- The state with that of a scorebook changed. -/
def State.modBook (s : State) (n : Nat) (f : ScbH → ScbH) : State :=
  { s with books := sset (fun _ => {}) s.books n (f (s.book n)) }

/-- Does a stage list a quantity index (R251, R303, R326, R344, R369)? -/
def stageLists (st q : Nat) : Bool :=
  q = 15 || (st ≤ 1 && q < 15) || (st = 2 && q < 8) || (st = 3 && q < 5) || (st = 4 && q < 1) ||
    ((st = 5 || st = 6 || st = 7) && q < 7) || (st = 8 && q < 4)

/-- Is the index of a tap in range for its kind (R216)? -/
def tapInRange (kind idx : Nat) : Bool :=
  match kind with
  | 0 => idx < 64
  | 1 => idx < 16
  | 2 => true
  | 3 => idx / 256 ≤ 8 && stageLists (idx / 256) (idx % 256)
  | 4 => idx < 16
  | 5 => idx < 8
  | _ => false

/-- The enabled taps of a scorebook, in ascending entry number. -/
def State.taps (s : State) (n : Nat) : List Nat := (List.range 16).filter fun k => s.on (uScb n) (scb_TAP_EN k)

/-- The word that a tap reads (R216). -/
def State.tapWord (s : State) (n k : Nat) : Word :=
  let u := uScb n
  let p := uPod (s.get u (scb_TAP_POD k))
  let i := s.get u (scb_TAP_IDX k)
  match s.get u (scb_TAP_KIND k) with
  | 0 => BitVec.ofInt 32 (s.geti p (pod_NODE_VALUE (i % 64)))
  | 1 => BitVec.ofInt 32 (s.podAcc (s.get u (scb_TAP_POD k)) (i % 16) / 256)
  | 2 => s.sig i
  | 3 => s.qtyOf (i / 256) (i % 256)
  | 4 => s.getW (p.addr (0x380 + 4 * (i % 16)))
  | 5 => s.getW (p.addr (0x3C0 + 4 * (i % 8)))
  | _ => 0

/-- The modes in which a scorebook records (R223). -/
def State.booksRun (s : State) : Bool := s.runsMode

/-- The words of a record (R220). -/
def State.bookWords (s : State) (n : Nat) : Nat :=
  2 + s.get (uScb n) scb_SCFG_TS64 + (s.taps n).length

/-- The number of slots N of a region of `bytes` bytes (R220). -/
def State.bookSlots (s : State) (n bytes : Nat) : Nat := bytes / (4 * s.bookWords n)

/-- The configuration conditions of R223. -/
def State.bookOk (s : State) (n bytes : Nat) : Bool :=
  let u := uScb n
  let kind := s.get u scb_TRIGCFG_KIND
  s.taps n ≠ [] && 1 ≤ s.bookSlots n bytes &&
    (match s.cadInterval (s.get u scb_SCFG_CAD) with
      | some p => (s.get u scb_SOFS_TICKS).blt p
      | none => true) &&
    ((s.taps n).all fun k => tapInRange (s.get u (scb_TAP_KIND k)) (s.get u (scb_TAP_IDX k))) &&
    (!(1 ≤ kind && kind ≤ 5) || s.on u (scb_TAP_EN (s.get u scb_TRIGCFG_TAP))) &&
    s.get u scb_TRIGEV_SRC < allUnits.length && kind ≠ 7

/-- SCTL.ARM (R223): refused with the first failing cause, or the book starts at slot 0 with SEQ 0. -/
def State.arm (s : State) (n : Nat) : State :=
  let u := uScb n
  if s.on u scb_SCTL_ARM then s else
  let refuse := fun c => (s.cause u scb_SRES_CAUSE c).cor u scb_SRES_REFUSED 1
  if !(s.booksRun) then refuse 3 else
  match s.region (0x30 + n) with
  | none => refuse 1
  | some (base, bytes) =>
    if !(s.bookOk n bytes) then refuse 2 else
    let slots := min (s.bookSlots n bytes) 65535
    let roll := s.on u scb_SCFG_MODE
    let ev := match unitOfSource (s.get u scb_TRIGEV_SRC) with
      | some v => s.evCount v (s.get u scb_TRIGEV_BIT)
      | none => 0
    let s := s.modBook n fun b => {
      event := b.event, base := base, words := s.bookWords n, pre := if roll then 0 else slots * s.get u scb_SCFG_PRE / 256, events := ev }
    let s := (s.set u scb_SCTL_ARM 1).set u scb_SSTAT_STATE (if roll then 4 else 1)
    let s := (s.set u scb_NREC_SLOTS slots).set u scb_WRPTR_SLOT 0
    (s.set u scb_TRIGIDX_VALID 0).set u scb_PRECNT_COUNT 0

/-- The book stops before completion (R226): ABORTED, with a cause where one is given. -/
def State.bookStop (s : State) (n cause : Nat) : State :=
  let u := uScb n
  let s := ((s.set u scb_SCTL_ARM 0).set u scb_SCTL_TRIG 0).set u scb_SSTAT_STATE 0
  let s := if cause = 0 then s else s.cause u scb_SRES_CAUSE cause
  s.cor u scb_SRES_ABORTED 1

/-- SCTL.ARM written 0 (R226): an armed book aborts; one that has just made its last record is found done. -/
def State.disarm (s : State) (n : Nat) : State :=
  if s.on (uScb n) scb_SCTL_ARM then s.bookStop n 0 else s.abortLate (uScb n) scb_SCTL_ARM scb_SRES_ABORTLATE

/-- SCTL.TRIG (R225): accepted in state PRE with every trigger kind. -/
def State.bookTrig (s : State) (n : Nat) : State :=
  if s.get (uScb n) scb_SSTAT_STATE = 1 then s.set (uScb n) scb_SCTL_TRIG 1 else s

/-- Is a sample the trigger sample (R225)? `last` is the trigger tap's word at the previous sample, `now` at this one. -/
def State.bookFires (s : State) (n : Nat) (last : Option Int) (now : Int) : Bool :=
  let u := uScb n
  let lvl := s.geti u scb_TRIGLVL_LEVEL
  let rising := match last with | some l => l ≤ lvl && lvl < now | none => false
  let falling := match last with | some l => lvl ≤ l && now < lvl | none => false
  s.on u scb_SCTL_TRIG ||
  match s.get u scb_TRIGCFG_KIND with
  | 1 => lvl < now
  | 2 => now < lvl
  | 3 => rising
  | 4 => falling
  | 5 => rising || falling
  | 6 => match unitOfSource (s.get u scb_TRIGEV_SRC) with
    | some v => (s.book n).events < s.evCount v (s.get u scb_TRIGEV_BIT)
    | none => false
  | _ => false

/-- The header of a record (R220). -/
def State.bookHeader (s : State) (n : Nat) (trig valid : Bool) : Word :=
  let b := s.book n
  BitVec.ofNat 32 ((if trig then 2 ^ 31 else 0) + (if b.gap then 2 ^ 30 else 0) + (if valid then 2 ^ 29 else 0) +
    2 ^ 28 * s.get (uScb n) scb_SCFG_TS64 + 2 ^ 24 * ((s.taps n).length - 1) + 2 ^ 16 * n + b.seq % 65536)

/-- A record written into the next slot (R220, R221). -/
def State.bookWrite (s : State) (n : Nat) (trig : Bool) (words : List Word) : State :=
  let u := uScb n
  let b := s.book n
  let a := b.base + 4 * b.words * s.get u scb_WRPTR_SLOT
  let stamp := [BitVec.ofNat 32 s.tick] ++
    (if s.on u scb_SCFG_TS64 then [BitVec.ofNat 32 (s.tick / 2 ^ 32)] else [])
  let s := s.hwWord a (s.bookHeader n trig false)
  let s := s.hwWords (a + 4) (stamp ++ words)
  let s := s.hwWord a (s.bookHeader n trig true)
  let s := s.modBook n fun b => { b with seq := (b.seq + 1) % 65536, gap := false, since := some 0, recAt := s.tick }
  s.set u scb_WRPTR_SLOT ((s.get u scb_WRPTR_SLOT + 1) % atLeast1 (s.get u scb_NREC_SLOTS))

/-- The book has made its last record (R224). -/
def State.bookDone (s : State) (n : Nat) : State :=
  let u := uScb n
  let s := ((s.set u scb_SCTL_ARM 0).set u scb_SSTAT_STATE 3).cor u scb_SRES_DONE 1
  (s.raise u 1).doneNote u scb_SCTL_ARM

/-- What follows a record: the trigger's registers, or the count of the records before and after it (R224). -/
def State.bookAfter (s : State) (n slot : Nat) (trig : Bool) : State :=
  let u := uScb n
  if trig then
    let b := s.book n
    let s := (s.set u scb_SCTL_TRIG 0).set u scb_TRIGIDX_SLOT slot
    let s := (s.set u scb_TRIGIDX_VALID 1).set u scb_TRIGSTAMP_STAMP s.stamp
    let s := s.set u scb_PRECNT_COUNT (min b.pre b.made)
    let s := (s.set u scb_SSTAT_STATE 2).raise u 0
    let left := s.get u scb_NREC_SLOTS - 1 - b.pre
    let s := s.modBook n fun b => { b with left := left }
    if left = 0 then s.bookDone n else s
  else match s.get u scb_SSTAT_STATE with
    | 1 => s.modBook n fun b => { b with made := min (b.made + 1) b.pre }
    | 2 =>
      let s := s.modBook n fun b => { b with left := b.left - 1 }
      if (s.book n).left = 0 then s.bookDone n else s
    | _ => s

/-- An event of a cadence starts the wait for the sample instants of the books that it times (R217). -/
def State.bookEvent (s : State) (cad : Nat) : State :=
  forN 8 (fun n s =>
    if s.get (uScb n) scb_SCFG_CAD = cad then s.modBook n fun b => { b with event := some s.tick } else s) s

/-- Does a scorebook record? -/
def State.bookRecords (s : State) (n : Nat) : Bool := s.on (uScb n) scb_SCTL_ARM && s.booksRun && s.enabled (uScb n)

/-- The sum of R × 400 / I over the recording scorebooks (R222), as numerator and denominator. -/
def State.bookRate (s : State) : Nat × Nat :=
  (List.range 8).foldl (fun r n =>
    match s.bookRecords n, s.cadInterval (s.get (uScb n) scb_SCFG_CAD) with
    | true, some i =>
      let d := atLeast1 (i * (s.get (uScb n) scb_SDEC_DEC + 1))
      (r.1 * d + 400 * (s.book n).words * r.2, r.2 * d)
    | _, _ => r) (0, 1)

/-- Can the last record of a book still be in progress (R222)? It has been made, the books record more than 48 words per µs together,
and the longest time of R217 and R221 since its sample, 24 ticks and 20 ns + 4 ns × R, is not over. Within these limits the moment at
which it ends is open (log entry 47). -/
def State.bookBusy (s : State) (n : Nat) : Bool :=
  let b := s.book n
  let r := s.bookRate
  b.since.isSome && (48 * r.2).blt r.1 && (5 * (s.tick - b.recAt)).blt (160 + 8 * b.words)

/-- SCOREBOOK_SAMPLE (R217 to R225), at the instant SOFS ticks after an event of the book's cadence: every tap is read, the trigger is
judged, and the sample may become a record. `busy` says whether the previous record, where it may be, is still being written, so that
a record now due is lost (R222). -/
def execScorebookSample (t n : Nat) (busy : Bool) (s : State) : Host.Outcome State Fault Refusal :=
  let s := s.at t
  let n := n % 8
  let u := uScb n
  match (s.book n).event with
  | none => .next s
  | some e =>
  if !(s.due (e + s.get u scb_SOFS_TICKS)) then .next s else
  let s := s.modBook n fun b => { b with event := none }
  if !(s.bookRecords n) then .next s else
  let taps := s.taps n
  let s := forL taps (fun k s =>
    if s.get u (scb_TAP_KIND k) = 2 then s.sigParity (s.get u (scb_TAP_IDX k)) else s) s
  let words := taps.map fun k => s.tapWord n k
  let now := (s.tapWord n (s.get u scb_TRIGCFG_TAP)).toInt
  let b := s.book n
  let busy := busy && s.bookBusy n
  let trig := s.get u scb_SSTAT_STATE = 1 && s.bookFires n b.last now
  let due := trig || match b.since with
    | none => true
    | some c => s.get u scb_SDEC_DEC ≤ c
  let s := s.modBook n fun b => { b with last := some now, since := some ((b.since.getD 0) + (if b.since.isSome then 1 else 0)) }
  if !due then .next s
  else if busy then
    -- the record is lost; a trigger that falls on it is taken at the next sample
    let s := s.modBook n fun b => { b with gap := true, since := some 0 }
    let s := if trig then s.set u scb_SCTL_TRIG 1 else s
    .next ((s.inc u scb_SKIPCNT_COUNT).raise u 2)
  else
    let slot := s.get u scb_WRPTR_SLOT
    .next ((s.bookWrite n trig words).bookAfter n slot trig)

/-- Entry to DORMANT while armed (R226). -/
def State.booksDormant (s : State) : State :=
  forN 8 (fun n s => if s.on (uScb n) scb_SCTL_ARM then s.bookStop n 3 else s) s

end Sys2Proof.Machine
end

