-- ==== Sys2Proof/Machine/Traction.lean ====
section
/-!
DEFINITION. Traction stages TA and TB (R228 to R252): the carrier, the modulator, and the position supervisor.
-/

namespace Sys2Proof.Machine

/-! Irrational factors, by integer square roots. -/

/-- The integer square root, found bit by bit from bit `k`, given the root `r` found so far. -/
def isqrtFrom (n : Nat) : Nat → Nat → Nat
  | 0, r => if (r + 1) * (r + 1) ≤ n then r + 1 else r
  | k + 1, r => isqrtFrom n k (if (r + 2 ^ (k + 1)) * (r + 2 ^ (k + 1)) ≤ n then r + 2 ^ (k + 1) else r)

/-- The integer square root of a number below 2^256. -/
def isqrt (n : Nat) : Nat := isqrtFrom n 127 0

/-- π to 20 decimal places, times 10^20. -/
def piE20 : Nat := 314159265358979323846

/-- The modulation index of a squared vector length and a link word, in Q15, rounded (R239). -/
def modIndex (v2 vdc : Nat) : Nat :=
  min 32767 ((isqrt (v2 * (32768 * piE20) ^ 2) / (10 ^ 20 * vdc) + 1) / 2)

/-- Does MI exceed its linear limit π / (2√3) (R239)? -/
def overLinear (v2 vdc : Nat) : Bool := vdc * vdc < 3 * v2

/-- Is MI 1 or more (R239)? -/
def sixStepped (v2 vdc : Nat) : Bool := 4 * vdc * vdc * 10 ^ 40 ≤ v2 * piE20 * piE20

/-- The factor that scales a vector down to the linear limit, in 1/2^40 (R239). -/
def linearScale (v2 vdc : Nat) : Nat := isqrt (2 ^ 80 * vdc * vdc / (3 * v2))

/-! The angle (R237, R246). -/

/-- An angle turned forward by a speed over a time in half ticks, with the rounding of R237. -/
def turned (a : Nat) (speed : Int) (dt2 : Int) (sh : Nat) : Nat :=
  unsigned 16 ((a : Int) + roundDiv (speed * dt2) (2 ^ (sh + 1)))

/-- The electrical angle at a time in half ticks, as the modulator uses it: from THETA and OMEGA, or the held angle in HOLD and LOST.
With THETA never latched its stamp is not given, and the angle is a free value. -/
def State.angleAt (s : State) (st t2 : Nat) : Nat :=
  let u := uStage st
  let sh := s.get u trac_TANG_OMSHIFT
  let h := s.tr st
  if s.get u trac_TPSTAT_STATE = 2 then turned h.heldFrom h.heldSpeed ((t2 : Int) - 2 * h.heldTick) sh
  else if s.get u trac_TPSTAT_STATE = 3 then h.lastAngle
  else match h.thetaAt with
    | some ta => turned (unsigned 16 (s.ref st 4)) (s.ref st 5) ((t2 : Int) - 2 * ta + 2 * s.get u trac_TTHOFS_THOFS) sh
    | none => if s.ref st 5 = 0 then unsigned 16 (s.ref st 4) else (Config.freeWord s.freeCtr).toNat % 65536

/-- The speed by which that angle turns, in 1/2^OMSHIFT angle LSB per tick. -/
def State.omegaNow (s : State) (st : Nat) : Int :=
  match s.get (uStage st) trac_TPSTAT_STATE with
  | 2 => (s.tr st).heldSpeed
  | 3 => 0
  | _ => s.ref st 5

/-! Voltages (R238). -/

/-- vα and vβ at an angle. -/
def State.vAlphaBeta (s : State) (st a : Nat) : Int × Int :=
  let d := s.ref st 0
  let q := s.ref st 1
  (satQ15 (roundQ15 (d * cosA a - q * sinA a)), satQ15 (roundQ15 (d * sinA a + q * cosA a)))

/-- x and y at an angle; 0 in DUAL. -/
def State.vXY (s : State) (st a : Nat) : Int × Int :=
  if s.six then
    (satQ15 (roundQ15 (s.ref st 2 * 32768 + s.ref st 6 * cosA a + s.ref st 7 * sinA a)),
     satQ15 (roundQ15 (s.ref st 3 * 32768 - s.ref st 6 * sinA a + s.ref st 7 * cosA a)))
  else (0, 0)

/-- The phase voltages of a set from α and β given in 1/2^16, in units of 1/2^31 of a Q15 LSB (R238, step 4). -/
def phaseVolts (al be : Int) : List Int :=
  [al * 2 ^ 15, -al * 2 ^ 14 + be * 28378, -al * 2 ^ 14 - be * 28378]

/-- α and β of a set in 1/2^16 (R238, step 3). -/
def setVector (second : Bool) (va vb x y : Int) : Int × Int :=
  if second then
    let a2 := va - x
    let b2 := vb + y
    (2 * (28378 * a2 + 16384 * b2), 2 * (-16384 * a2 + 28378 * b2))
  else (65536 * (va + x), 65536 * (vb - y))

/-- The phase voltages of a set at an angle. -/
def State.setVolts (s : State) (st : Nat) (second : Bool) (a : Nat) : List Int :=
  let (va, vb) := s.vAlphaBeta st a
  let (x, y) := s.vXY st a
  let (al, be) := setVector second va vb x y
  phaseVolts al be

/-- The largest and the smallest of the phase voltages. -/
def vMax (l : List Int) : Int := l.foldl max (l.headD 0)
def vMin (l : List Int) : Int := l.foldl min (l.headD 0)

/-- The phase with the largest magnitude, the lower letter on equal magnitudes. -/
def vPeak : List Int → Int
  | [] => 0
  | v :: vs => if (vPeak vs).natAbs ≤ v.natAbs then v else vPeak vs

/-- The zero-sequence offset of a set (R239), in the units of the phase voltages and of `vdc`. -/
def zeroSeq (mod_ clamp : Nat) (vdc : Int) (l : List Int) : Int :=
  if mod_ ≠ 1 then -((vMax l + vMin l) / 2)
  else match clamp with
    | 0 => -(vdc / 2) - vMin l
    | 1 => vdc / 2 - vMax l
    | _ => if 0 < vPeak l then vdc / 2 - vPeak l else -(vdc / 2) - vPeak l

/-! Overmodulation (R239). -/

/-- The SVPWM waveform of a phase with its offset, for a vector of length 1 at an angle of the first quarter turn, in Q15. -/
def svpwmAt (a : Nat) : Int := if a < 10923 then 28378 * cosA ((a + 65536 - 5461) % 65536) / 32768 else 3 * cosA a / 2

/-- The fundamental of the clamped duty waveform at a modulation index and a gain in 1/65,536, as a modulation index in Q15: the mean
over 256 angles of a quarter turn. -/
def overmodMi (mi k : Nat) : Int :=
  let sum := (List.range 256).foldl (fun (acc : Int) j =>
    let a := 64 * j + 32
    let u := 4 * (mi : Int) * svpwmAt a * 100000 / (314159 * 32768)
    acc + min 32768 ((k : Int) * u / 65536) * cosA a) 0
  sum * 314159 / (512 * 100000 * 32768)

/-- Does a gain give the fundamental of a modulation index within 0.002? -/
def overmodFits (mi k : Nat) : Bool := 65536 ≤ k && (overmodMi mi k - mi).natAbs ≤ 65

/-- The gain that does, found bit by bit from `w` above `lo`. -/
def overmodSearch (mi : Nat) : Nat → Nat → Nat → Nat
  | 0, lo, _ => lo
  | n + 1, lo, w => overmodSearch mi n (if overmodMi mi (lo + w) ≤ mi then lo + w else lo) (w / 2)

/-- k(MI) in 1/65,536 (R239): the entry of the internal table, of which the spec gives only the accuracy (log entry 49). -/
def overmodGain (mi : Nat) : Nat :=
  let k := 65536 + Config.overmodGain mi
  if overmodFits mi k then k else overmodSearch mi 23 65536 4194304

/-- The duties of a set as fractions: the numerators and their denominator (R238 step 5, R239). `v2` is |(vα, vβ)|² and
`gain` the overmodulation gain in 1/65,536. -/
def setDuties (ovm : Bool) (mod_ clamp vdc v2 gain : Nat) (volts : List Int) : List (Int × Nat) :=
  let ov := overLinear v2 vdc
  let f : Nat := if ov && !ovm then linearScale v2 vdc else 2 ^ 40
  -- every value doubled, so that the halves of R239 are exact
  let l : List Int := volts.map fun (v : Int) => 2 * v * (f : Int)
  let full : Int := 2 * (vdc : Int) * 2 ^ 31 * 2 ^ 40
  let v0 := zeroSeq (if ov && ovm then 0 else mod_) clamp full l
  let k : Nat := if ov && ovm then gain else 65536
  l.map fun v => (full * 65536 + 2 * (v + v0) * k, (2 * full * 65536).toNat)

/-! Edges (R240). -/

/-- TMINP.TICKS as it acts. -/
def State.minPulse (s : State) (st : Nat) : Nat := clamp 48 4000 (s.get (uStage st) trac_TMINP_TICKS)

/-- The minimum-pulse rule for a time in 1/32 ticks. -/
def minPulsed (minp t : Nat) : Nat := if t = 0 || 32 * minp ≤ t then t else if 2 * t < 32 * minp then 0 else 32 * minp

/-- The on-time of a duty in a half period of `h` ticks, in 1/32 ticks, under the minimum-pulse rule. -/
def onTime (h minp : Nat) (d : Int × Nat) : Nat :=
  let on := (clampI 0 (32 * h : Nat) (roundDiv (d.1 * (32 * h : Nat)) d.2)).toNat
  let on := minPulsed minp on
  32 * h - minPulsed minp (32 * h - on)

/-- The command of a leg over one half period that begins at tick `t` (R240). -/
def State.halfEdges (s : State) (st leg t h on : Nat) (peak : Bool) : State :=
  if on = 0 then s.legCmd st leg (32 * t) false true
  else if 32 * h ≤ on then s.legCmd st leg (32 * t) true false
  else if peak then (s.legCmd st leg (32 * t) true false).legCmd st leg (32 * t + on) false true
  else (s.legCmd st leg (32 * t) false true).legCmd st leg (32 * (t + h) - on) true false

/-- Is a phase's voltage above 0 at a tick (R239, six-step)? -/
def State.phaseHigh (s : State) (st : Nat) (second : Bool) (k t : Nat) : Bool :=
  0 < (s.setVolts st second (s.angleAt st (2 * t))).getD k 0

/-- The first tick above `lo`, at most `lo + w`, at which a phase has the level `v`, by bisection. -/
def State.crossing (s : State) (st : Nat) (second : Bool) (k : Nat) (v : Bool) : Nat → Nat → Nat → Nat
  | 0, lo, w => lo + w
  | n + 1, lo, w =>
    if w ≤ 1 then lo + w
    else if s.phaseHigh st second k (lo + w / 2) = v then s.crossing st second k v n lo (w / 2)
    else s.crossing st second k v n (lo + w / 2) (w - w / 2)

/-- The ticks, at least one, in which the angle turns by no more than a quarter of a turn, so that a phase crosses once at most. -/
def State.quarterTurn (s : State) (st : Nat) : Nat :=
  let w := (s.omegaNow st).natAbs
  if w = 0 then 2 ^ 20 else atLeast1 (16384 * 2 ^ s.get (uStage st) trac_TANG_OMSHIFT / w)

/-- The switching of a leg in six-step over `w` ticks from `lo`, quarter turn by quarter turn; `first` is the earliest tick for a
switch. -/
def State.sixStepTurns (s : State) (ldr st leg : Nat) (second : Bool) (q first : Nat) : Nat → Nat → Nat → State
  | 0, _, _ => s
  | n + 1, lo, w =>
    let d := min q w
    let p0 := s.phaseHigh ldr second leg lo
    let p1 := s.phaseHigh ldr second leg (lo + d)
    let s := if p0 = p1 then s else s.legCmd st leg (32 * max first (s.crossing ldr second leg p1 20 lo d)) p1 (!p1)
    if w ≤ d then s else s.sixStepTurns ldr st leg second q first n (lo + d) (w - d)

/-- The unbroken high-side command of a leg, counted in half periods (R277). -/
def State.countOn (s : State) (st leg : Nat) (full : Bool) (n : Nat) : State :=
  s.modStg st fun h => { h with
    onPeriods := sset (fun _ => 0) h.onPeriods leg (if full then sget (fun _ => 0) h.onPeriods leg + n else 0) }

/-- TCFG.LOADPT as it acts: 0 valleys, 1 peaks, 2 both. -/
def State.loadPts (s : State) (st : Nat) : Nat := min 2 (s.get (uStage st) trac_TCFG_LOADPT)

/-- Is a carrier point a load point (R230)? -/
def State.isLoad (s : State) (st : Nat) (peak : Bool) : Bool :=
  match s.loadPts st with
  | 0 => !peak
  | 1 => peak
  | _ => true

/-- The switching of a leg in six-step over the `h` ticks of a half period from `t` (R239, R240). A switch that would fall less than MINP
after the load point falls at load point + MINP. -/
def State.sixStepEdges (s : State) (ldr st leg t h : Nat) (second : Bool) : State :=
  let first := ((s.tr ldr).loadAt.getD 0) + s.minPulse ldr
  let p0 := s.phaseHigh ldr second leg t
  let q := s.quarterTurn ldr
  let all := p0 && (List.range (h / q + 1)).all fun i => s.phaseHigh ldr second leg (t + min h ((i + 1) * q))
  let s := if ((s.stg st).base leg (32 * t)).1 = p0 && ((s.stg st).base leg (32 * t)).2 = !p0 then s
    else s.legCmd st leg (32 * max t first) p0 (!p0)
  (s.sixStepTurns ldr st leg second q first (h / q + 1) t h).countOn st leg all 1

/-- The duties in force of one set applied to a stage over the half period of `h` ticks that begins at a carrier point (R240). -/
def State.placeHalf (s : State) (ldr st : Nat) (second peak : Bool) (d h : Nat) : State :=
  let x := s.tr ldr
  if !(s.enabled (uStage st)) || s.failedCheck.contains (uStage st).page then s else
  forL ((x.held.getD (if second then 1 else 0) []).zipIdx) (fun y s =>
    let (duty, leg) := y
    if x.heldSix then s.sixStepEdges ldr st leg d h second
    else
      let on := onTime h (s.minPulse ldr) duty
      (s.halfEdges st leg d h on peak).countOn st leg (32 * h ≤ on) 1) s

/-- The duties of one set as quantities (R251). In six-step no duty is given, and they are free values. -/
def State.dutyQty (s : State) (ldr q0 : Nat) (six : Bool) (duties : List (Int × Nat)) : State :=
  forL duties.zipIdx (fun y s =>
    let v := if six then (((Config.freeWord (s.freeCtr + q0 + y.2)).toNat % 32768 : Nat) : Int)
      else clampI 0 32767 (roundDiv (y.1.1 * 32768) y.1.2)
    s.setQtyI ldr (q0 + y.2) v) s

/-- The modulator at a load point of stage `st` on tick `d` (R238 to R240). A link word of 0 that TVDC.MIN lets through leaves MI and
the duties without a stated value: they are free. -/
def State.modulate (s : State) (st : Nat) (peak : Bool) (d : Nat) : State :=
  let u := uStage st
  let th := s.angleAt st (2 * d + s.carrierHalf st peak)
  let (va, vb) := s.vAlphaBeta st th
  let sig := s.get u trac_TVDC_SIG
  let s := s.sigParity sig
  let vdc := lo16 (s.sig sig)
  let v2 := (va * va + vb * vb).toNat
  let low := vdc < (s.get u trac_TVDC_MIN : Int)
  let free := vdc ≤ 0
  let w := vdc.toNat
  let mi := if free then (Config.freeWord s.freeCtr).toNat % 32768 else modIndex v2 w
  let ovm := s.on u trac_TCFG_OVM
  let six := !low && !free && ovm && sixStepped v2 w
  let vlim := !low && !free && !ovm && overLinear v2 w
  let gain := if ovm && !free && overLinear v2 w then overmodGain mi else 65536
  let duties := fun (second : Bool) (i : Nat) =>
    if low then List.replicate 3 ((1 : Int), 2)
    else if free then (List.range 3).map fun k => (((Config.freeWord (s.freeCtr + 1 + i + k)).toNat : Int), 2 ^ 32)
    else setDuties ovm (s.get u trac_TCFG_MOD) (s.get u trac_TCFG_CLAMP) w v2 gain (s.setVolts st second th)
  let d1 := duties false 0
  let d2 := duties true 3
  let s := if low && !((s.tr st).vdcLow) then s.raise u 23 else s
  let s := s.modTr st fun x => { x with
    vdcLow := low, loadAt := some d, heldSix := six
    held := if s.drives then (if s.six then [d1, d2] else [d1]) else [] }
  let s := (s.set u trac_TMI_MI mi).set u trac_TPSTAT_VLIM (if vlim then 1 else 0)
  let s := (s.setQtyI st 0 mi).setQtyI st 1 (signed 16 th)
  let s := s.dutyQty st 2 six d1
  let s := if s.six then s.dutyQty st 5 six d2 else forN 3 (fun k s => s.setQtyI st (5 + k) 0) s
  let s := (s.setQtyI st 8 vdc).setQtyI st 13 va |>.setQtyI st 14 vb
  { s with freeCtr := s.freeCtr + 8 }

/-! Valleys. -/

/-- The offset check of a valley in READY (R235). -/
def State.offsetCheck (s : State) (st : Nat) : State :=
  let u := uStage st
  if !(s.inMode .ready) then s.modTr st fun h => { h with offsetRun := 0 } else
  let win := s.get u trac_TOFS_WIN
  let ks := (List.range 4).filter fun k => s.on u (trac_TCUR_EN k)
  let s := forL ks (fun k s => s.sigParity (s.get u (trac_TCUR_SIG k))) s
  let out := ks.any fun k => win < (lo16 (s.sig (s.get u (trac_TCUR_SIG k)))).natAbs
  if !out then s.modTr st fun h => { h with offsetRun := 0 } else
  let n := (s.tr st).offsetRun + 1
  let s := s.modTr st fun h => { h with offsetRun := min n 17 }
  if n = 16 then ((s.fault u 0x0310).raise u 22).react u 5 else s

/-- The period in force of TA's carrier at a tick, and one of its valleys: a valley that falls on the tick itself counts (R232). -/
def State.taValley (s : State) (d : Nat) : Option (Nat × Nat) :=
  let a := s.tr 0
  if !(s.tracRuns 0) then none
  else if a.next = some d && !a.nextPeak then some (s.get (uStage 0) trac_TCAR_PERIOD, d)
  else if a.period = 0 then none else some (a.period, a.valley)

/-- The length of the period that TB begins at a valley on tick `d` under its lock to TA (R232): where the periods in force are
equal, such that the next valley falls PHASE ticks after one of TA. The nearer of the two such valleys is taken (DESIGN CHOICE, log
entry 122). -/
def lockedLen (d p phase valley : Nat) : Nat :=
  let late := (((d : Int) - phase - valley) % (p : Int)).toNat
  if 2 * late < p then p - late else 2 * p - late

/-- TB's lock at a valley on tick `d` with the period `p` (R232): a difference of the periods in force is a SYNC fault, once a run,
and TB runs free. -/
def State.tbLock (s : State) (d p : Nat) : State × Nat :=
  match s.on (uStage 1) trac_TCSYNC_EN, s.taValley d with
  | true, some (pa, v) =>
    let s' := s.modTr 1 fun h => { h with syncBad := pa ≠ p }
    if pa = p then (s', lockedLen d p (s.get (uStage 1) trac_TCSYNC_PHASE) v)
    else (if (s.tr 1).syncBad then s' else s'.fault (uStage 1) 0x0303, p)
  | _, _ => (s, p)

/-- A valley of a stage's carrier on tick `d`: the period in force is taken (R232), and the checks of a valley are made. -/
def State.valleyOf (s : State) (st d : Nat) : State :=
  let p := s.get (uStage st) trac_TCAR_PERIOD
  let (s, len) := if st = 1 then s.tbLock d p else (s, p)
  (s.carrierValley st d p len).offsetCheck st

/-- TRACTION_LOAD_POINT: the next valley or peak of the carrier of TA or TB (R230, R231, R238), from which the modulator's duties in
force are applied. In SIX, TB's carrier is TA's and its own registers have no effect (R228). -/
def execTractionLoadPoint (t st : Nat) (peak : Bool) (s : State) : Host.Outcome State Fault Refusal :=
  let s := s.at t
  let st := st % 2
  if s.lead st ≠ st || !(s.tracRuns st) then .next s else
  match s.carrierDue st peak with
  | none => .next s
  | some d =>
    let s := if peak then s.carrierPeak st else (s.valleyOf st d).intervalsFollow st
    let s := s.carrierPoint st peak d
    let s := if st = 0 && s.six && s.tracRuns 1 then s.carrierPoint 1 peak d else s
    let s := if s.isLoad st peak then (s.loadPoint st).modulate st peak d else s
    let h := s.carrierHalf st peak
    let s := s.placeHalf st st false peak d h
    .next (if s.six then s.placeHalf st 1 true peak d h else s)

/-! Reported speed and ASC (R248, R269). -/

/-- The ASC exit test (R269). -/
def State.ascExit (s : State) (st : Nat) : State :=
  if s.gstate st = 3 && (s.geti (uStage st) trac_TSPD_SPEED).natAbs < s.get (uStage st) stg_GASC_EXIT then
    (s.raise (uStage st) 9).turnOffWith st false
  else s

/-- TSPD changed (R248). The quantity SPDSEL follows at selection instants (R251). -/
def State.setTspd (s : State) (st : Nat) (v : Int) : State := (s.seti (uStage st) trac_TSPD_SPEED v).ascExit st

/-- ASC_CURRENT_SIGN_CHANGE: in ASC, the half period between two sign changes of TCUR0 gives TSPD (R248), in ticks of the timebase, which
stand still without lock (R52). -/
def execAscCurrentSignChange (t st : Nat) (s : State) : Host.Outcome State Fault Refusal :=
  let s := s.at t
  let st := st % 2
  let u := uStage st
  if s.lead st ≠ st || s.gstate st ≠ 3 || !(s.on u (trac_TCUR_EN 0)) || !s.locked then .next s else
  let last := (s.tr st).signAt
  let s := s.modTr st fun h => { h with signAt := some s.tick }
  match last with
  | none => .next s
  | some t0 =>
    if s.tick ≤ t0 then .next s
    else .next (s.setTspd st (min 32767 (roundDiv (65536 * 2 ^ s.get u trac_TANG_OMSHIFT) (2 * (s.tick - t0)))))

/-- TSPD_TIMEOUT: 50 ms without a sign change in ASC set TSPD to 0 (R248). -/
def execTspdTimeout (t st : Nat) (s : State) : Host.Outcome State Fault Refusal :=
  let s := s.at t
  let st := st % 2
  if s.lead st ≠ st || s.gstate st ≠ 3 then .next s else
  let t0 := match (s.tr st).signAt with
    | some t0 => t0
    | none => (s.stg st).start
  if s.due (t0 + ms 50) then .next (s.setTspd st 0) else .next s

/-! The position supervisor (R241 to R247). -/

/-- What the supervisor reads (R241): the sensor's angle, speed and validity, and the observer's angle, speed and lock. -/
structure PosIn where
  sAng : Nat
  sSpd : Int
  sOk : Bool
  oAng : Nat
  oSpd : Int
  lock : Bool
deriving DecidableEq, Repr

/-- The signals that the supervisor reads (R241); each read checks the parity (R32). -/
def State.posSignals (s : State) (st : Nat) : List Nat :=
  let u := uStage st
  [s.get u trac_TSEN0_ANG, s.get u trac_TSEN0_SPD, s.get u trac_TSEN1_SIG, s.get u trac_TOBS0_ANG, s.get u trac_TOBS0_SPD,
    s.get u trac_TOBS1_SIG]

def State.posIn (s : State) (st : Nat) : PosIn :=
  let u := uStage st
  let poles := atLeast1 (s.get u trac_TPOS_POLES)
  { sAng := (poles * ((s.sig (s.get u trac_TSEN0_ANG)).toNat % 65536) + s.get u trac_TPOS_SENOFS) % 65536
    sSpd := satQ15 ((poles : Int) * lo16 (s.sig (s.get u trac_TSEN0_SPD)))
    sOk := s.sig (s.get u trac_TSEN1_SIG) ≠ 0
    oAng := (s.sig (s.get u trac_TOBS0_ANG)).toNat % 65536
    oSpd := lo16 (s.sig (s.get u trac_TOBS0_SPD))
    lock := (s.get u trac_TOBS1_LOCKTH : Int) ≤ lo16 (s.sig (s.get u trac_TOBS1_SIG)) }

/-- Entry to HOLD (R244, R246). -/
def State.enterHold (s : State) (st : Nat) : State :=
  let u := uStage st
  let s := s.sigParity (s.get u trac_TSEN1_TQSIG)
  let tq := (lo16 (s.sig (s.get u trac_TSEN1_TQSIG))).natAbs
  let s := s.modTr st fun h => { h with
    holdAt := s.tick, heldSpeed := s.ref st 5, heldFrom := h.lastAngle, locked := 0
    holdOff := false
    fade := min h.fade (min tq 32767) }
  let s := (s.set u trac_THOLDT_STAMP s.stamp).inc u trac_TLOSSCNT_COUNT
  (s.set u trac_TPSTAT_STATE 2).raise u 18

/-- Entry to LOST (R247): fault LOSTPOS, the request for ASC or the two-step turn-off, and the reaction of SEL4. -/
def State.enterLost (s : State) (st : Nat) : State :=
  let u := uStage st
  let s := (s.set u trac_TPSTAT_STATE 3).raise u 20
  let s := s.stageOff st
  (s.fault u 0x0320).react u 4

/-- Is the RELOCK window over (R243, decision 5)? A protection turn-off in HOLD has stopped its timing for good (R249; DEDUCED, log entry
123). -/
def State.relockOver (s : State) (st : Nat) : Bool :=
  !((s.tr st).holdOff) && s.due ((s.tr st).holdAt + ms (clamp 1 200 (s.get (uStage st) trac_TLOSS_RELOCK)))

/-- The decisions of R243 in RUN. While a turn-off of the stage governs, the supervisor stays in HOLD (R249). -/
def State.decidePos (s : State) (st : Nat) (i : PosIn) : State :=
  let u := uStage st
  let h := s.tr st
  let lossn := atLeast1 (s.get u trac_TLOSS_LOSSN)
  match s.get u trac_TPSTAT_STATE with
  | 0 =>
    let s := if h.unlocked = lossn then s.raise u 16 else s
    if !i.sOk then
      let s := s.raise u 17
      if s.on u trac_TSRC_FBEN && i.lock then (s.set u trac_TPSTAT_STATE 1).modTr st fun h => { h with fallback := true }
      else s.enterHold st
    else s
  | 1 =>
    if s.on u trac_TPSTAT_ARMED && lossn ≤ h.unlocked then (s.raise u 16).enterHold st
    else if s.on u trac_TPCTL_RESEL && s.get u trac_TSRC_SRC = 0 && i.sOk then s.set u trac_TPSTAT_STATE 0
    else if s.on u trac_TPCTL_RESEL && s.get u trac_TSRC_SRC = 1 && i.lock then
      s.modTr st fun h => { h with fallback := false }
    else s
  | 2 =>
    if s.gstate st ≠ 0 then s
    else if atLeast1 (s.get u trac_TLOSS_RELOCKN) ≤ h.locked then
      (s.set u trac_TPSTAT_STATE 1).raise u 19 |>.modTr st fun h => { h with
        fallback := s.get u trac_TSRC_SRC = 0 || h.fallback }
    else if s.relockOver st then s.enterLost st
    else s
  | _ => s

/-- The fade steps toward its target (R244). -/
def State.fadeStep (s : State) (st : Nat) : State :=
  let u := uStage st
  let h := s.tr st
  let target : Int := match s.get u trac_TPSTAT_STATE with
    | 0 => 32767
    | 1 => if h.fallback then (s.get u trac_TFADE_FBLIM : Int) else 32767
    | _ => 0
  let rate : Int := atLeast1 (s.get u trac_TFADE_RATE)
  let f := if h.fade < target then min target (h.fade + rate) else max target (h.fade - rate)
  s.modTr st fun h => { h with fade := f }

/-- The diverse angle check (R245). -/
def State.divergeCheck (s : State) (st : Nat) (i : PosIn) : State :=
  let u := uStage st
  let d := followDiff true i.sAng i.oAng
  if i.sOk && i.lock && s.get u trac_TDIV_LIM < d.natAbs then
    let n := (s.tr st).diverge + 1
    let s := s.modTr st fun h => { h with diverge := min n 256 }
    if n = atLeast1 (s.get u trac_TDIV_N) then ((s.fault u 0x0321).raise u 21).react u 6 else s
  else s.modTr st fun h => { h with diverge := 0 }

/-- The selected angle and speed at a valley (R242, R246). -/
def State.selected (s : State) (st valley : Nat) (i : PosIn) : Nat × Int :=
  let h := s.tr st
  match s.get (uStage st) trac_TPSTAT_STATE with
  | 0 => (i.sAng, i.sSpd)
  | 1 => (i.oAng, i.oSpd)
  | 2 => (turned h.heldFrom h.heldSpeed (2 * ((valley : Int) - h.heldTick)) (s.get (uStage st) trac_TANG_OMSHIFT), h.heldSpeed)
  | _ => (h.lastAngle, h.lastSpeed)

/-- A selection instant (R243 to R245), which belongs to a valley: the decisions, the fade, the selected angle and speed, and the
quantities (R251). -/
def State.select (s : State) (st valley : Nat) : State :=
  let u := uStage st
  let s := forL (s.posSignals st) (fun n s => s.sigParity n) (s.modTr st fun h => { h with selFrom := none })
  let i := s.posIn st
  let was := s.get u trac_TPSTAT_STATE
  let s := s.modTr st fun h => { h with
    locked := if i.lock then min (h.locked + 1) 255 else 0
    unlocked := if i.lock then 0 else min (h.unlocked + 1) 255 }
  let s := if s.inMode .run then
      let armNow := i.lock && !(s.on u trac_TPSTAT_ARMED)
      let s := if armNow then s.set u trac_TPSTAT_ARMED 1 else s
      s.decidePos st i
    else
      let s := if s.on u trac_TPSTAT_SENV && !i.sOk then s.raise u 17 else s
      let s := if (s.tr st).unlocked = atLeast1 (s.get u trac_TLOSS_LOSSN) then s.raise u 16 else s
      s.set u trac_TPSTAT_STATE (s.get u trac_TSRC_SRC)
  let s := s.set u trac_TPCTL_RESEL 0
  let s := if s.inMode .run && s.get u trac_TPSTAT_STATE = was && s.on u trac_TPSTAT_ARMED then s.fadeStep st else s
  let (a, v) := s.selected st valley i
  let hold := s.get u trac_TPSTAT_STATE = 2
  let s := s.modTr st fun h => { h with
    lastAngle := a, lastSpeed := v, heldTick := if hold then h.heldTick else valley }
  let s := s.set u trac_TANGSEL_ANGLE a
  let s := (s.set u trac_TPSTAT_LOCK (if i.lock then 1 else 0)).set u trac_TPSTAT_SENV (if i.sOk then 1 else 0)
  let s := if s.gstate st = 3 then s else s.setTspd st v
  let s := s.divergeCheck st i
  let s := (s.setQtyI st 9 (signed 16 a)).setQtyI st 10 (s.geti u trac_TSPD_SPEED)
  (s.setQtyI st 11 (s.tr st).fade).setQtyI st 12 (s.get u trac_TPSTAT_STATE)

/-- The valley whose selection instant, SELOFS ticks later, has come (R241). -/
def State.selectDue (s : State) (st : Nat) : Option Nat :=
  match (s.tr st).selFrom with
  | some v => if s.lead st = st && s.tracRuns st && s.due (v + s.get (uStage st) trac_TSRC_SELOFS) then some v else none
  | none => none

/-- SELECTION_INSTANT: each valley + TSRC.SELOFS, while the carrier runs. -/
def execSelectionInstant (t st : Nat) (s : State) : Host.Outcome State Fault Refusal :=
  let s := s.at t
  match s.selectDue (st % 2) with
  | some v => .next (s.select (st % 2) v)
  | none => .next s

/-- RELOCK_TIMEOUT: the selection instant in HOLD at which the RELOCK window is over; where decision 4 is not met, the stage enters LOST
(R243 decision 5, R247, R249). -/
def execRelockTimeout (t st : Nat) (s : State) : Host.Outcome State Fault Refusal :=
  let s := s.at t
  let st := st % 2
  match s.selectDue st with
  | some v =>
    if s.inMode .run && s.get (uStage st) trac_TPSTAT_STATE = 2 && s.relockOver st then .next (s.select st v) else .next s
  | none => .next s

/-! Modes, references and registers. -/

/-- Entry to RUN (R242 to R244). -/
def State.tracRunEntry (s : State) (st : Nat) : State :=
  let u := uStage st
  let src := s.get u trac_TSRC_SRC
  let s := (s.set u trac_TPSTAT_STATE src).set u trac_TPSTAT_ARMED (if src = 0 then 1 else 0)
  s.modTr st fun h => { h with fade := if src = 0 then 32767 else 0, fallback := false, locked := 0, holdOff := false }

/-- Is a stage reference one that the machine configuration uses (R236)? -/
def refUsed (six : Bool) (st i : Nat) : Bool :=
  if six then st = 0 && i < 8 else i = 0 || i = 1 || i = 4 || i = 5

/-- The reference check of R229. -/
def State.refsOk (s : State) (st : Nat) : Bool :=
  (List.range 8).all fun i => !(s.refBound st i) || refUsed s.six st i

/-- The enable check of a traction stage, but for its gate registers: 0x0301 REFCFG, 0x0302 CARPER (R229, R253). -/
def State.tracCheck (s : State) (st : Nat) : Option Nat :=
  if !(s.refsOk st) then some 0x0301
  else if s.lead st = st && !(periodOk (s.get (uStage st) trac_TCAR_PERIOD)) then some 0x0302
  else none

/-- A stage fails an enable check: the fault, OWNF, and readiness STARTING (R14, R229). -/
def State.failCheck (s : State) (u : Unit) (code : Nat) : State :=
  let s := s.fault u code
  { s with failedCheck := if s.failedCheck.contains u.page then s.failedCheck else s.failedCheck ++ [u.page] }

/-- After a write of TCAR (R230, R232): an invalid period stops the carrier with CARPER. -/
def State.tcarWritten (s : State) (st : Nat) : State :=
  if s.lead st = st && s.enabled (uStage st) && !(periodOk (s.get (uStage st) trac_TCAR_PERIOD)) then
    s.failCheck (uStage st) 0x0302
  else s

/-- After a write of TA.TCFG.MACH: both stages check their references again (R229); TB's field reads TA's (R228), and in DUAL its own
period counts (R230). -/
def State.machWritten (s : State) : State :=
  let s := s.set (uStage 1) trac_TCFG_MACH (s.get (uStage 0) trac_TCFG_MACH)
  let s := forN 2 (fun st s =>
    if s.enabled (uStage st) && !(s.refsOk st) then s.failCheck (uStage st) 0x0301 else s) s
  s.tcarWritten 1

/-- A binding register with EN in bit 31 and the signal in 11:0, written (R29, R30): the old word's binding is released, and
the new one of class `cls` is checked; a rejected one reads EN 0, and the unit records a fault. `ty` is the type of what the
word binds, none where there is no such thing. -/
def State.bindEntry (s : State) (cls : Nat) (u : Unit) (o : Nat) (inst : Word → Nat) (ty : Word → Option Nat) (old : Word)
    (code : Nat) : State :=
  let s := if old.getLsbD 31 then s.freeWriter (bits old 0 12) cls (inst old) else s
  let w := s.getW (u.addr o)
  if !(w.getLsbD 31) then s else
  let reject := fun (s : State) => (s.setW (u.addr o) (w &&& 0x7FFFFFFF#32)).fault u code
  match ty w with
  | none => reject s
  | some k =>
    match s.bindWriter (bits w 0 12) cls (inst w) k with
    | (s, true) => s
    | (s, false) => reject s

/-- After a write of a publication entry of a fixed-function source (R252, R303, R344, R369). -/
def State.pubBind (s : State) (u : Unit) (o : Nat) (inst : Word → Nat) (ty : Word → Option Nat) (old : Word)
    (code : Nat) : State := s.bindEntry 5 u o inst ty old code

/-- The quantity index of a publication entry. -/
def pubQ (w : Word) : Nat := bits w 16 4

/-- The type of a traction quantity (R251). -/
def tracQtyType (w : Word) : Option Nat := some (if pubQ w = 12 || pubQ w = 15 then 1 else 0)

/-- After a write of TPUBk; in SIX, TB publishes nothing (R228). -/
def State.tpubWritten (s : State) (st k : Nat) (old : Word) : State :=
  if s.lead st ≠ st then s
  else s.pubBind (uStage st) (0x100 + 4 * k) (fun w => 0x100 + 0x10 * st + pubQ w) tracQtyType old 0x0304

end Sys2Proof.Machine
end

