-- ==== Sys2Proof/Machine/Gate.lean ====
section
/-!
DEFINITION. The commands of gate protection (R263 to R279): sources and blanking, the steps of a turn-off, retry and
resume, bootstrap refresh and driver-ready holds, and the clear of a latch (R275).
-/

namespace Sys2Proof.Machine

/-- A source that is active now. -/
def State.srcOn (s : State) (src : Src) : State :=
  { s with srcActive := if s.srcActive.contains src then s.srcActive else s.srcActive ++ [src] }

/-- Sources that are active no longer. -/
def State.srcOff (s : State) (gone : List Src) : State :=
  { s with srcActive := s.srcActive.filter fun x => !(gone.contains x) }

/-- PROTECTION_SOURCE_ACTIVE: an input becomes active (R263); a per-switch return inside its blanking is ignored
(R265), and so is a comparator whose group does not report (R414). What is active already does not become active again. `stays` is
false for a pulse that has ended again. -/
def execProtectionSourceActive (t : Nat) (src : Src) (stays : Bool) (s : State) : Host.Outcome State Fault Refusal :=
  let s := s.at t
  let heard := match src with
    | .cmp n => s.cmpOn n
    | _ => true
  if !heard then .next s else
  let was := s.srcActive.contains src
  let s := s.srcOn src
  let s := if was || s.srcBlanked src then s else s.activateAll src
  .next (if stays || was then s else s.srcOff [src])

/-- BLANKING_END of switch `k` of a stage (R266): a return that is active then acts. -/
def execBlankingEnd (t st k : Nat) (active : Bool) (s : State) : Host.Outcome State Fault Refusal :=
  let s := s.at t
  let src := Src.sw st k
  if active then
    let s := s.srcOn src
    .next (if s.srcBlanked src then s else s.activateAll src)
  else .next (s.srcOff [src])

/-- SOFT_STEP_END: at s + GSOFT, SOFT goes low and the stage is OFF (R267). -/
def execSoftStepEnd (t st : Nat) (s : State) : Host.Outcome State Fault Refusal :=
  let s := s.at t
  let g := s.lead (st % 9)
  if s.gstate g = 1 && s.dueOff ((s.stg g).start + s.span (s.gsoft g)) then
    let s := forL (s.group g) (fun m s => s.modStg m fun h => { h with soft := false }) s
    .next (s.setGstate g 2)
  else .next s

/-- Does the episode's log hold a low-side per-switch return (R268)? -/
def State.lowLogged (s : State) (g : Nat) : Bool :=
  let u := uStage g
  (List.range 8).any fun k => s.on u (stg_FLOGA_VALID k) && s.get u (stg_FLOGA_KIND k) = 1 &&
    s.get u (stg_FLOGA_NUM k) % 2 = 1

/-- ASC_START: at s + GSOFT + DEAD the low sides turn on, or the stage stays OFF with ASCFAIL (R267, R268). -/
def execAscStart (t st : Nat) (s : State) : Host.Outcome State Fault Refusal :=
  let s := s.at t
  let g := s.lead (st % 9)
  if s.gstate g = 2 && (s.stg g).asc && s.dueOff ((s.stg g).start + s.span (s.gsoft g) + s.span ((s.dead32 g + 31) / 32)) then
    if (s.stg g).episode && s.lowLogged g then
      let s := s.modStg g fun h => { h with asc := false }
      .next ((s.fault (uStage g) 0x0414).raise (uStage g) 8)
    else
      let s := (s.setGstate g 3).raise (uStage g) 7
      .next (s.modTr g fun h => { h with signAt := none })
  else .next s

/-- RETRY_CHECK: at tRETRY after the trip the sources are checked (R274). `gone` names sources that have been released. -/
def execRetryCheck (t st : Nat) (gone : List Src) (s : State) : Host.Outcome State Fault Refusal :=
  let s := (s.at t).srcOff gone
  let g := s.lead (st % 9)
  match (s.stg g).retryAt with
  | none => .next s
  | some d =>
    if !(s.due d) then .next s
    else if s.srcNow g then .next ((s.fault (uStage g) 0x0413).setLatch g)
    else .next (s.modStg g fun h => { h with retryAt := none, resuming := some false })

/-- At the resume point a stage's edges are placed anew: what stands commanded on turns on dead time later (R274). -/
def State.reEdge (s : State) (m : Nat) : State :=
  (s.modStg m fun h => { h with edges := [], since32 := 32 * s.tick }).replanAll m (32 * s.tick)

/-- Is this tick a resume point of a stage (R274)? A load point of TA, TB, OBA and OBD while their carrier runs; any tick else. -/
def State.resumePoint (s : State) (g : Nat) : Bool :=
  let h := s.tr g
  !(g ≤ 1 || g = 3 || g = 4) || h.next = none || h.loadAt = some s.tick ||
    (h.next = some s.tick && (3 ≤ g || s.isLoad g h.nextPeak))

/-- The resume of a stage (R274): NORMAL, the episode over, RESUME; DCL's converter starts again (R324); a source that is
active trips the stage at once (R263). -/
def State.resume (s : State) (g : Nat) : State :=
  let s := s.modStg g fun h => { h with episode := false, reacted := false, retryAt := none, resuming := none, asc := false }
  let s := (s.setGstate g 0).raise (uStage g) 3
  let s := forL (s.group g) (fun m s => s.reEdge m) s
  let s := if g = 2 then s.regResume else s
  s.tripCheck g

/-- STAGE_RESUME: the resume point of a stage with a resume scheduled (R274, R275, R280). A source that is active before it
latches the stage with RETRYFAIL; after a clear the stage resumes only where it acts. -/
def execStageResume (t st : Nat) (gone : List Src) (s : State) : Host.Outcome State Fault Refusal :=
  let s := (s.at t).srcOff gone
  let g := s.lead (st % 9)
  match (s.stg g).resuming with
  | none => .next s
  | some cleared =>
    if s.gstate g = 1 || (cleared && !(s.acts g)) || !(s.resumePoint g) then .next s
    else if s.srcNow g then
      .next (((s.fault (uStage g) 0x0413).setLatch g).modStg g fun h => { h with resuming := none })
    else .next (s.resume g)

/-! Refresh and ready holds (R277, R278). -/

/-- The start of the refresh pulse that a leg is to get, in 1/32 ticks (R277): of TA and TB centred on the valley that ends the N-th
consecutive period of unbroken high-side command, from the load point before it; of the others N × GREFPER after the last turn-on of
the high side, which is the end of a refresh too. -/
def State.refreshAt (s : State) (st leg : Nat) : Option Nat :=
  let g := s.lead st
  let u := uStage g
  let n := atLeast1 (s.get u stg_GREF_N)
  if st ≤ 1 then
    match (s.tr g).next, (s.tr g).nextPeak with
    | some v, false =>
      if 2 * n ≤ sget (fun _ => 0) (s.stg st).onPeriods leg then some (32 * v - s.dead32 st - 16 * s.trefresh st) else none
    | _, _ => none
  else
    match lastEdge (2 * leg) (32 * s.tick + 31) (s.stg st).edges with
    | some e =>
      let p := e.at32 + 32 * n * clamp 1000 200000 (s.get u stg_GREFPER_TICKS)
      if e.level && p ≤ 32 * s.tick + 31 then some p else none
    | none => none

/-- BOOTSTRAP_REFRESH: the four edges of the refresh pulse that a leg is to get, from instant `p` in 1/32 ticks (R277); the count
restarts. A command that names another instant than the rule does places none. -/
def execBootstrapRefresh (t st leg p : Nat) (s : State) : Host.Outcome State Fault Refusal :=
  let s := s.at t
  let st := st % 9
  let g := s.lead st
  let u := uStage g
  if s.refreshAt st leg ≠ some p then .next s
  else if s.on u stg_GREF_EN && st < 8 && leg < stageLegs st && s.gstate st = 0 && s.acts g && s.commanded st (2 * leg) &&
      (s.readyHold st leg).isNone then
    let pulse := ⟨leg, p, some (p + s.dead32 st + 32 * s.trefresh st)⟩
    let s := s.modStg st fun h => { h with overs := h.overs ++ [pulse], onPeriods := serase h.onPeriods leg }
    .next ((s.replan st leg p).inc u stg_GREFCNT_COUNT)
  else .next s

/-- DRIVER_READY_FALL: a driver-ready ball falls, or is low at a high-side turn-on (R278): the leg takes a ready hold where
its high-side command stands on and GRDY enables it. -/
def execDriverReadyFall (t st leg : Nat) (s : State) : Host.Outcome State Fault Refusal :=
  let s := s.at t
  let st := st % 9
  if !(hasReady st leg) then .next s else
  let id := st * 8 + leg
  let s := { s with notReady := if s.notReady.contains id then s.notReady else s.notReady ++ [id] }
  if (s.get (uStage st) stg_GRDY_EN).testBit leg && s.acts st && s.gstate st = 0 && s.commanded st (2 * leg) &&
      (s.readyHold st leg).isNone then .next (s.startHold st leg)
  else .next s

/-- DRIVER_READY_RISE (R278): in an extended hold the final TREFRESH starts. -/
def execDriverReadyRise (t st leg : Nat) (s : State) : Host.Outcome State Fault Refusal :=
  let s := s.at t
  let st := st % 9
  let s := { s with notReady := s.notReady.filter (· ≠ st * 8 + leg) }
  match s.readyHold st leg with
  | some h =>
    if h.extended then
      .next (s.modStg st fun x => { x with
        holds := x.holds.filter (·.leg ≠ leg) ++ [⟨leg, h.start, s.tick + s.trefresh st, false⟩] })
    else .next s
  | none => .next s

/-- READY_HOLD_END: TREFRESH is over (R278); with ready still low the hold goes on. -/
def execReadyHoldEnd (t st leg : Nat) (s : State) : Host.Outcome State Fault Refusal :=
  let s := s.at t
  let st := st % 9
  match s.readyHold st leg with
  | none => .next s
  | some h =>
    if h.extended || !(s.due h.until_) then .next s
    else if s.notReady.contains (st * 8 + leg) then
      .next (s.modStg st fun x => { x with
        holds := x.holds.filter (·.leg ≠ leg) ++ [⟨leg, h.start, h.until_, true⟩] })
    else .next (s.endHold st leg h.until_)

/-! Clears, checks and modes. -/

/-- UCTL.FCLR on a stage (R275): the latch and OWNF clear together, with no enabled source active, not in ASC and not in the
middle of a turn-off step. -/
def State.stageFclr (s : State) (st : Nat) : State :=
  let g := s.lead st
  let u := uStage g
  let pendingAsc := s.gstate g = 2 && (s.stg g).asc
  if st ≠ g then s.set (uStage st) hdr_USTAT_OWNF 0
  else if s.srcNow g || s.gstate g = 3 || s.gstate g = 1 || pendingAsc then s
  else if s.on u stg_GSTAT_LATCH then
    let s := (s.set u stg_GSTAT_LATCH 0).set u hdr_USTAT_OWNF 0
    let s := s.modStg g fun h => { h with episode := false, reacted := false, resuming := some true }
    s.setProt g
  else s.set u hdr_USTAT_OWNF 0

/-- The enable check of a stage shell's gate registers: 0x0401 GCFG (R259, R269). In SIX, TB's TASC and GASC have no effect (R228). -/
def State.gateOk (s : State) (st : Nat) : Bool :=
  let u := uStage st
  s.tdmin st * 32 ≤ s.dead32 st &&
    !(st ≤ 1 && s.lead st = st && s.on u trac_TASC_EN && s.get u trac_TASC_SPEED ≤ s.get u stg_GASC_EXIT)

/-- Leaving SAFE-HOLD, and leaving RUN for a mode other than SAFE-HOLD, ends ASC (R269); leaving SAFE-HOLD ends the turn-off
that its entry began (R270). -/
def State.endModeTurnOff (s : State) (fromHold : Bool) : State :=
  forN 9 (fun st s =>
    if s.lead st ≠ st then s
    else if s.glatch st then (if s.gstate st = 3 then (s.setGstate st 2).modStg st fun h => { h with asc := false } else s)
    else if s.gstate st = 3 then (s.setGstate st 0).modStg st fun h => { h with asc := false, episode := false }
    else if fromHold && s.gstate st ≠ 0 && !((s.stg st).episode) then
      (s.setGstate st 0).modStg st fun h => { h with soft := false, asc := false }
    else s) s

end Sys2Proof.Machine
end

