-- ==== Sys2Proof/Machine/DcLink.lean ====
section
/-!
DEFINITION. The link supervisor of the BRK shell (R284 to R300): the hysteretic chopper and its health, precharge and
active discharge.
-/

namespace Sys2Proof.Machine

/-! The hysteretic chopper (R288, R289). -/

/-- The commands of the two switches from a tick on: the hysteretic command OR the discharge pulse in progress (R289). -/
def State.chopPlace (s : State) (t : Nat) : State :=
  forN 2 (fun k s => s.legCmd 8 k (32 * t) (s.link.switches.testBit k || s.link.pulseEnd.isSome) false) s

/-- The sample of the chopper comparator (R288): one whose group does not report is inside its window (R414). -/
def State.chopLevel (s : State) : Nat := if s.cmpOn (s.get uBrk brk_LCHOP_CMP) then s.link.level else 0

/-- The hysteretic command turns on at a tick. -/
def State.chopOn (s : State) (t : Nat) : State :=
  let alt := s.on uBrk brk_LCHOP_MODE
  let sw := if alt then 2 ^ s.link.next else 3
  let s := s.modLink fun h => { h with
    onAt := t, countAt := t, switches := sw, next := if alt then 1 - h.next else h.next, fresh := true, sloped := false, low := 0 }
  let s := ((s.chopPlace t).set uBrk brk_LSTAT_CHOP 1).inc uBrk brk_LCHOPCNT_COUNT
  (s.setQtyI 8 3 1).raise uBrk 16

/-- The hysteretic command turns off at a tick; a discharge pulse in progress keeps its switches on (R289). -/
def State.chopOff (s : State) (t : Nat) : State := (s.chopEnd t).chopPlace t

/-- LONTIME is brought up to the present tick. -/
def State.chopCounted (s : State) : State :=
  (s.incBy uBrk brk_LONTIME_TICKS (s.chopTicks s.tick)).modLink fun h => { h with countAt := max h.countAt s.tick }

/-- The chopper follows its comparator: a sample takes effect at tick `t` (R288). Where the chopper works no more, its command is off. -/
def State.chopFollow (s : State) (t : Nat) : State :=
  let on := s.on uBrk brk_LSTAT_CHOP
  if !s.chopActs then (if on then s.chopOff s.tick else s)
  else if s.chopLevel = 1 && !on then
    match s.link.offAt with
    | some t0 => if t0 + s.get uBrk brk_LCHOPT_MINOFF ≤ t then s.chopOn t else s
    | none => s.chopOn t
  else if s.chopLevel = 2 && on then
    if s.link.onAt + s.get uBrk brk_LCHOPT_MINON ≤ t then s.chopOff t else s
  else s

/-- CHOPPER_COMPARATOR_CROSSING: the chopper comparator is sampled inside (0), above (1) or below (2) its window; the
command follows on the next tick (R288). A comparator whose group does not report is inside (R414). -/
def execChopperComparatorCrossing (t level : Nat) (s : State) : Host.Outcome State Fault Refusal :=
  let s := (s.at t).modLink fun h => { h with level := level % 3 }
  .next (s.chopFollow (s.tick + 1))

/-- CHOPPER_MIN_TIME_END: MINON or MINOFF ends, and a crossing that waited takes effect (R288). -/
def execChopperMinTimeEnd (t : Nat) (s : State) : Host.Outcome State Fault Refusal :=
  let s := s.at t
  .next (s.chopFollow s.tick)

/-- The comparator is sampled on every tick (R288), also on the one at which the chopper begins or ceases to work. -/
def State.chopSettle (s : State) : State := s.chopFollow (s.tick + 1)

/-! Chopper health (R290, R291). -/

/-- Does the hysteretic command stand at this tick? A crossing takes effect on the tick after its sample (R288, R301). -/
def State.chopping (s : State) : Bool :=
  if s.on uBrk brk_LSTAT_CHOP then s.link.onAt ≤ s.tick else s.link.offAt.any (s.tick < ·)

/-- The first failing cause of R290, 0 none. -/
def State.brkCause (s : State) (vdc ibrk : Int) : Nat :=
  let on := s.chopping
  let run := s.tick - s.link.onAt
  if (s.gstate 8 ≠ 0 || s.glatch 8) && s.chopLevel = 1 then 4
  else if (s.get uBrk brk_LOV2_OV2 : Int) ≤ vdc then 3
  else if on && s.get uBrk brk_LCHK1_IDLY ≤ run && ibrk < (s.get uBrk brk_LCHK1_IMIN : Int) &&
      atLeast1 (s.get uBrk brk_LCHK0_NLOW) ≤ s.link.low then 1
  else if on && s.get uBrk brk_LCHK0_TCHK ≤ run && !(s.link.sloped) then 2
  else 0

/-- BRKFAIL sets (R291). -/
def State.brkFail (s : State) (cause : Nat) : State :=
  if s.on uBrk brk_LSTAT_BRKFAIL then s else
  let s := (s.set uBrk brk_LSTAT_BRKFAIL 1).set uBrk brk_LSTAT_BFCAUSE cause
  let s := ((s.fault uBrk 0x0440).raise uBrk 17).inc uBrk brk_LBFCNT_COUNT
  (s.setQtyI 8 2 0).react uBrk 2

/-- The samples of a supervision instant while the command is on (R290). -/
def State.chopSample (s : State) (vdc ibrk : Int) : State :=
  if !s.chopping then s else
  let peak := if s.link.fresh then vdc else max vdc (s.geti uBrk brk_LVPEAK_VALUE)
  let s := s.seti uBrk brk_LVPEAK_VALUE peak
  let late := s.get uBrk brk_LCHK1_IDLY ≤ s.tick - s.link.onAt
  s.modLink fun h => { h with
    fresh := false
    sloped := h.sloped || vdc ≤ peak - (s.get uBrk brk_LCHK2_DROP : Int)
    low := if late && ibrk < (s.get uBrk brk_LCHK1_IMIN : Int) then min (h.low + 1) 16 else 0 }

/-- BRKFAIL clears where its cause has gone (R291). -/
def State.brkClear (s : State) : State :=
  if s.on uBrk brk_LSTAT_BRKFAIL && !(s.on uBrk brk_LSTAT_CHOP) && s.link.vdc < (s.get uBrk brk_LOV2_OV2 : Int) &&
      s.gstate 8 = 0 && !(s.glatch 8) then
    ((s.set uBrk brk_LSTAT_BRKFAIL 0).set uBrk brk_LSTAT_BFCAUSE 0).setQtyI 8 2 0x7FFF
  else s

/-! Precharge (R293 to R296). -/

/-- The link is in window (R295). -/
def State.inWindow (s : State) (vdc pack : Int) : Bool :=
  ((vdc - pack).natAbs : Int) * 1024 ≤ pack * s.get uBrk brk_LPRE0_WIN

/-- Pilot `b` (0 NEG, 1 POS) switched on by the precharge. -/
def State.pilotOn (s : State) (b : Nat) : State :=
  let f := if b = 0 then brk_LSTAT_NEG else brk_LSTAT_POS
  let s := if s.on uBrk f then s else { s with preOn := s.preOn ||| 2 ^ b }
  (s.set uBrk f 1).outputs

/-- LPRECMD.GO (R294). -/
def State.preGo (s : State) : State :=
  if s.on uBrk brk_LPRECMD_GO then s else
  let refuse := fun c => (s.cause uBrk brk_LPRERES_CAUSE c).cor uBrk brk_LPRERES_REFUSED 1
  let v := s.link.vdc
  let p := s.link.pack
  if !(s.inMode .run) then refuse 1
  else if !(s.linkOn && s.on uBrk brk_LCONT_NEGEN && s.on uBrk brk_LCONT_POSEN) then refuse 2
  else if p < (s.get uBrk brk_LPRE1_PACKMIN : Int) then refuse 3
  else if p * s.get uBrk brk_LPRE0_WIN < (v - p) * 1024 then refuse 4
  else if !(s.enabled uReg) then refuse 5
  else
    let s := (s.set uBrk brk_LPRECMD_GO 1).set uBrk brk_LSTAT_PRESTATE 1
    let s := { s with preOn := 0 }
    let s := s.modLink fun h => { h with preAt := s.tick, stateAt := s.tick, inWindow := 0 }
    s.pilotOn 0

/-- A precharge aborted or failed by a cause, with the requests and pilots that follow. -/
def State.preEnd (s : State) (cause : Nat) : State := ((s.preAbort cause).outputs).regGovern

/-- GO written 0 (R296); one that meets the completion is too late (R101). -/
def State.preGoClear (s : State) : State :=
  if s.on uBrk brk_LPRECMD_GO then s.preEnd 8 else s.abortLate uBrk brk_LPRECMD_GO brk_LPRERES_ABORTLATE

/-- LCONTCMD.OPEN (R293, R296): both pilots off. -/
def State.contactorOpen (s : State) : State :=
  let s := s.preGoClear
  let s := (s.set uBrk brk_LSTAT_NEG 0).set uBrk brk_LSTAT_POS 0
  (s.set uBrk brk_LSTAT_PRESTATE 0).outputs

/-- The step from BOOST to POS (R295). -/
def State.prePos (s : State) : State :=
  let s := (s.set uBrk brk_LSTAT_PRESTATE 3).modLink fun h => { h with stateAt := s.tick }
  s.pilotOn 1

/-- PRECHARGE_CLOSE_TIMER: TCLOSE ms have passed in NEG or POS (R295). -/
def execPrechargeCloseTimer (t : Nat) (s : State) : Host.Outcome State Fault Refusal :=
  let s := s.at t
  let timeUp := s.due (s.link.stateAt + ms (atLeast1 (s.get uBrk brk_LCONT_TCLOSE)))
  match s.get uBrk brk_LSTAT_PRESTATE with
  | 1 =>
    if timeUp then
      let s := (s.set uBrk brk_LSTAT_PRESTATE 2).modLink fun h => { h with stateAt := s.tick, inWindow := 0 }
      .next s.regGovern
    else .next s
  | 3 =>
    if timeUp then
      let s := (s.set uBrk brk_LSTAT_PRESTATE 4).set uBrk brk_LPRECMD_GO 0
      let s := { s with preOn := 0 }.modLink fun h => { h with stateAt := s.tick }
      .next ((((s.cor uBrk brk_LPRERES_DONE 1).raise uBrk 19).doneNote uBrk brk_LPRECMD_GO).regGovern)
    else .next s
  | _ => .next s

/-! Active discharge (R297 to R300). -/

/-- Entry to DISCHARGE (R297): the pilots go off and the contacts get time to open. -/
def State.dischargeEntry (s : State) : State :=
  let s := (s.set uBrk brk_LSTAT_NEG 0).set uBrk brk_LSTAT_POS 0
  let s := (s.set uBrk brk_LSTAT_PRESTATE 0).set uBrk brk_LSTAT_DISSTATE 1
  { s with discharged := false }.modLink fun h => { h with disAt := s.tick, disTiming := true, pulseEnd := none }

/-- The discharge route stops (R298), during a pulse too. -/
def State.routeStop (s : State) : State := s.routeEnd.chopPlace s.tick

/-- DISCHARGE, or the SAFE-HOLD that followed it, is left: the route ends, and no duration is measured any more (R298, R300). -/
def State.dischargeLeave (s : State) : State := s.routeStop.modLink fun h => { h with disTiming := false }

/-- The chopper route starts: its first pulse is on this tick (R299). -/
def State.chopRoute (s : State) : State :=
  (s.set uBrk brk_LSTAT_DISSTATE 3).modLink fun h => { h with nextPulse := s.tick }

/-- DISCHARGE_OPEN_WAIT_END: TOPEN is over and the route starts (R297). -/
def execDischargeOpenWaitEnd (t : Nat) (s : State) : Host.Outcome State Fault Refusal :=
  let s := s.at t
  if s.get uBrk brk_LSTAT_DISSTATE = 1 && s.linkOn && s.due (s.link.disAt + ms (s.get uBrk brk_LDIS2_TOPEN)) then
    if s.get uBrk brk_LDIS0_ROUTE = 1 then .next s.chopRoute
    else .next ((s.set uBrk brk_LSTAT_DISSTATE 2).regGovern)
  else .next s

/-- LDIS2.PER as it acts. -/
def State.pulsePer (s : State) : Nat := clamp 1000 200000 (s.get uBrk brk_LDIS2_PER)

/-- The on-time of a discharge pulse in ticks (R299). -/
def State.pulseTicks (s : State) : Nat :=
  let dmax := s.get uBrk brk_LDIS1_DMAX
  let d := if s.refBound 8 0 then min (max 0 (s.ref 8 0)) (dmax : Int) else (dmax : Int)
  let n := (roundDiv (d * s.pulsePer) 32768).toNat
  if n = 0 then 0 else max n (s.get uBrk brk_LCHOPT_MINON)

/-- DISCHARGE_PULSE: the pulse of the chopper route that is due, one every PER ticks from the first tick of the route (R299). -/
def execDischargePulse (t : Nat) (s : State) : Host.Outcome State Fault Refusal :=
  let s := s.at t
  let d := s.link.nextPulse
  if s.get uBrk brk_LSTAT_DISSTATE = 3 && s.linkOn && s.due d then
    let s := s.modLink fun h => { h with nextPulse := d + s.pulsePer }
    if s.pulseTicks = 0 then .next s
    else .next ((s.modLink fun h => { h with pulseEnd := some (d + s.pulseTicks) }).chopPlace d)
  else .next s

/-- DISCHARGE_PULSE_END: a switch that the hysteretic command does not drive goes off (R289, R299). -/
def execDischargePulseEnd (t : Nat) (s : State) : Host.Outcome State Fault Refusal :=
  let s := s.at t
  match s.link.pulseEnd with
  | none => .next s
  | some e =>
    if s.due e then .next ((s.modLink fun h => { h with pulseEnd := none }).chopPlace e) else .next s

/-- The discharge at a supervision instant (R297, R298, R300). -/
def State.dischargeSample (s : State) (vdc : Int) : State :=
  let st := s.get uBrk brk_LSTAT_DISSTATE
  let low := vdc < (s.get uBrk brk_LDIS0_END : Int)
  if s.link.disTiming && low && (st = 2 || st = 3 || s.inMode .safeHold) then
    let s := s.set uBrk brk_LDISDUR_TICKS (s.tick - s.link.disAt)
    let s := s.modLink fun h => { h with disTiming := false }
    if st = 2 || st = 3 then
      let s := ({ s with discharged := true }.routeStop).raise uBrk 20
      s.regGovern
    else s
  else if st = 2 && 2 ≤ s.get uBrk brk_LDIS0_ROUTE && vdc < (s.get uBrk brk_LDIS1_HAND : Int) then
    (s.chopRoute.raise uBrk 21).regGovern
  else s

/-- The precharge at a supervision instant (R295). -/
def State.preSample (s : State) (vdc pack : Int) : State :=
  if s.get uBrk brk_LSTAT_PRESTATE ≠ 2 then s else
  let n := if s.inWindow vdc pack then s.link.inWindow + 1 else 0
  let s := s.modLink fun h => { h with inWindow := min n 255 }
  if atLeast1 (s.get uBrk brk_LPRE0_NSET) ≤ n then s.prePos else s

/-- An event of the supervision cadence: an instant falls OFS ticks after it (R285). -/
def State.linkEvent (s : State) (cad : Nat) : State :=
  if s.get uBrk brk_LCFG_CAD = cad then s.modLink fun h => { h with events := h.events ++ [s.tick] } else s

/-- A supervision instant (R285 to R298): the three signals are read, the chopper's health is judged while BRK acts, and
precharge and discharge go on. -/
def State.linkInstant (s : State) : State :=
  if !s.linkOn || s.failedCheck.contains uBrk.page then s else
  let sv := s.get uBrk brk_LSIG0_VDC
  let si := s.get uBrk brk_LSIG0_IBRK
  let sp := s.get uBrk brk_LSIG1_PACK
  let s := ((s.sigParity sv).sigParity si).sigParity sp
  let vdc := lo16 (s.sig sv)
  let ibrk := lo16 (s.sig si)
  let pack := lo16 (s.sig sp)
  let s := (s.setQtyI 8 0 vdc).setQtyI 8 1 ibrk
  let s := s.modLink fun h => { h with vdc := vdc, pack := pack }
  let s := if (s.get uBrk brk_LOV2_OV2 : Int) ≤ vdc then s.raise uBrk 18 else s
  let s := s.chopSample vdc ibrk
  let s := if s.acts 8 && s.brkCause vdc ibrk ≠ 0 then s.brkFail (s.brkCause vdc ibrk) else s
  let s := s.setQtyI 8 2 (if s.on uBrk brk_LSTAT_BRKFAIL then 0 else 0x7FFF)
  (s.preSample vdc pack).dischargeSample vdc

/-- The supervision instant that is due, if one is. -/
def State.linkDue (s : State) : State :=
  match s.link.events with
  | e :: es =>
    if s.due (e + s.get uBrk brk_LCFG_OFS) then (s.modLink fun h => { h with events := es }).linkInstant else s
  | [] => s

/-- LINK_SUPERVISION_INSTANT: LCFG.OFS ticks after an event of cadence LCFG.CAD (R285). -/
def execLinkSupervisionInstant (t : Nat) (s : State) : Host.Outcome State Fault Refusal := .next (s.at t).linkDue

/-- PRECHARGE_TIMEOUT: the link has not left BOOST TMAX ms after the command (R295). The count of an instant of the same tick is tested
first. -/
def execPrechargeTimeout (t : Nat) (s : State) : Host.Outcome State Fault Refusal :=
  let s := (s.at t).linkDue
  let p := s.get uBrk brk_LSTAT_PRESTATE
  if (p = 1 || p = 2) && s.due (s.link.preAt + ms (atLeast1 (s.get uBrk brk_LPRE2_TMAX))) then
    .next ((s.preEnd 6).faultR uBrk 0x0441 3)
  else .next s

end Sys2Proof.Machine
end

