-- ==== Sys2Proof/Machine/Charger.lean ====
section
/-!
DEFINITION. The on-board charger (R330 to R349): the modulators of OBA and OBD, the pilot and proximity kernel PPX, and the
export switch of the session kernel SESS.
-/

namespace Sys2Proof.Machine

/-! Load points (R331). -/

/-- The valley or peak of the carrier on tick `d`, which is a load point: at a valley the written period comes into force (R232, R331),
and the slaved cadences count every point (R55). -/
def State.obPoint (s : State) (st d : Nat) (peak : Bool) : State :=
  let p := s.get (uStage st) ob_OCAR_PERIOD
  let s := if peak then s.carrierPeak st else (s.carrierValley st d p p).intervalsFollow st
  (s.carrierPoint st peak d).loadPoint st

/-- Do the load points of OBA or OBD place edges: in RUN, with the interlock up, on a stage that has passed its check (R78,
R340)? -/
def State.obDrives (s : State) (st : Nat) : Bool :=
  s.drives && s.enabled (uStage st) && s.on uSess sess_SSTAT_ILK && !(s.failedCheck.contains (uStage st).page)

/-! The active front end (R332). -/

/-- The duties of a three-phase supply: as in R238 and R239, with the αβ vector scaled to the linear limit and V0 not. -/
def duties3 (vdc v2 : Nat) (v0 : Int) (volts : List Int) : List (Int × Nat) :=
  let f : Nat := if overLinear v2 vdc then linearScale v2 vdc else 2 ^ 40
  let l : List Int := volts.map fun (v : Int) => 2 * v * (f : Int)
  let full : Int := 2 * (vdc : Int) * 2 ^ 31 * 2 ^ 40
  let z := zeroSeq 0 0 full l + 2 * v0 * 2 ^ 31 * 2 ^ 40
  l.map fun v => (full + 2 * (v + z), (2 * full).toNat)

/-- The duties of a single-phase supply, on legs 0 and 1. -/
def duties1 (vdc : Nat) (va v0 : Int) : List (Int × Nat) :=
  [((vdc : Int) + va + 2 * v0, 2 * vdc), ((vdc : Int) - va + 2 * v0, 2 * vdc)]

/-- The modulator of OBA at a load point on tick `d` (R332). A link word of 0 that OVDC.MIN lets through leaves MI and the duties
without a stated value: they are free. -/
def State.obaModulate (s : State) (d : Nat) (peak : Bool) : State :=
  let u := uStage 3
  let h := s.carrierHalf 3 peak
  let one := s.on u ob_OCFG_GRID
  let va := s.ref 3 0
  let vb := s.ref 3 1
  let v0 := s.ref 3 2
  let sig := s.get u ob_OVDC_SIG
  let s := s.sigParity sig
  let vdc := lo16 (s.sig sig)
  let w := vdc.toNat
  let v2 := (va * va + vb * vb).toNat
  let low := vdc < (s.get u ob_OVDC_MIN : Int)
  let free := vdc ≤ 0
  let mi := if free then (Config.freeWord s.freeCtr).toNat % 32768 else modIndex v2 w
  let duties : List (Int × Nat) :=
    if low then List.replicate (if one then 2 else 3) ((1 : Int), 2)
    else if free then (List.range (if one then 2 else 3)).map fun k =>
      (((Config.freeWord (s.freeCtr + 1 + k)).toNat : Int), 2 ^ 32)
    else if one then duties1 w va v0
    else duties3 w v2 v0 (phaseVolts (65536 * va) (65536 * vb))
  let s := if low && !((s.tr 3).vdcLow) then s.raise u 16 else s
  let s := s.modTr 3 fun x => { x with vdcLow := low }
  let s := s.set u ob_OSTAT_VLIM (if !one && !low && !free && overLinear v2 w then 1 else 0)
  let s := if one then s else (s.set u ob_OSTAT_VALUE mi).setQtyI 3 0 mi
  let s := s.setQtyI 3 1 vdc
  let minp := clamp 48 4000 (s.get u ob_OMINP_TICKS)
  let s := forL duties.zipIdx (fun x s =>
    let s := s.setQtyI 3 (2 + x.2) (clampI 0 32767 (roundDiv (x.1.1 * 32768) x.1.2))
    if s.obDrives 3 then s.halfEdges 3 x.2 d h (onTime h minp x.1) peak else s) s
  let s := if one then
      let s := s.setQtyI 3 4 0
      if s.obDrives 3 then s.legCmd 3 2 (32 * d) false false else s
    else s
  { s with freeCtr := s.freeCtr + 4 }

/-- OBA_LOAD_POINT: the next valley or peak of OBA's carrier (R331). -/
def execObaLoadPoint (t : Nat) (peak : Bool) (s : State) : Host.Outcome State Fault Refusal :=
  let s := s.at t
  if !(s.obRuns 3) then .next s else
  match s.carrierDue 3 peak with
  | some d => .next ((s.obPoint 3 d peak).obaModulate d peak)
  | none => .next s

/-! The dual active bridge (R333, R334). -/

/-- OBD at a load point on tick `d`: the phase shift in force moves toward its clamped target, and each bridge switches once (R333,
R334). -/
def State.obdShift (s : State) (d : Nat) (peak : Bool) : State :=
  let u := uStage 4
  let h := s.carrierHalf 4 peak
  let lim : Int := min (s.get u ob_ODAB_PHIMAX) 0x6000
  let target := clampI (-lim) lim (s.ref 4 0)
  let clamped := target < 0 && !(s.on uSess sess_SSTAT_EXPOK)
  let s := if clamped && !(s.on u ob_OSTAT_CLAMPED) then s.raise uSess 1 else s
  let s := s.set u ob_OSTAT_CLAMPED (if clamped then 1 else 0)
  let target := if clamped then 0 else target
  let step : Int := atLeast1 (s.get u ob_ODAB_DSTEP)
  let now := s.geti u ob_OSTAT_VALUE
  let phi := now + clampI (-step) step (target - now)
  let s := (s.seti u ob_OSTAT_VALUE phi).setQtyI 4 0 phi
  if !(s.obDrives 4) then s else
  let o := roundDiv (phi * h * 32) 65536
  let mid : Int := 32 * d + 16 * h
  let pri := (mid - o).toNat
  let sec := (mid + o).toNat
  let up := !peak
  let s := (s.legCmd 4 0 pri up (!up)).legCmd 4 1 pri (!up) up
  (s.legCmd 4 2 sec up (!up)).legCmd 4 3 sec (!up) up

/-- OBD_LOAD_POINT: the next valley or peak of OBD's carrier (R331). -/
def execObdLoadPoint (t : Nat) (peak : Bool) (s : State) : Host.Outcome State Fault Refusal :=
  let s := s.at t
  if !(s.obRuns 4) then .next s else
  match s.carrierDue 4 peak with
  | some d => .next ((s.obPoint 4 d peak).obdShift d peak)
  | none => .next s

/-! Pilot and proximity (R335 to R338). -/

/-- The state with that of the pilot kernel changed. -/
def State.modPilot (s : State) (f : PilotH → PilotH) : State := { s with pilot := f s.pilot }

/-- Does PPX measure (R335)? -/
def State.ppxRuns (s : State) : Bool := !(s.inMode .dormant) && s.enabled uPpx && s.locked

/-- The candidate state of a level (R336); `osc` for the high level of an oscillating pilot. -/
def pilotState (osc : Bool) (v : Int) : Nat :=
  if 10500 < v then 1 else if 7500 < v then 2 else if 4500 < v then 3 else if 1500 < v then 4
  else if osc then 7
  else if -1500 < v then 5 else if v ≤ -10500 then 6 else 7

/-- The pilot current of a duty in ‰ (R337). -/
def pilotCurrent (d : Nat) : Nat :=
  if 80 ≤ d && d ≤ 99 then 60
  else if 100 ≤ d && d ≤ 850 then (roundDiv (d * 6) 10).toNat
  else if 851 ≤ d && d ≤ 960 then (roundDiv (((d : Int) - 640) * 25) 10).toNat
  else if 961 ≤ d && d ≤ 970 then 800
  else 0

/-- ICP set, with its event at a change (R337). -/
def State.setIcp (s : State) (v : Nat) : State :=
  if s.get uPpx ppx_PDUTY_ICP = v then s
  else ((s.set uPpx ppx_PDUTY_ICP v).setObc 0 2 v).raise uPpx 1

/-- DUTY set. -/
def State.setDuty (s : State) (v : Nat) : State := (s.set uPpx ppx_PDUTY_DUTY v).setObc 0 1 v

/-- An evaluation gives a candidate (R336): enough consecutive ones that agree on a new state bring it into force. -/
def State.pilotCandidate (s : State) (c : Nat) : State :=
  if c = s.get uPpx ppx_PSTAT_STATE then s.modPilot fun h => { h with cand := c, count := 0 } else
  let n := if s.pilot.cand = c then s.pilot.count + 1 else 1
  let s := s.modPilot fun h => { h with cand := c, count := min n 16 }
  let need := atLeast1 (s.get uPpx (if 5 ≤ c then ppx_PPCFG_DEBF else ppx_PPCFG_DEB))
  if n < need then s else
  let s := s.modPilot fun h => { h with count := 0 }
  let s := (s.set uPpx ppx_PSTAT_STATE c).setObc 0 0 c
  (s.inc uPpx ppx_PSTCNT_COUNT).raise uPpx 0

/-- An evaluation of an oscillating pilot with period `p` and high time `th` (R335 to R337). -/
def State.pilotEvaluate (s : State) (p th : Nat) : State :=
  let duty := (roundDiv ((1000 * th : Nat) : Int) p).toNat
  let ok := 392000 ≤ p && p ≤ 408000
  let wasOk := s.on uPpx ppx_PSTAT_FREQOK
  let s := ((s.set uPpx ppx_PPER_TICKS (min p 0xFFFFF)).set uPpx ppx_PSTAT_OSC 1).setDuty duty
  let s := s.set uPpx ppx_PSTAT_FREQOK (if ok then 1 else 0)
  let s := if wasOk && !ok then s.raise uPpx 3 else s
  let s := s.set uPpx ppx_PSTAT_DIG (if ok && 30 ≤ duty && duty ≤ 70 then 1 else 0)
  let s := s.setIcp (if ok then pilotCurrent duty else 0)
  let diode := -10500 < s.geti uPpx ppx_PLVL_LO
  let s := if diode then s.raise uPpx 4 else s
  s.pilotCandidate (if diode then 7 else pilotState true (s.geti uPpx ppx_PLVL_HI))

/-- PILOT_EDGE: a filtered edge counts; a rising one closes a period and an evaluation follows (R335). -/
def execPilotEdge (t : Nat) (rising : Bool) (s : State) : Host.Outcome State Fault Refusal :=
  let s := s.at t
  if !(s.ppxRuns) then .next s else
  let was := s.pilot
  let s := s.modPilot fun h => { h with edge := s.tick, steady := none }
  if !rising then
    .next (s.modPilot fun h => { h with high := s.tick - (h.rise.getD s.tick) })
  else
    let s := s.modPilot fun h => { h with rise := some s.tick, high := 0 }
    match was.rise with
    | none => .next s
    | some r =>
      if s.tick ≤ r then .next s else .next ((s.pilotEvaluate (s.tick - r) was.high).outputs)

/-- PILOT_LEVEL_SAMPLE: the pilot converter samples the middle of a high or a low interval, in mV (R335). -/
def execPilotLevelSample (t : Nat) (high : Bool) (mv : Int) (s : State) : Host.Outcome State Fault Refusal :=
  let s := s.at t
  if !(s.ppxRuns) then .next s
  else .next (s.seti uPpx (if high then ppx_PLVL_HI else ppx_PLVL_LO) (satQ15 mv))

/-- PILOT_STEADY_EVALUATION: no edge has come for 800,000 ticks, and the level sampled now is evaluated; the next evaluation
follows 400,000 ticks on (R335). -/
def execPilotSteadyEvaluation (t : Nat) (mv : Int) (s : State) : Host.Outcome State Fault Refusal :=
  let s := s.at t
  let at_ := match s.pilot.steady with
    | some a => a + 400000
    | none => s.pilot.edge + 800000
  if !(s.ppxRuns) || s.tick < at_ then .next s else
  let s := s.modPilot fun h => { h with steady := some at_ }
  let s := (s.seti uPpx ppx_PLVL_HI (satQ15 mv)).setDuty (if 0 < mv then 1000 else 0)
  let s := ((s.set uPpx ppx_PSTAT_OSC 0).set uPpx ppx_PSTAT_FREQOK 0).set uPpx ppx_PSTAT_DIG 0
  .next (((s.setIcp 0).pilotCandidate (pilotState false mv)).outputs)

/-- The decode of a proximity resistance (R338): PP and IPP. -/
def proximity (r : Nat) : Nat × Nat :=
  if 4500 < r then (0, 0)
  else if 1100 ≤ r && r ≤ 2460 then (1, 130)
  else if 400 ≤ r && r ≤ 936 then (2, 200)
  else if 164 ≤ r && r ≤ 308 then (3, 320)
  else if 75 ≤ r && r ≤ 140 then (4, 630)
  else (5, 0)

/-- PROXIMITY_MEASUREMENT: the measurement of the resistance on PROX, in Ω, that is due, one every 1 ms (R338). -/
def execProximityMeasurement (t ohms : Nat) (s : State) : Host.Outcome State Fault Refusal :=
  let s := s.at t
  if !(s.ppxRuns) || !(s.due s.pilot.ppNext) then .next s else
  let s := (s.set uPpx ppx_PRES_OHMS (min ohms 0xFFFF)).modPilot fun h => { h with ppNext := if h.ppNext + ms 1 ≤ s.tick then s.tick + ms 1 else h.ppNext + ms 1 }
  let (pp, ipp) := proximity ohms
  let n := if s.pilot.pp = pp then s.pilot.ppCount + 1 else 1
  let s := s.modPilot fun h => { h with pp := pp, ppCount := min n 16 }
  if pp = s.get uPpx ppx_PSTAT_PP || n < s.get uPpx ppx_PPCFG_PPDEB then .next s else
  let s := ((s.set uPpx ppx_PSTAT_PP pp).set uPpx ppx_PRES_IPP ipp).setObc 0 3 ipp
  .next ((s.raise uPpx 2).outputs)

/-- PPX starts to measure: an edge is waited for from now. -/
def State.pilotStart (s : State) : State :=
  s.modPilot fun h => { h with edge := s.tick, rise := none, steady := none, count := 0, ppCount := 0, ppNext := s.tick + ms 1 }

/-! Export and registers. -/

/-- The enable check of OBA and OBD (R346): 0x0601 OCFG. -/
def State.obCheck (s : State) (st : Nat) : Option Nat :=
  if periodOk (s.get (uStage st) ob_OCAR_PERIOD) then none else some 0x0601

/-- After a write of OCAR: an invalid period stops the carrier (R230, R331, R346). -/
def State.ocarWritten (s : State) (st : Nat) : State :=
  if s.enabled (uStage st) && !(periodOk (s.get (uStage st) ob_OCAR_PERIOD)) then s.failCheck (uStage st) 0x0601 else s

/-- The source of an OPUB entry. -/
def opubSrc (w : Word) : Nat := bits w 20 2

/-- The writer instance of an OPUB entry (R344). -/
def opubInst (w : Word) : Nat :=
  match opubSrc w with
  | 0 => 0x200 + pubQ w
  | 1 => 0x210 + pubQ w
  | 2 => 0x130 + pubQ w
  | _ => 0x140 + pubQ w

/-- The type of a charger quantity; none where there is no such quantity (R344). -/
def opubType (w : Word) : Option Nat :=
  let q := pubQ w
  match opubSrc w with
  | 0 => if q < 4 then some 1 else none
  | 1 => if q = 1 then some 0 else if q < 3 then some 1 else none
  | 2 => if q < 5 then some 0 else if q = 15 then some 1 else none
  | _ => if q = 0 then some 0 else if q = 15 then some 1 else none

/-- After a write of OPUBk, which publishes as R252 defines (R344, R349): a rejection is fault 0x0304 PUB (log entry 12). -/
def State.opubWritten (s : State) (k : Nat) (old : Word) : State :=
  s.pubBind uObc (0x80 + 4 * k) opubInst opubType old 0x0304

end Sys2Proof.Machine
end

