-- ==== Sys2Proof/Machine/Act.lean ====
section
/-!
DEFINITION. The commutation kernels of the gearbox actuators (R350 to R371).
-/

namespace Sys2Proof.Machine

/-! Sectors and roles (R354). -/

/-- A phase's role. -/
inductive Role where
  | high | low | float
deriving DecidableEq, Repr

/-- The High, Low and Floating phase of a sector, a to c as 0 to 2. -/
def sectorPhases (sec : Nat) : Nat × Nat × Nat :=
  match sec % 6 with
  | 0 => (0, 1, 2)
  | 1 => (0, 2, 1)
  | 2 => (1, 2, 0)
  | 3 => (1, 0, 2)
  | 4 => (2, 0, 1)
  | _ => (2, 1, 0)

/-- The role of a phase in a sector. -/
def roleOf (sec k : Nat) : Role :=
  let (h, l, _) := sectorPhases sec
  if k = h then .high else if k = l then .low else .float

/-- Does the floating phase of a sector cross rising? In DIR 0 it does in the odd sectors. -/
def crossRising (sec : Nat) (dir : Bool) : Bool := (sec % 2 = 1) != dir

/-- The sector after `sec` in a direction. -/
def nextSector (sec : Nat) (dir : Bool) : Nat := if dir then (sec + 5) % 6 else (sec + 1) % 6

/-- The sector whose crossing is the one of a phase and a polarity, in a direction. -/
def crossSector (k : Nat) (rising dir : Bool) : Nat :=
  ((List.range 6).find? fun sec => (sectorPhases sec).2.2 = k && crossRising sec dir = rising).getD 0

/-- DIR in force. -/
def State.cmDir (s : State) (n : Nat) : Bool := s.on (uCm n) cm_ASTAT_DIR

/-- The state and the sector in force of a kernel. -/
def State.cmState (s : State) (n : Nat) : Nat := s.get (uCm n) cm_ASTAT_STATE
def State.cmSector (s : State) (n : Nat) : Nat := s.get (uCm n) cm_ASTAT_SECTOR

/-- The sector in force set, with quantity 4 SECTOR. -/
def State.cmSetSector (s : State) (n v : Nat) : State := (s.set (uCm n) cm_ASTAT_SECTOR v).setQtyI (5 + n) 4 v

/-- ASTEPS stepped in the direction in force (R354), with quantity 2 STEPS; a host preset on the same tick stands, and the
step is added to it (R368). -/
def State.cmStep (s : State) (n : Nat) : State :=
  let v := s.geti (uCm n) cm_ASTEPS_COUNT + (if s.cmDir n then -1 else 1)
  let s := (s.seti (uCm n) cm_ASTEPS_COUNT v).note ((uCm n).addr cm_ASTEPS_COUNT.off)
  s.setQtyI (5 + n) 2 v

/-! Commutation (R356). -/

/-- SOFT as it acts, in degrees. -/
def State.cmSoft (s : State) (n : Nat) : Nat := clamp 5 30 (s.get (uCm n) cm_ACFG_SOFT)

/-- The length of a soft window for a T60. -/
def State.softWindow (s : State) (n t60 : Nat) : Nat := (roundDiv ((s.cmSoft n * t60 : Nat) : Int) 60).toNat

/-- The incoming share at a peak, as a fraction. -/
def Commut.share (c : Commut) (p : Nat) : Nat × Nat :=
  if c.ts = 0 then (if c.at_ ≤ p then 1 else 0, 1)
  else
    let start : Int := if c.after then 2 * c.at_ else 2 * c.at_ - c.ts
    ((clampI 0 (2 * c.ts : Nat) (2 * (p : Int) - start)).toNat, 2 * c.ts)

/-- Has the window of a commutation begun at a peak? -/
def Commut.begun (c : Commut) (p : Nat) : Bool := (c.share p).1 ≠ 0

/-- The commutation that governs the roles at a peak: the scheduled one once its window has begun, else the last. -/
def State.cmGoverns (s : State) (n p : Nat) : Option Commut :=
  match (s.kn n).next with
  | some c => if c.begun p then some c else (s.kn n).prev
  | none => (s.kn n).prev

/-- The role and the share of a phase at a peak. In ALIGN, phase c has the Low role as well (R361). -/
def State.cmRole (s : State) (n k p : Nat) : Role × Nat × Nat :=
  if s.cmState n = 1 then (if k = 0 then .high else .low, 1, 1)
  else match s.cmGoverns n p with
  | none => (roleOf (s.cmSector n) k, 1, 1)
  | some c =>
    let (w, d) := c.share p
    let r0 := roleOf c.from_ k
    let r1 := roleOf c.goal k
    if r0 = r1 then (r0, 1, 1)
    else if r1 = .float then (r0, d - w, d)
    else (r1, w, d)

/-- A commutation is done: sector, ASTEPS and SECTOR change, and the detector is disarmed (R354, R356, R357). -/
def State.commutate (s : State) (n : Nat) (c : Commut) : State :=
  let s := s.modKn n fun h => { h with prev := some c, next := none, hard := false, outZero := none, armed := false }
  (s.cmSetSector n c.goal).cmStep n

/-- T60 in force set (R362). -/
def State.cmT60 (s : State) (n t60 : Nat) : State :=
  (s.set (uCm n) cm_AT60_TICKS t60).modKn n fun h => { h with timed := true }

/-- SPEED of a T60 (R362). -/
def State.cmSpeed (s : State) (n : Nat) : State :=
  let t60 := atLeast1 (s.get (uCm n) cm_AT60_TICKS)
  let v := min 32767 (roundDiv (2 ^ 32) (6 * t60))
  s.setQtyI (5 + n) 1 (if s.cmDir n then -v else v)

/-- A crossing or Hall edge, real or synthetic, is recorded. -/
def State.cmCross (s : State) (n t : Nat) : State :=
  (s.set (uCm n) cm_ALASTZC_STAMP t).modKn n fun h => { h with cross := some t }

/-- After a crossing in CLOSED the next commutation is scheduled (R362). -/
def State.cmSchedule (s : State) (n tz : Nat) : State :=
  let t60 := s.get (uCm n) cm_AT60_TICKS
  let c := tz + (roundDiv (t60 : Int) 2).toNat
  s.modKn n fun h => { h with
    next := some ⟨c, s.softWindow n t60, s.cmSector n, nextSector (s.cmSector n) (s.cmDir n), false⟩ }

/-- Entry to CLOSED: a START in progress is done (R359). -/
def State.cmClosed (s : State) (n : Nat) : State :=
  let s := (s.cmSetState n 3).inc (uCm n) cm_ASTARTCNT_COUNT
  let s := (s.set (uCm n) cm_ASTAT_MISS 0).modKn n fun h => { h with doneAt := none, seen := [], hard := false }
  if s.on (uCm n) cm_ACTL_START then
    ((s.set (uCm n) cm_ACTL_START 0).cor (uCm n) cm_ARES_DONE 1).modKn n fun h => { h with doneAt := some s.tick }
  else s

/-! The drive. -/

/-- All legs off at the present tick. -/
def State.cmOff (s : State) (n : Nat) : State :=
  let s := forN 3 (fun leg s => s.legCmd (5 + n) leg (32 * s.tick) false false) s
  (s.modKn n fun h => { h with prev := none, next := none, hard := false, armed := false, outZero := none }).setQtyI (5 + n) 0 0

/-- FAULTED with a fault (R365, R367). -/
def State.cmFaulted (s : State) (n code ev cause : Nat) : State :=
  let s := (s.cmOff n).cmSetState n 6
  ((s.cmAbortStart n cause).raise (uCm n) ev).faultR (uCm n) code 1

/-- A start fails (R361). -/
def State.cmStartFail (s : State) (n : Nat) : State :=
  let s := (s.cmOff n).cmSetState n 0
  ((s.cmAbortStart n 6).raise (uCm n) 1).faultR (uCm n) 0x0710 0

/-- CATCH is entered with all legs off (R365, R366). -/
def State.cmCatch (s : State) (n : Nat) (lost : Bool) : State :=
  let s := (s.cmOff n).modKn n fun h => { h with stateAt := s.tick, lost := lost, restart := false, seen := [] }
  s.cmSetState n 4

/-- The minimum-pulse rule for an on-time given as a fraction of ticks in a period of `per` ticks (R355). -/
def minPulseFrac (minp per : Nat) (x : Nat × Nat) : Nat × Nat :=
  let short := fun (v : Nat × Nat) =>
    if v.1 = 0 || minp * v.2 ≤ v.1 then v else if 2 * v.1 < minp * v.2 then (0, v.2) else (minp * v.2, v.2)
  let on := short x
  let off := short (per * on.2 - on.1, on.2)
  (per * off.2 - off.1, off.2)

/-- One switch of a leg on for a time centred on the peak of the period that begins at tick `t`; `rest` is the command
outside the pulse and `on` inside it. -/
def State.cmPulse (s : State) (st leg t per : Nat) (x : Nat × Nat) (on rest : Bool × Bool) : State :=
  if x.1 = 0 then s.legCmd st leg (32 * t) rest.1 rest.2
  else if per * x.2 ≤ x.1 then s.legCmd st leg (32 * t) on.1 on.2
  else
    let p32 : Int := 32 * t + 16 * per
    let a := roundDiv (p32 * x.2 - 16 * x.1) x.2
    let b := roundDiv (p32 * x.2 + 16 * x.1) x.2
    ((s.legCmd st leg (32 * t) rest.1 rest.2).legCmd st leg a.toNat on.1 on.2).legCmd st leg b.toNat rest.1 rest.2

/-- The duty in force, in Q15; 32,768 stands for exactly 1.0 (R355). -/
def State.cmDuty (s : State) (n : Nat) : Nat :=
  match s.cmState n with
  | 1 => s.get (uCm n) cm_AALIGN_DUTY
  | 2 => s.get (uCm n) cm_ARAMP0_DUTY
  | 3 => if s.cmSat n then 32768 else (max 0 (s.ref (5 + n) 0)).toNat
  | _ => 0

/-- A leg driven over the period that begins at tick `t` (R355). -/
def State.cmLeg (s : State) (n leg t per : Nat) : State :=
  let st := 5 + n
  let minp := clamp 48 4000 (s.get (uCm n) cm_AMINP_TICKS)
  match s.cmRole n leg (t + per / 2) with
  | (.float, _, _) => s.legCmd st leg (32 * t) false false
  | (.high, w, d) =>
    if w = 0 then s.legCmd st leg (32 * t) false false
    else s.cmPulse st leg t per (minPulseFrac minp per (w * s.cmDuty n * per, d * 32768)) (true, false) (false, w = d)
  | (.low, w, d) =>
    if w = d then s.legCmd st leg (32 * t) false true
    else s.cmPulse st leg t per (minPulseFrac minp per (w * per, d)) (false, true) (false, false)

/-- The phase currents (R352). -/
def State.cmCurrent (s : State) (n k : Nat) : Int :=
  let ia := lo16 (s.sig (s.get (uCm n) cm_ACUR_IA))
  let ib := lo16 (s.sig (s.get (uCm n) cm_ACUR_IB))
  if !(s.on (uCm n) cm_ACUR_EN) then 0 else
  match k with
  | 0 => ia
  | 1 => ib
  | _ => satQ15 (-ia - ib)

/-- A STOP that waited takes effect at a load point on tick `d` (R360). -/
def State.cmStopNow (s : State) (n d : Nat) : State :=
  let s := (s.cmOff n).modKn n fun h => { h with stopping := false, stateAt := d }
  if s.on (uCm n) cm_ACFG_BRAKE then
    forN 3 (fun leg s => s.legCmd (5 + n) leg (32 * d) false true) (s.cmSetState n 5)
  else s.cmSetState n 0

/-- The drive of the period that begins at a load point on tick `d`; the detector arms from the first load point at which the outgoing
share is 0 (R357). -/
def State.cmDrive (s : State) (n d per : Nat) : State :=
  let c := s.cmState n
  if !(1 ≤ c && c ≤ 3) || !s.drives then s else
  let s := s.setQtyI (5 + n) 0 (min (s.cmDuty n) 32767)
  let s := forN 3 (fun leg s => s.cmLeg n leg d per) s
  let p := d + per / 2
  let zero := match (s.kn n).prev with
    | some c => c.at_ ≤ p && (c.share p).1 = (c.share p).2
    | none => true
  if zero && (s.kn n).outZero.isNone then s.modKn n fun h => { h with outZero := some d } else s

/-- AC_LOAD_POINT: the next valley of a kernel's carrier (R355). -/
def execAcLoadPoint (t n : Nat) (s : State) : Host.Outcome State Fault Refusal :=
  let s := s.at t
  let n := n % 3
  if !(s.acRuns n) then .next s else
  match s.carrierDue (5 + n) false with
  | none => .next s
  | some d =>
  let per := s.get (uCm n) cm_ACAR_PERIOD
  let s := s.modTr (5 + n) fun h => { h with period := per, len := per, valley := d, next := some (d + per) }
  -- the peak of the period that begins falls half a period later (R55, R350)
  let s := ((s.intervalsFollow (5 + n)).carrierPoint (5 + n) false d).carrierPoint (5 + n) true (d + per / 2)
  let s := s.loadPoint (5 + n)
  let s := ((s.sigParity (s.get (uCm n) cm_ACUR_IA)).sigParity (s.get (uCm n) cm_ACUR_IB))
  let s := s.setQtyI (5 + n) 5 (s.cmCurrent n (sectorPhases (s.cmSector n)).1)
  let s := if (s.kn n).stopping then s.cmStopNow n d else s
  let s := if (s.kn n).hard && s.cmState n = 3 then
      s.commutate n ⟨d, 0, s.cmSector n, nextSector (s.cmSector n) (s.cmDir n), false⟩
    else s
  .next (s.cmDrive n d per)

/-! Start and stop (R359 to R361). -/

/-- T60_j of the ramp (R361); none where the table is absent. -/
def State.rampT60 (s : State) (n j : Nat) : Option Nat :=
  let x := min (j * s.get (uCm n) cm_ARAMP1_XSTEP) 0x7FFF
  (s.curve1 (s.kn n).bank (s.get (uCm n) cm_ARAMP0_TABLE) x).map fun y =>
    (max 1000 (y * (s.get (uCm n) cm_ARAMP1_TSCALE : Int))).toNat

/-- ALIGN begins (R361): the table is looked up in the bank of the run, and a start without it fails at once. -/
def State.cmAlign (s : State) (n : Nat) : State :=
  let s := s.modKn n fun h => { h with
    stateAt := s.tick, bank := s.activeBank, valid := 0, validHere := false, prev := none, next := none, hard := false
    armed := false, outZero := none, cross := none, timed := false }
  let s := s.touchTable s.activeBank (s.get (uCm n) cm_ARAMP0_TABLE) 1
  match s.rampT60 n 0 with
  | none => s.cmStartFail n
  | some _ => (s.cmSetSector n 0).cmSetState n 1

/-- The sector of a Hall code in the direction in force (R367); 6 and 7 are invalid. -/
def State.hallSector (s : State) (n : Nat) : Option Nat :=
  let c := (s.sig (s.get (uCm n) cm_AHALL_SIG)).toNat % 8
  let m := s.get (uCm n) cm_AHMAP_MAP / 8 ^ c % 8
  if 6 ≤ m then none else some (if s.cmDir n then (m + 3) % 6 else m)

/-- A start in Hall mode enters CLOSED at once (R367); an invalid code is the fault of an edge to one. -/
def State.cmHallStart (s : State) (n : Nat) : State :=
  let s := s.modKn n fun h => { h with prev := none, next := none, hard := false, cross := none, timed := false }
  let s := s.sigParity (s.get (uCm n) cm_AHALL_SIG)
  match s.hallSector n with
  | none => s.cmFaulted n 0x0721 6 6
  | some sec => ((s.cmSetSector n sec).cmClosed n).raise (uCm n) 0

/-- ACTL.START written 1 (R359). -/
def State.cmStart (s : State) (n : Nat) : State :=
  let u := uCm n
  let refuse := fun c => (s.cause u cm_ARES_CAUSE c).cor u cm_ARES_REFUSED 1
  if !(s.inMode .run) then refuse 1
  else if !(s.enabled u) || s.failedCheck.contains u.page then refuse 2
  else if s.cmState n = 6 || s.glatch (5 + n) then refuse 3
  else if s.cmState n ≠ 0 then refuse 4
  else
    let s := (s.set u cm_ACTL_START 1).set u cm_ASTAT_DIR (s.get u cm_ACTL_DIR)
    let s := (s.set u cm_ASTAT_MISS 0).modKn n fun _ => {}
    if s.on u cm_ACFG_HALL then s.cmHallStart n else s.cmAlign n

/-- The drive is to end at the next load point. -/
def State.cmStopLater (s : State) (n : Nat) : State :=
  if s.cmState n = 0 || 5 ≤ s.cmState n then s else s.modKn n fun h => { h with stopping := true }

/-- ACTL.STOP (R359, R360, R368). -/
def State.cmStop (s : State) (n : Nat) : State :=
  let c := s.cmState n
  if c = 6 || c = 7 || (c = 4 && (s.kn n).lost) then s
  else if s.on (uCm n) cm_ACTL_START then (s.cmAbortStart n 5).cmStopLater n
  else
    let s := if (s.kn n).doneAt = some s.tick then s.cor (uCm n) cm_ARES_ABORTLATE 1 else s
    s.cmStopLater n

/-- START written 0 while it reads 1: the start is aborted and the drive ends as at a STOP (R359). -/
def State.cmStartClear (s : State) (n : Nat) : State :=
  if s.on (uCm n) cm_ACTL_START then (s.cmAbortStart n 5).cmStopLater n
  else if (s.kn n).doneAt = some s.tick then s.cor (uCm n) cm_ARES_ABORTLATE 1
  else s

/-- Commutation j of the ramp at the present instant, and the schedule of the next (R361). The commutation that ends ALIGN
starts from the roles of sector 0. -/
def State.rampCommutate (s : State) (n j : Nat) : State :=
  let h := s.kn n
  match s.rampT60 n j with
  | none => s.cmStartFail n
  | some t60 =>
    let c : Commut := match h.next with
      | some c => { c with at_ := s.tick }
      | none => ⟨s.tick, s.softWindow n t60, s.cmSector n, nextSector (s.cmSector n) (s.cmDir n), false⟩
    let s := s.commutate n c
    let sec := s.cmSector n
    let s := s.modKn n fun h => { h with
      j := j, rampAt := s.tick, t60j := t60, validHere := false, valid := if h.validHere then h.valid else 0
      next := some ⟨s.tick + t60, s.softWindow n t60, sec, nextSector sec (s.cmDir n), false⟩ }
    s.cmT60 n t60

/-- ALIGN_END: the align time is over, and commutation 0 follows (R361). -/
def execAlignEnd (t n : Nat) (s : State) : Host.Outcome State Fault Refusal :=
  let s := s.at t
  let n := n % 3
  if s.cmState n = 1 && s.due ((s.kn n).stateAt + ms (atLeast1 (s.get (uCm n) cm_AALIGN_MS))) then
    let s := s.cmSetState n 2
    if s.get (uCm n) cm_ARAMP2_NMAX = 0 then .next (s.cmStartFail n) else .next (s.rampCommutate n 0)
  else .next s

/-- RAMP_COMMUTATION: T60_j after commutation j (R361); at NMAX the start has failed. -/
def execRampCommutation (t n : Nat) (s : State) : Host.Outcome State Fault Refusal :=
  let s := s.at t
  let n := n % 3
  let h := s.kn n
  if s.cmState n = 2 && s.due (h.rampAt + h.t60j) then
    if s.get (uCm n) cm_ARAMP2_NMAX ≤ h.j + 1 then .next (s.cmStartFail n) else .next (s.rampCommutate n (h.j + 1))
  else .next s

/-! Crossings (R357, R361, R362, R365). -/

/-- ZERO_CROSS_ARM: ZBLANK after the first load point with an outgoing share of 0 (R357). -/
def execZeroCrossArm (t n : Nat) (s : State) : Host.Outcome State Fault Refusal :=
  let s := s.at t
  let n := n % 3
  match (s.kn n).outZero with
  | some z => if s.due (z + s.get (uCm n) cm_AZB_ZBLANK) then .next (s.modKn n fun h => { h with armed := true }) else .next s
  | none => .next s

/-- A crossing in RAMP (R361): a valid one counts once in its sector, and the handover follows the N-th in a row. -/
def State.rampCross (s : State) (n tz : Nat) : State :=
  let h := s.kn n
  let off := (512 * ((tz : Int) - h.rampAt) - 256 * h.t60j).natAbs
  if h.validHere || 2 * s.get (uCm n) cm_AHAND_WIN * h.t60j < off then s else
  let k := h.valid + 1
  let s := s.modKn n fun h => { h with valid := min k 16, validHere := true }
  if k < atLeast1 (s.get (uCm n) cm_AHAND_N) then s else
  let s := ((s.cmClosed n).raise (uCm n) 0).cmT60 n h.t60j
  ((s.cmCross n tz).cmSchedule n tz).cmSpeed n

/-- A counted crossing in CLOSED (R362). -/
def State.closedCross (s : State) (n tz : Nat) : State :=
  let s := match (s.kn n).cross with
    | some t0 => s.cmT60 n (atLeast1 (tz - t0))
    | none => s
  let s := s.set (uCm n) cm_ASTAT_MISS 0
  ((s.cmCross n tz).cmSchedule n tz).cmSpeed n

/-- Do the newest crossings of CATCH, newest first, step through the sectors in a direction with steady intervals (R365)? -/
def steady (win : Nat) (dir : Bool) : List (Nat × Nat) → Bool
  | (t2, s2) :: (t1, s1) :: r =>
    s2 = nextSector s1 dir && steady win dir ((t1, s1) :: r) &&
      (match r with
       | (t0, _) :: _ => (256 * (((t2 : Int) - t1) - ((t1 : Int) - t0))).natAbs ≤ win * (t1 - t0)
       | [] => true)
  | _ => true

/-- A crossing in CATCH (R365): with N consistent ones in DIR the kernel is caught. With N = 1 no interval gives T60,
which is then a free value. -/
def State.catchCross (s : State) (n k tz : Nat) (rising : Bool) : State :=
  let need := atLeast1 (s.get (uCm n) cm_ACATCH_N)
  let sec := crossSector k rising (s.cmDir n)
  let l := ((tz, sec) :: (s.kn n).seen).take need
  let s := s.modKn n fun h => { h with seen := l }
  if l.length < need || !(steady (s.get (uCm n) cm_AHAND_WIN) (s.cmDir n) l) then s else
  let t60 := match l with
    | (t1, _) :: (t0, _) :: _ => t1 - t0
    | _ => (Config.freeWord s.freeCtr).toNat
  let s := if need = 1 then s.fresh else s
  let s := ((s.cmSetSector n sec).cmClosed n).raise (uCm n) 4
  let s := s.cmT60 n (atLeast1 t60)
  ((s.cmCross n tz).cmSchedule n tz).cmSpeed n

/-- ZERO_CROSSING: the comparator of phase `k` has agreed on a new side; `stamp` is the tick of the first of the agreeing
samples (R357). -/
def execZeroCrossing (t n k : Nat) (rising : Bool) (stamp : Nat) (s : State) : Host.Outcome State Fault Refusal :=
  let s := s.at t
  let n := n % 3
  let k := k % 3
  let tz := min stamp s.tick
  let sec := s.cmSector n
  let counts := !(s.on (uCm n) cm_ACFG_HALL) && (s.kn n).armed && (sectorPhases sec).2.2 = k &&
    crossRising sec (s.cmDir n) = rising
  match s.cmState n with
  | 2 => if counts then .next (s.rampCross n tz) else .next s
  | 3 => if counts && (s.kn n).next.isNone && !((s.kn n).hard) then .next (s.closedCross n tz) else .next s
  | 4 => .next (s.catchCross n k tz rising)
  | _ => .next s

/-- COMMUTATION: the instant c of the scheduled commutation in CLOSED (R356, R362). -/
def execCommutation (t n : Nat) (s : State) : Host.Outcome State Fault Refusal :=
  let s := s.at t
  let n := n % 3
  match (s.kn n).next with
  | some c => if s.cmState n = 3 && s.due c.at_ then .next (s.commutate n c) else .next s
  | none => .next s

/-- CROSSING_DEADLINE: no counted crossing has arrived by tz + floor(3 T60 / 2) (R364, R365). -/
def execCrossingDeadline (t n : Nat) (s : State) : Host.Outcome State Fault Refusal :=
  let s := s.at t
  let n := n % 3
  let u := uCm n
  let t60 := s.get u cm_AT60_TICKS
  match (s.kn n).cross with
  | none => .next s
  | some tz =>
    if s.cmState n ≠ 3 || !((s.kn n).timed) || !(s.due (tz + 3 * t60 / 2)) then .next s else
    let m := s.get u cm_ASTAT_MISS + 1
    let s := ((s.set u cm_ASTAT_MISS m).inc u cm_AMISSCNT_COUNT).raise u 2
    if 2 ≤ m then .next ((s.raise u 3).cmCatch n true)
    else .next ((s.cmCross n (tz + t60)).modKn n fun h => { h with hard := true, next := none })

/-- CATCH_END: the catch time is over without a consistent sequence (R365); after a trip, with no crossing seen, the rotor
stands still and the kernel starts again from ALIGN (R366), in Hall mode in the sector of the present code. -/
def execCatchEnd (t n : Nat) (s : State) : Host.Outcome State Fault Refusal :=
  let s := s.at t
  let n := n % 3
  let h := s.kn n
  if s.cmState n ≠ 4 || !(s.due (h.stateAt + ms (atLeast1 (s.get (uCm n) cm_ACATCH_MS)))) then .next s
  else if h.restart && h.seen = [] then
    if s.on (uCm n) cm_ACFG_HALL then .next (s.cmHallStart n) else .next (s.cmAlign n)
  else .next (s.cmFaulted n 0x0720 5 7)

/-- BRAKE_END: the brake time is over (R360). -/
def execBrakeEnd (t n : Nat) (s : State) : Host.Outcome State Fault Refusal :=
  let s := s.at t
  let n := n % 3
  if s.cmState n = 5 && s.due ((s.kn n).stateAt + ms (s.get (uCm n) cm_ABRK_MS)) then .next ((s.cmOff n).cmSetState n 0)
  else .next s

/-- HALL_EDGE: the Hall signal has changed to the code it holds now (R367). -/
def execHallEdge (t n : Nat) (s : State) : Host.Outcome State Fault Refusal :=
  let s := s.at t
  let n := n % 3
  if !(s.on (uCm n) cm_ACFG_HALL) || s.cmState n ≠ 3 then .next s else
  let s := s.sigParity (s.get (uCm n) cm_AHALL_SIG)
  let cur := s.cmSector n
  match s.hallSector n with
  | none => .next (s.cmFaulted n 0x0721 6 7)
  | some sec =>
    if sec ≠ (cur + 1) % 6 && sec ≠ (cur + 5) % 6 then .next (s.cmFaulted n 0x0721 6 7) else
    let s := match (s.kn n).cross with
      | some t0 => s.cmT60 n (atLeast1 (s.tick - t0))
      | none => s
    let s := (s.cmCross n s.tick).set (uCm n) cm_ASTAT_MISS 0
    let ts := s.softWindow n (s.get (uCm n) cm_AT60_TICKS)
    let s := s.commutate n ⟨s.tick, ts, cur, sec, true⟩
    .next (if (s.kn n).timed then s.cmSpeed n else s)

/-! Checks and clears. -/

/-- The enable check of a kernel (R370): 0x0701 ACFG. -/
def State.cmCheck (s : State) (n : Nat) : Option Nat :=
  let u := uCm n
  let map_ := ((List.range 8).map fun c => s.get u cm_AHMAP_MAP / 8 ^ c % 8).filter (· < 6)
  let bad := !(periodOk (s.get u cm_ACAR_PERIOD)) ||
    (s.on u cm_ACUR_EN && (s.dir (s.get u cm_ACUR_IA) dir_TYPE ≠ 0 || s.dir (s.get u cm_ACUR_IB) dir_TYPE ≠ 0)) ||
    (s.on u cm_ACFG_HALL && (s.dir (s.get u cm_AHALL_SIG) dir_TYPE ≠ 1 || map_.eraseDups.length < 6))
  if bad then some 0x0701 else none

/-- UCTL.FCLR on a kernel (R358, R368). -/
def State.cmFclr (s : State) (n : Nat) : State :=
  let s := s.set (uCm n) hdr_USTAT_OWNF 0
  if s.cmState n = 6 then s.cmSetState n 0 else s

/-- The latch of an AC stage clears (R366): a kernel that stayed TRIPPED is IDLE, and its start request is gone. -/
def State.cmUnlatch (s : State) (n : Nat) : State :=
  if s.cmState n = 7 then (s.cmAbortStart n 3).cmSetState n 0 else s

/-- The quantity type of an APUB entry (R369); source 3 and other indexes are refused. -/
def actPubType (w : Word) : Option Nat :=
  let q := pubQ w
  if bits w 20 2 = 3 then none
  else if q = 0 || q = 1 || q = 5 then some 0
  else if q = 2 || q = 3 || q = 4 || q = 6 || q = 15 then some 1
  else none

/-- After a write of APUBk of the ACT shell (R371); a rejection is recorded as at OPUB (log entry 12). -/
def State.actPubWritten (s : State) (k : Nat) (old : Word) : State :=
  s.pubBind uAct (0x80 + 4 * k) (fun w => 0x150 + 0x10 * bits w 20 2 + pubQ w) actPubType old 0x0304

end Sys2Proof.Machine
end

