-- ==== Sys2Proof/Machine/Feedback.lean ====
section
/-!
DEFINITION. Position and speed feedback (R372 to R396): the channels' decoders, SSI frames, latches, compare kernels and
encoder emulation.
-/

namespace Sys2Proof.Machine

def uChan (c : Nat) : Unit := ⟨.chan, c⟩
def uDec (c : Nat) : Unit := ⟨.dec, c⟩
def uSsi (c : Nat) : Unit := ⟨.ssi, c⟩
def uCmps (c : Nat) : Unit := ⟨.cmps, c⟩
def uCk (i : Nat) : Unit := ⟨.ck, i⟩

/-! Modes and quantities. -/

/-- CHCFG.MODE: 0 OFF, 1 QUAD, 2 HALL, 3 SSI, 4 QSSI (R373). -/
def State.chMode (s : State) (c : Nat) : Nat := s.get (uChan c) fb_CHCFG_MODE

/-- A channel works: its effective enable is 1 and its shell has passed its check (R373). -/
def State.chOn (s : State) (c : Nat) : Bool := s.enabled (uChan c) && !(s.failedCheck.contains (uChan c).page)

/-- Do a channel's receivers work? In DORMANT D1 to D4 the transceivers are gated (R80). -/
def State.chHears (s : State) (c : Nat) : Bool :=
  s.chOn c && !(s.inMode .dormant && s.get uSys sys_MODESTAT_VARIANT ≠ 0)

/-- Are the emulation and pass-through outputs commanded (R79)? In the other modes they are at high impedance. -/
def State.chDriven (s : State) : Bool := s.runsMode

/-- Does a channel's mode count edges, and does it run SSI frames? -/
def State.counts (s : State) (c : Nat) : Bool := s.chMode c = 1 || s.chMode c = 4
def State.framed (s : State) (c : Nat) : Bool := s.chMode c = 3 || s.chMode c = 4

/-- Is an input pair in use (R373)? -/
def State.pairUsed (s : State) (c j : Nat) : Bool :=
  match s.chMode c with
  | 1 => j < 2 || (j = 2 && s.on (uChan c) fb_CHCFG_ZEN)
  | 2 => j < 3
  | 3 => j = 0
  | 4 => j < 3
  | _ => false

/-- A channel quantity published (R385). -/
def State.setCh (s : State) (c q : Nat) (v : Int) : State :=
  forN 4 (fun k s => s.pubEntry (uChan c) (0xC0 + 4 * k) q (0x300 + 0x10 * c + q) (BitVec.ofInt 32 v)) s

/-- VALID as R387 defines it. -/
def State.validNow (s : State) (c : Nat) : Bool :=
  s.chOn c && s.chMode c ≠ 0 && !(s.on (uChan c) hdr_USTAT_OWNF) &&
    (s.chMode c ≠ 4 || s.on (uChan c) fb_CHSTAT_ALIGNED) && (s.chMode c ≠ 3 || (s.ch c).good ≠ [])

/-- VALID follows its conditions; a change raises event VALID (R387). -/
def State.chValid (s : State) (c : Nat) : State :=
  let v := s.validNow c
  if s.on (uChan c) fb_CHSTAT_VALID = v then s
  else
    let n := if v then 1 else 0
    ((s.set (uChan c) fb_CHSTAT_VALID n).setCh c 2 n).raise (uChan c) 5

/-- A fault of a channel under REACT.SEL0, with VALID (R387, R393). -/
def State.chFault (s : State) (c code : Nat) : State := ((s.fault (uChan c) code).chValid c).react (uChan c) 0

/-! Positions (R377, R382). -/

/-- RAW and POS. -/
def State.chRaw (s : State) (c : Nat) : Int := s.geti (uDec c) dec_DRAW_COUNT
def State.chPos (s : State) (c : Nat) : Int := s.geti (uDec c) dec_DPOS_COUNT

/-- CPR as it acts. -/
def State.chCpr (s : State) (c : Nat) : Nat := max 4 (s.get (uChan c) fb_CHCPR_CPR)

/-- The count angle of a position (R382). -/
def State.countAngle (s : State) (c : Nat) (p : Int) : Nat :=
  unsigned 16 (roundDiv (((p + s.get (uChan c) fb_CHPOSOFS_OFS) % (s.chCpr c : Int)) * 65536) (s.chCpr c))

/-! Compare kernels (R388, R389). -/

/-- The signed 32-bit difference of two positions. -/
def diff32 (a b : Int) : Int := signed 32 (unsigned 32 (a - b))

/-- KPOS of a kernel. -/
def State.kpos (s : State) (i : Nat) : Int := s.geti (uCk i) ck_KPOS_VALUE

/-- What every fire does (R389), but for ARM and KPOS. -/
def State.ckFired (s : State) (i stamp : Nat) : State :=
  let s := (s.cor (uCk i) ck_KSTAT_FIRED 1).set (uCk i) ck_KSTAT_BEHIND 0
  ((s.set (uCk i) ck_KSTAMP_STAMP stamp).inc (uCk i) ck_KFIRECNT_COUNT).raise (uCmps (i / 4)) (i % 4)

/-- Where an arming finds KPOS: 0 equal to POS, 1 ahead, 2 behind. -/
def State.ckSide (s : State) (i : Nat) : Nat :=
  let c := i / 4
  let d := diff32 (s.kpos i) (s.chPos c)
  if d = 0 then 0 else if (d < 0) = (s.ch c).down then 1 else 2

/-- The evaluation of an arming (R388); each fire with a step is followed by a new arming (R389), at most `n` of them. -/
def State.ckArm (s : State) (i stamp : Nat) : Nat → State
  | 0 => s
  | n + 1 =>
    let s := s.set (uCk i) ck_KSTAT_BEHIND 0
    let side := s.ckSide i
    let behind := side = 2 && s.geti (uDec (i / 4)) dec_DSPEED_SPEED ≠ 0
    let s := if behind then (s.set (uCk i) ck_KSTAT_BEHIND 1).raise (uCmps (i / 4)) (4 + i % 4) else s
    if side = 0 || (behind && s.on (uCk i) ck_KCTL_FIREPAST) then
      let s := s.ckFired i stamp
      let step := s.geti (uCk i) ck_KSTEP_VALUE
      if step = 0 then s.set (uCk i) ck_KCTL_ARM 0
      else (s.seti (uCk i) ck_KPOS_VALUE (s.kpos i + step)).ckArm i stamp n
    else s

/-- The most fires that one arming can make: KPOS then has gone round its 32 bits. -/
def armFuel : Nat := 4294967296

/-- A write of ARM from 0 to 1, or of KPOS while ARM reads 1, arms the kernel (R388). -/
def State.compareArmed (s : State) (i : Nat) : State := s.ckArm i s.stamp armFuel

/-- An armed kernel at a change of POS (R389); a host write of ARM or KPOS on the same tick stands (R392). -/
def State.ckMoved (s : State) (i : Nat) (p0 p1 : Int) (stamp : Nat) : State :=
  if !(s.on (uCk i) ck_KCTL_ARM) || !(s.enabled (uCk i)) then s else
  let d := diff32 p1 p0
  let k := diff32 (s.kpos i) p0
  let hit := if 0 < d then 0 < k && k ≤ d else d ≤ k && k < 0
  if !hit then s else
  let s := s.ckFired i stamp
  let step := s.geti (uCk i) ck_KSTEP_VALUE
  if step = 0 then s.hwUpdate (uCk i) ck_KCTL_ARM.off fun s => s.set (uCk i) ck_KCTL_ARM 0
  else if s.hostWrote (uCk i) ck_KPOS_VALUE.off then s.lostUpd (uCk i)
  else
    let s := s.hwUpdate (uCk i) ck_KPOS_VALUE.off fun s => s.seti (uCk i) ck_KPOS_VALUE (s.kpos i + step)
    s.ckArm i stamp armFuel

/-! Encoder emulation (R391). -/

/-- CPRE. -/
def State.cpre (s : State) (c : Nat) : Nat := 4 * (s.get (uChan c) fb_CHEMU_ELINES + 1)

/-- Does a channel emulate? -/
def State.emulates (s : State) (c : Nat) : Bool := s.get (uChan c) fb_CHOUT_OMODE = 2 && c < 2 && s.chOn c

/-- The emulator holds: its source channel is not valid, or its source signal has not been written since enable. -/
def State.emuHold (s : State) (c : Nat) : Bool :=
  s.emulates c &&
    (let e := s.get (uChan c) fb_CHOUT_ESRC
     if e = 6 then !((s.ch c).emuWritten) else !(s.on (uChan e) fb_CHSTAT_VALID))

/-- The target count. -/
def State.emuTarget (s : State) (c : Nat) : Int :=
  let e := s.get (uChan c) fb_CHOUT_ESRC
  if e = 6 then (s.sig (s.get (uChan c) fb_CHOUT_ESIG)).toNat % 65536 * s.cpre c / 65536
  else (s.chPos e + s.get (uChan e) fb_CHPOSOFS_OFS) % (s.chCpr e : Int) * s.cpre c / s.chCpr e

/-- The wrapped difference from E to the target. -/
def State.emuDiff (s : State) (c : Nat) : Int :=
  let n : Int := s.cpre c
  let e := s.geti (uChan c) fb_CHEMUPOS_COUNT
  (s.emuTarget c - e % n + n / 2) % n - n / 2

/-- The lag check. -/
def State.emuCheck (s : State) (c : Nat) : State :=
  if !(s.emulates c) || s.emuHold c then s else
  let lag := (s.get (uChan c) fb_CHEMU_ELAG : Int) < (s.emuDiff c).natAbs
  let s := if lag && !((s.ch c).emuLag) then s.raise (uChan c) 6 else s
  s.modCh c fun h => { h with emuLag := lag }

/-- The levels of the output pairs OUT0 to OUT2 of a channel that emulates (R391): A and B follow E in the sequence of R376, and Z is
high while E mod CPRE is 0; of one that passes its inputs on (R390): the filtered levels; else low. None is high impedance (R79), and so
is the clock pair of a channel in SSI or QSSI in SHADOW (R383). The Z level that passes through OUT2 in QUAD has no command of its own for
its fall and is left out (log entry 129). -/
def State.outPair (s : State) (c j : Nat) : Option Bool :=
  let om := s.get (uChan c) fb_CHOUT_OMODE
  let e := s.geti (uChan c) fb_CHEMUPOS_COUNT
  if !s.chDriven then none
  else if s.framed c && j = 0 then
    if s.inMode .shadow then none
    else some (match (s.ch c).frame with
      | some (t0, _) => (s.tick - t0) / atLeast1 (s.get (uSsi c) ssi_SSCLK_DIV) % 2 = 1
      | none => true)
  else if !(s.chOn c) then some false
  else if om = 1 && 2 ≤ c && s.pairUsed c j then some ((s.ch c).levels.testBit j)
  else if om = 2 && c < 2 then
    some (match j with
      | 0 => e % 4 = 1 || e % 4 = 2
      | 1 => e % 4 = 2 || e % 4 = 3
      | _ => e % (s.cpre c : Int) = 0)
  else some false

/-- A read of the emulation's source signal (R32, R391). -/
def State.emuRead (s : State) (c : Nat) : State :=
  if s.get (uChan c) fb_CHOUT_ESRC = 6 then s.sigParity (s.get (uChan c) fb_CHOUT_ESIG) else s

/-- EMULATION_STEP: E steps one count toward its target, at least 40 ticks after the last edge (R391). -/
def execEmulationStep (t c : Nat) (s : State) : Host.Outcome State Fault Refusal :=
  let s := s.at t
  let c := c % 6
  if !(s.emulates c) || s.emuHold c then .next s else
  let s := (s.emuRead c).emuCheck c
  let d := s.emuDiff c
  let ready : Bool := match (s.ch c).emuAt with
    | some a => s.due (a + 40)
    | none => true
  if d = 0 || !ready then .next s else
  let s := s.modCh c fun h => { h with emuAt := some s.tick }
  .next (s.seti (uChan c) fb_CHEMUPOS_COUNT (s.geti (uChan c) fb_CHEMUPOS_COUNT + (if d < 0 then -1 else 1)))

/-- POS changes: the compare kernels of the channel and the emulators that follow it see it. -/
def State.posChange (s : State) (c : Nat) (p : Int) (stamp : Nat) : State :=
  let p0 := s.chPos c
  let s := s.seti (uDec c) dec_DPOS_COUNT p
  if p0 = s.chPos c then s else
  let s := forN 4 (fun k s => s.ckMoved (4 * c + k) p0 (s.chPos c) stamp) s
  forN 2 (fun e s => if s.get (uChan e) fb_CHOUT_ESRC = c then s.emuCheck e else s) s

/-! Quadrature (R376 to R378). -/

/-- A count step of RAW, with POS and dir (R377). -/
def State.countStep (s : State) (c : Nat) (neg : Bool) (stamp : Nat) : State :=
  let d : Int := if neg then -1 else 1
  let win := clamp 400 400000 (s.get (uChan c) fb_CHSPD1_SWIN)
  let s := (s.seti (uDec c) dec_DRAW_COUNT (s.chRaw c + d)).note ((uDec c).addr dec_DRAW_COUNT.off)
  let s := s.set (uDec c) dec_DSTEP_STAMP s.stamp
  let s := s.modCh c fun h => { h with
    steps := (s.tick, neg) :: (h.steps.zipIdx.filter fun x => x.2 < 4 || s.tick < x.1.1 + win).map (·.1) }
  if !(s.on (uChan c) fb_CHCFG_HYST) then
    (s.modCh c fun h => { h with down := neg }).posChange c (s.chRaw c) stamp
  else if neg = (s.ch c).down then s.posChange c (s.chRaw c) stamp
  else if 2 ≤ (diff32 (s.chRaw c) (s.chPos c)).natAbs then
    (s.modCh c fun h => { h with down := neg }).posChange c (s.chRaw c) stamp
  else s

/-- The place of the levels (A, B) in the sequence 00, 10, 11, 01. -/
def quadPlace (a b : Bool) : Nat := if a then (if b then 2 else 1) else (if b then 3 else 0)

/-- An illegal step (R376). -/
def State.illegalStep (s : State) (c : Nat) : State :=
  let s := (s.inc (uDec c) dec_DILLCNT_COUNT).raise (uChan c) 1
  let win := ms (atLeast1 (s.get (uChan c) fb_CHILL_ILWIN))
  let running : Bool := match (s.ch c).illAt with
    | some a => s.tick < a + win
    | none => false
  let s := if running then s.modCh c fun h => { h with illN := h.illN + 1 }
    else s.modCh c fun h => { h with illAt := some s.tick, illN := 1 }
  if (s.ch c).illN = s.get (uChan c) fb_CHILL_ILLIM + 1 then s.chFault c 0x0802 else s

/-- QUAD_STEP: the filtered levels of A and B become `a` and `b`; `stamp` is the stamp of the filtered edge (R374, R376). -/
def execQuadStep (t c : Nat) (a b : Bool) (stamp : Nat) (s : State) : Host.Outcome State Fault Refusal :=
  let s := s.at t
  let c := c % 6
  if !(s.chHears c) || !(s.counts c) then .next s else
  let lv := (s.ch c).levels
  let p0 := quadPlace (lv.testBit 0) (lv.testBit 1)
  let p1 := quadPlace a b
  let s := s.modCh c fun h => { h with levels := (if a then 1 else 0) + (if b then 2 else 0) + lv / 4 * 4 }
  let d := (p1 + 4 - p0) % 4
  if d = 0 then .next s
  else if d = 2 then .next (s.illegalStep c)
  else .next (s.countStep c ((d = 3) != s.on (uChan c) fb_CHCFG_QDIR) (min stamp s.tick))

/-- Z_EDGE: a rising filtered edge of Z in QUAD with ZEN (R378). -/
def execZEdge (t c stamp : Nat) (s : State) : Host.Outcome State Fault Refusal :=
  let s := s.at t
  let c := c % 6
  if !(s.chHears c) || s.chMode c ≠ 1 || !(s.on (uChan c) fb_CHCFG_ZEN) then .next s else
  let s := s.raise (uChan c) 2
  if s.on (uChan c) fb_CHCTL_ZARM then
    let s := ((s.set (uChan c) fb_CHCTL_ZARM 0).set (uDec c) dec_DRAW_COUNT 0).set (uDec c) dec_DZLAT_COUNT 0
    .next ((s.modCh c fun h => { h with down := false }).posChange c 0 (min stamp s.tick))
  else .next (s.set (uDec c) dec_DZLAT_COUNT (s.get (uDec c) dec_DRAW_COUNT))

/-- After a host preset of DRAW (R377): POS equals RAW and dir is +1. -/
def State.drawPreset (s : State) (c : Nat) : State :=
  (s.modCh c fun h => { h with down := false }).posChange c (s.chRaw c) s.stamp

/-- HALL_STATE_CHANGE: the filtered U, V, W levels become `code` (R385). -/
def execHallStateChange (t c code : Nat) (s : State) : Host.Outcome State Fault Refusal :=
  let s := s.at t
  let c := c % 6
  if !(s.chHears c) || s.chMode c ≠ 2 then .next s else
  let code := code % 8
  if (s.ch c).levels = code then .next s
  else .next ((s.modCh c fun h => { h with levels := code }).setCh c 5 code)

/-! Wire faults (R375). -/

/-- The pair that carries SSI data. -/
def State.dataPair (s : State) (c : Nat) : Nat := if s.chMode c = 4 then 2 else 0

/-- WIRE_FAULT: the legs of a pair in use have been equal for TDIS ticks (R375). -/
def execWireFault (t c j : Nat) (s : State) : Host.Outcome State Fault Refusal :=
  let s := s.at t
  let c := c % 6
  if !(s.chHears c) || !(s.pairUsed c j) || (s.get (uChan c) fb_CHSTAT_WIRE).testBit j then .next s else
  let s := s.set (uChan c) fb_CHSTAT_WIRE (s.get (uChan c) fb_CHSTAT_WIRE + 2 ^ j)
  let s := if j = s.dataPair c then s.modCh c fun h => { h with frameWire := true } else s
  .next ((s.raise (uChan c) 0).chFault c 0x0801)

/-- WIRE_FAULT_END: the legs of a pair differ again (R375). -/
def execWireFaultEnd (t c j : Nat) (s : State) : Host.Outcome State Fault Refusal :=
  let s := s.at t
  let c := c % 6
  if j < 3 && (s.get (uChan c) fb_CHSTAT_WIRE).testBit j then
    .next (s.set (uChan c) fb_CHSTAT_WIRE (s.get (uChan c) fb_CHSTAT_WIRE - 2 ^ j))
  else .next s

/-! SSI frames (R379 to R383). -/

/-- The fields of a frame: PW, EW, CW and LEN (R380). -/
def State.ssiPw (s : State) (c : Nat) : Nat := s.get (uSsi c) ssi_SSFRM0_PW
def State.ssiEw (s : State) (c : Nat) : Nat := s.get (uSsi c) ssi_SSFRM0_EW
def State.ssiCw (s : State) (c : Nat) : Nat := s.get (uSsi c) ssi_SSFRM0_CW
def State.ssiLen (s : State) (c : Nat) : Nat := s.get (uSsi c) ssi_SSFRM0_LZ + s.ssiPw c + s.ssiEw c + s.ssiCw c

/-- Binary from Gray code of `n` bits (R380). -/
def grayToBin (n g : Nat) : Nat := (List.range n).foldl (fun b k => b ^^^ (g / 2 ^ k)) 0

/-- The CRC register after one bit (R380). -/
def ssiCrcBit (cw poly : Nat) (r : Nat) (b : Bool) : Nat :=
  let x := (r.testBit (cw - 1)) != b
  let r := r * 2 % 2 ^ cw
  if x then r ^^^ (poly % 2 ^ cw) else r

/-- The CRC of the low `n` bits of a number, most significant first. -/
def ssiCrc (cw poly n v : Nat) : Nat :=
  (List.range n).foldl (fun r i => ssiCrcBit cw poly r (v.testBit (n - 1 - i))) 0

/-- The SSI angle of a binary position (R380). -/
def ssiAngle (stw pos : Nat) : Nat :=
  let st := pos % 2 ^ stw
  if 16 ≤ stw then st / 2 ^ (stw - 16) else st * 2 ^ (16 - stw)

/-- May a frame start now? Not in SHADOW (R383), and not where R79 does not command the outputs. -/
def State.framesOk (s : State) (c : Nat) : Bool := s.chOn c && s.framed c && s.runsMode && !(s.inMode .shadow)

/-- An event of the latch cadence or of the frame cadence of a channel (R379, R384): a latch instant or a frame start follows after its
offset. On entry to RUN from SHADOW, frames start at the next event (R383). -/
def State.chEvent (s : State) (c cad : Nat) : State :=
  let s := if s.get (uChan c) fb_CHLAT_CAD = cad && s.chOn c then
      s.modCh c fun h => { h with latches := h.latches ++ [s.tick] } else s
  if s.get (uSsi c) ssi_SSTRIG_CAD = cad && s.framesOk c then s.modCh c fun h => { h with starts := h.starts ++ [s.tick] } else s

/-- The frame start on tick `t0`, which the gap may skip (R379). -/
def State.frameStartAt (s : State) (c t0 : Nat) : State :=
  let gap := s.get (uSsi c) ssi_SSGAP_TICKS
  let early : Bool := match (s.ch c).rise with
    | some r => t0 < r + gap
    | none => false
  if early then s.inc (uSsi c) ssi_SSSKIP_COUNT else
  let wire := (s.get (uChan c) fb_CHSTAT_WIRE).testBit (s.dataPair c)
  s.modCh c fun h => { h with
    frame := some (t0, s.chPos c), frameOld := false, frameWire := wire
    rise := some (t0 + (2 * (s.ssiLen c + 1) - 1) * s.get (uSsi c) ssi_SSCLK_DIV) }

/-- SSI_FRAME_START: SSTRIG.OFS ticks after an event of SSTRIG.CAD a frame starts, or is skipped for the gap (R379). -/
def execSsiFrameStart (t c : Nat) (s : State) : Host.Outcome State Fault Refusal :=
  let s := s.at t
  let c := c % 6
  match (s.ch c).starts with
  | [] => .next s
  | e :: es =>
    let t0 := e + s.get (uSsi c) ssi_SSTRIG_OFS
    if !(s.due t0) then .next s else
    let s := s.modCh c fun h => { h with starts := es }
    .next (if s.framesOk c then s.frameStartAt c t0 else s)

/-- The cause that makes a frame bad, 0 none (R381): 1 CRC, 2 ERRBIT, 3 WIRE. -/
def State.frameCause (s : State) (c raw : Nat) : Nat :=
  let u := uSsi c
  let pw := s.ssiPw c
  let ew := s.ssiEw c
  let cw := s.ssiCw c
  let body := raw / 2 ^ cw % 2 ^ (pw + ew)
  let err := body % 2 ^ ew
  let crc := ssiCrc cw (s.get u ssi_SSFRM1_CPOLY) (pw + ew) body
  if cw ≠ 0 && raw % 2 ^ cw ≠ (crc ^^^ s.get u ssi_SSFRM1_CXOR) % 2 ^ cw then 1
  else if (List.range ew).any fun k => err.testBit k = s.on u ssi_SSFRM0_EPOL then 2
  else if (s.ch c).frameWire then 3
  else 0

/-- A bad frame (R381). -/
def State.badFrame (s : State) (c cause : Nat) : State :=
  let u := uSsi c
  let s := ((s.set u ssi_SSSTAT_GOOD 0).set u ssi_SSSTAT_CAUSE cause).inc u ssi_SSBAD_COUNT
  let n := s.get u ssi_SSSTAT_BADRUN
  let s := (s.incSat u ssi_SSSTAT_BADRUN).raise (uChan c) 3
  if n + 1 = atLeast1 (s.get u ssi_SSTRIG_BADN) then s.chFault c 0x0803 else s

/-- A good frame aligns a QSSI channel, or is checked for deviation (R382). -/
def State.qssiFrame (s : State) (c a : Nat) (pos : Int) : State :=
  let u := uChan c
  let n := s.chCpr c
  if !(s.on u fb_CHSTAT_ALIGNED) then
    if (s.ch c).frameOld then s else
    let o := (roundDiv ((a * n : Nat) : Int) 65536 - pos % (n : Int)) % (n : Int)
    let s := s.hwUpdate u fb_CHPOSOFS_OFS.off fun s => s.seti u fb_CHPOSOFS_OFS o
    ((s.set u fb_CHSTAT_ALIGNED 1).set u fb_CHCTL_ALIGN 0).raise u 7
  else
    let d := followDiff true a (s.countAngle c pos)
    let s := s.seti (uSsi c) ssi_SSDEVL_DEV d
    if s.get (uSsi c) ssi_SSDEV_LIM < d.natAbs then (s.raise u 4).chFault c 0x0804 else s

/-- A good frame with a binary position (R381). -/
def State.goodFrame (s : State) (c pos t0 : Nat) (cnt : Int) : State :=
  let u := uSsi c
  let a := ssiAngle (s.get u ssi_SSFRM0_STW) pos
  let s := ((s.set u ssi_SSSTAT_GOOD 1).set u ssi_SSSTAT_BADRUN 0).set u ssi_SSSTAT_ANGLE a
  let s := (s.set u ssi_SSPOS_VALUE pos).inc u ssi_SSGOOD_COUNT
  let s := s.modCh c fun h => { h with good := ((t0, a) :: h.good).take 2 }
  let s := if s.chMode c = 4 then s.qssiFrame c a cnt else s
  s.chValid c

/-- SSI_FRAME_END: the last bit of the frame in progress has been sampled; `raw` is the frame as a number, its first bit the
most significant of LEN (R380, R381). -/
def execSsiFrameEnd (t c raw : Nat) (s : State) : Host.Outcome State Fault Refusal :=
  let s := s.at t
  let c := c % 6
  match (s.ch c).frame with
  | none => .next s
  | some (t0, cnt) =>
    let last := t0 + 2 * s.ssiLen c * s.get (uSsi c) ssi_SSCLK_DIV + s.get (uSsi c) ssi_SSCLK_SDLY
    if !(s.chOn c) || !(s.framed c) || !(s.due last) then .next s else
    let s := s.modCh c fun h => { h with frame := none }
    match s.frameCause c raw with
    | 0 =>
      let g := raw / 2 ^ (s.ssiCw c + s.ssiEw c) % 2 ^ s.ssiPw c
      let pos := if s.on (uSsi c) ssi_SSFRM0_GRAY then grayToBin (s.ssiPw c) g else g
      .next (s.goodFrame c pos t0 cnt)
    | k => .next (s.badFrame c k)

/-- CHCTL.ALIGN (R382). -/
def State.chAlign (s : State) (c : Nat) : State :=
  let s := (s.set (uChan c) fb_CHSTAT_ALIGNED 0).set (uChan c) fb_CHCTL_ALIGN 1
  (s.modCh c fun h => { h with frameOld := h.frame.isSome }).chValid c

/-- A rally record of a channel with its angle and the position latched at the receipt (R383, R490). -/
def State.chRecord (s : State) (c a : Nat) (pos : Int) : State :=
  let u := uChan c
  let n := s.chCpr c
  let put := fun (s : State) =>
    s.hwUpdate u fb_CHPOSOFS_OFS.off fun s =>
      s.seti u fb_CHPOSOFS_OFS ((roundDiv ((a * n : Nat) : Int) 65536 - pos % (n : Int)) % (n : Int))
  match s.chMode c with
  | 1 => put s
  | 4 => ((put s).set u fb_CHSTAT_ALIGNED 1).chValid c
  | 3 =>
    let s := s.set (uSsi c) ssi_SSSTAT_ANGLE a
    (s.modCh c fun h => { h with good := ((s.tick, a) :: h.good).take 2 }).chValid c
  | _ => s

/-! Latch (R384 to R386). -/

/-- The change of RAW by count steps within the SWIN ticks that end now. -/
def State.windowCount (s : State) (c win : Nat) : Int :=
  (s.ch c).steps.foldl (fun n x => if s.tick < x.1 + win then n + (if x.2 then -1 else 1) else n) 0

/-- Tp, where the last four steps share one direction and a fifth precedes them (R386). -/
def periodOf (l : List (Nat × Bool)) : Option (Nat × Bool) :=
  match l with
  | (t0, d0) :: (_, d1) :: (_, d2) :: (_, d3) :: (t4, _) :: _ =>
    if d0 = d1 && d1 = d2 && d2 = d3 && t4 < t0 then some (t0 - t4, d0) else none
  | _ => none

/-- SPEED of a counting channel (R386). -/
def State.countSpeed (s : State) (c : Nat) : Int :=
  let u := uChan c
  let win := clamp 400 400000 (s.get u fb_CHSPD1_SWIN)
  let n := s.windowCount c win
  match (s.ch c).steps with
  | [] => 0
  | (last, _) :: _ =>
    let te := s.tick - last
    if s.get u fb_CHSPD2_STMO < te then 0 else
    let lo := s.get u fb_CHSPD0_NLO
    let hi := s.get u fb_CHSPD0_NHI
    -- v_p as a fraction, the weight w as wn / wd
    let (vn, vd, wn, wd) : Int × Nat × Nat × Nat := match periodOf (s.ch c).steps with
      | none => (0, 1, 1, 1)
      | some (tp, neg) =>
        let sg : Int := if neg then -1 else 1
        let w := (clampI 0 (hi - lo : Nat) (n.natAbs - lo)).toNat
        if 4 * te ≤ tp then (4 * sg, tp, w, hi - lo) else (sg, te, w, hi - lo)
    let num : Int := ((wd : Int) - wn) * vn * win + wn * n * vd
    satQ15 (roundDiv (num * 65536 * 2 ^ s.get u fb_CHSPD0_SSHIFT) (wd * vd * win * s.chCpr c))

/-- SPEED of an SSI channel (R386). -/
def State.ssiSpeed (s : State) (c : Nat) : Int :=
  match (s.ch c).good with
  | (t1, a1) :: (t0, a0) :: _ =>
    if t1 ≤ t0 then 0 else satQ15 (roundDiv (followDiff true a1 a0 * 2 ^ s.get (uChan c) fb_CHSPD0_SSHIFT) (t1 - t0))
  | _ => 0

/-- A latch instant of a channel (R384, R385). -/
def State.chLatch (s : State) (c : Nat) : State :=
  if !(s.chOn c) || s.chMode c = 0 then s else
  let quad := s.counts c
  let ssi := s.chMode c = 3
  let angle := if quad then s.countAngle c (s.chPos c) else if ssi then s.get (uSsi c) ssi_SSSTAT_ANGLE else 0
  let speed := if quad then s.countSpeed c else if ssi then s.ssiSpeed c else 0
  let pos : Int := if quad then s.chPos c else if ssi then s.geti (uSsi c) ssi_SSPOS_VALUE else 0
  let raw : Int := if quad then s.chRaw c else 0
  let s := (s.set (uDec c) dec_DANGLE_ANGLE angle).seti (uDec c) dec_DSPEED_SPEED speed
  let s := match (if quad then periodOf (s.ch c).steps else none) with
    | some (tp, _) => s.set (uDec c) dec_DPER_TICKS tp
    | none => s
  (((s.setCh c 0 (signed 16 angle)).setCh c 1 speed).setCh c 3 pos).setCh c 4 raw

/-- FEEDBACK_LATCH: CHLAT.OFS ticks after an event of CHLAT.CAD (R384). -/
def execFeedbackLatch (t c : Nat) (s : State) : Host.Outcome State Fault Refusal :=
  let s := s.at t
  let c := c % 6
  match (s.ch c).latches with
  | e :: es =>
    if s.due (e + s.get (uChan c) fb_CHLAT_OFS) then .next ((s.modCh c fun h => { h with latches := es }).chLatch c) else .next s
  | [] => .next s

/-! Checks, enables and clears. -/

/-- Are the kernels that the mode needs enabled by their own bits, and the limits of the register tables kept (R373, R380)? -/
def State.chOk (s : State) (c : Nat) : Bool :=
  let u := uChan c
  let m := s.chMode c
  let om := s.get u fb_CHOUT_OMODE
  let pw := s.ssiPw c
  let stw := s.get (uSsi c) ssi_SSFRM0_STW
  let dv := s.get (uSsi c) ssi_SSCLK_DIV
  m ≤ 4 && (!(m = 1 || m = 2 || m = 4) || s.on (uDec c) hdr_UCTL_EN) && (!(m = 3 || m = 4) || s.on (uSsi c) hdr_UCTL_EN) &&
    s.get u fb_CHSPD0_NLO < s.get u fb_CHSPD0_NHI &&
    (!(m = 3 || m = 4) || (1 ≤ pw && pw ≤ 32 && 1 ≤ stw && stw ≤ pw && s.ssiCw c ≤ 8 && 10 ≤ s.ssiLen c &&
      s.ssiLen c ≤ 40 && 50 ≤ dv && dv ≤ 2000 && s.get (uSsi c) ssi_SSCLK_SDLY < 2 * dv)) &&
    om ≤ 2 && (om ≠ 1 || (2 ≤ c && (m = 1 || m = 2))) &&
    (om ≠ 2 || (c < 2 && m ≤ 2 && s.get u fb_CHOUT_ESRC ≤ 6 &&
      (s.get u fb_CHOUT_ESRC ≠ 6 || s.dir (s.get u fb_CHOUT_ESIG) dir_TYPE = 0)))

/-- The check of a channel shell (R373), at its enable and after a write of CHCFG. -/
def State.chCheck (s : State) (c : Nat) : State :=
  if !(s.enabled (uChan c)) then s
  else if s.chOk c then { s with failedCheck := s.failedCheck.filter (· ≠ (uChan c).page) }.chValid c
  else (s.failCheck (uChan c) 0x0805).chValid c

/-- A channel's effective enable goes to 1 (R377, R382, R386, R391). -/
def State.chStart (s : State) (c : Nat) : State :=
  let s := (s.set (uDec c) dec_DPOS_COUNT (s.get (uDec c) dec_DRAW_COUNT)).set (uChan c) fb_CHSTAT_ALIGNED 0
  (s.modCh c fun h => { levels := h.levels, rise := h.rise }).chCheck c

/-- UCTL.FCLR on a channel shell (R90, R387, R392). -/
def State.chFclr (s : State) (c : Nat) : State :=
  let u := uSsi c
  let stands := s.get (uChan c) fb_CHSTAT_WIRE ≠ 0 ||
    (s.framed c && atLeast1 (s.get u ssi_SSTRIG_BADN) ≤ s.get u ssi_SSSTAT_BADRUN) ||
    (s.chMode c = 4 && s.on (uChan c) fb_CHSTAT_ALIGNED && s.get u ssi_SSDEV_LIM < (s.geti u ssi_SSDEVL_DEV).natAbs) ||
    (s.enabled (uChan c) && !(s.chOk c))
  if stands then s else (s.set (uChan c) hdr_USTAT_OWNF 0).chValid c

/-- The type of a channel quantity (R385). -/
def chQtyType (w : Word) : Option Nat :=
  let q := pubQ w
  if q < 2 then some 0 else if q < 6 then some 1 else none

/-- After a write of CHPUBk (R385): a rejection is fault 0x0806 PUB, which leaves OWNF unchanged (R387). -/
def State.chPubWritten (s : State) (c k : Nat) (old : Word) : State :=
  let was := s.get (uChan c) hdr_USTAT_OWNF
  (s.pubBind (uChan c) (0xC0 + 4 * k) (fun w => 0x300 + 0x10 * c + pubQ w) chQtyType old 0x0806).set
    (uChan c) hdr_USTAT_OWNF was

end Sys2Proof.Machine
end

