-- ==== Sys2Proof/Machine/Converters.lean ====
section
/-!
DEFINITION. Converters, their queues, filters and record buffers, and the window comparators (R397 to R420).
-/

namespace Sys2Proof.Machine

def uPair (p : Nat) : Unit := ⟨.pair, p⟩
def uWg (g : Nat) : Unit := ⟨.wg, g⟩

/-- The partner of a converter. -/
def partner (n : Nat) : Nat := if n % 2 = 0 then n + 1 else n - 1

/-- Is a converter released (R410)? -/
def State.cvReleased (s : State) (n : Nat) : Bool := s.on (uCv n) cv_CVSTAT_RELEASED

/-! Triggers (R402, R404). -/

/-- A late or lost sample of a slot of a converter (R404). -/
def State.cvLate (s : State) (n : Nat) : State := (s.inc (uCv n) cv_CVLATE_COUNT).raise (uCv n) 0

/-- A slot is triggered by an event of its cadence (R402, R404); `interval` is the cadence's interval at the event. -/
def State.cvTriggerSlot (s : State) (n k interval : Nat) : State :=
  let u := uCv n
  let ofs := s.get u (cv_QSLOTA_OFS k)
  if interval ≤ ofs then s.cvLate n else
  let c := sget (fun _ => 0) (s.cv n).trig k
  let input := if s.on u (cv_QSLOTA_ALT k) && c % 2 = 1 then s.get u (cv_QSLOTB_INB k) else s.get u (cv_QSLOTB_INA k)
  let check := s.on u (cv_QSLOTA_KIND k)
  let away := (s.cvReleased n && (check || !((s.get u cv_CVCOVER_MAP).testBit k))) || (check && s.cvReleased (partner n))
  s.modCv n fun h => { h with
    trig := sset (fun _ => 0) h.trig k (c + 1)
    due := if away then h.due else
      h.due ++ [⟨n, k, s.tick + ofs, input, s.get u (cv_QSLOTB_FK k), check⟩] }

/-- An event of a cadence triggers the enabled slots of every converter whose queues run. -/
def State.cvTrigger (s : State) (cad interval : Nat) : State :=
  forN 8 (fun n s =>
    if !(s.cvWorks n) then s else
    forN 32 (fun k s =>
      if s.on (uCv n) (cv_QSLOTA_EN k) && s.get (uCv n) (cv_QSLOTA_CAD k) = cad then s.cvTriggerSlot n k interval else s) s) s

/-- The items that a later item of their slot has overtaken are lost (R404). -/
def State.cvPrune (s : State) (n : Nat) : State :=
  let l := (s.cv n).due
  let lost := fun (i : CvItem) => i.slot < 32 && l.any fun j => j.slot = i.slot && i.due < j.due && j.due ≤ s.tick
  let gone := (l.filter lost).length
  forN gone (fun _ s => s.cvLate n) (s.modCv n fun h => { h with due := h.due.filter fun i => !(lost i) })

/-! Sampling (R401, R403). -/

/-- CYC of a converter. -/
def State.cvCyc (s : State) (n : Nat) : Nat := if s.on (uCv n) cv_CVCFG_LP then 400 else 66

/-- May a converter sample on this tick (R401, R410)? -/
def State.cvMay (s : State) (n : Nat) : Bool :=
  s.cvWorks n && !(s.cvReleased n) && !(s.on (uCv n) cv_CVSTAT_CALIB) &&
    (match (s.cv n).last with
     | some a => a + s.cvCyc n ≤ s.tick
     | none => true)

/-- The urgent item that a converter serves first: its own U0 and U1, then those of a released partner (R407, R410). -/
def State.cvUrgent (s : State) (n : Nat) : Option CvItem :=
  let of := fun m => ((s.cv m).due.find? fun i => i.slot = 32).orElse fun _ => (s.cv m).due.find? fun i => i.slot = 33
  (of n).orElse fun _ => if s.cvReleased (partner n) then of (partner n) else none

/-- The check of a pair that is due. -/
def State.cvCheckDue (s : State) (p : Nat) : Option CvItem :=
  ((s.cv (2 * p)).due.filter fun i => i.check && i.due ≤ s.tick).foldl (fun b i =>
    match b with
    | none => some i
    | some j => if i.due < j.due || (i.due = j.due && i.slot < j.slot) then some i else b) none

/-- The normal item that a converter samples first: the earliest due tick, its own slots before those it covers, then the
lower slot (R403). -/
def State.cvNormal (s : State) (n : Nat) : Option CvItem :=
  let ready := fun (i : CvItem) => i.slot < 32 && !i.check && i.due ≤ s.tick
  let own := (s.cv n).due.filter ready
  let cov := if s.cvReleased (partner n) then (s.cv (partner n)).due.filter ready else []
  let key := fun (i : CvItem) => (2 * i.due + (if i.owner = n then 0 else 1)) * 64 + i.slot
  (own ++ cov).foldl (fun b i =>
    match b with
    | none => some i
    | some j => if key i < key j then some i else b) none

/-- A converter samples an item. -/
def State.cvTake (s : State) (n : Nat) (i : CvItem) : State :=
  let inv := i.input < 64 && sget (fun _ => 0) s.gainInv i.input ≠ 0
  let s := if inv then { s with gainInv := sset (fun _ => 0) s.gainInv i.input (sget (fun _ => 0) s.gainInv i.input - 1) } else s
  let s := if 32 ≤ i.slot then s.inc (uCv i.owner) cv_UCNT_COUNT else s
  s.modCv n fun h => { h with
    last := some s.tick, run := h.run ++ [⟨i, s.tick, inv⟩], covered := if i.owner = n then h.covered else some s.tick }

/-- An item leaves its owner's queue at its sampling instant; a slot sampled after its due tick is late (R404). -/
def State.cvLeave (s : State) (i : CvItem) : State :=
  let s := s.modCv i.owner fun h => { h with due := h.due.erase i }
  if i.slot < 32 && i.due < s.tick then s.cvLate i.owner else s

/-- CONVERTER_SAMPLE: a converter samples the first due item, where it may sample on this tick (R403). -/
def execConverterSample (t n : Nat) (s : State) : Host.Outcome State Fault Refusal :=
  let s := s.at t
  let n := n % 8
  let m := partner n
  let s := (s.cvPrune n).cvPrune m
  if !(s.cvMay n) then .next s else
  match s.cvCheckDue (n / 2) with
  | some i =>
    if s.cvMay m && (s.cvUrgent n).isNone && (s.cvUrgent m).isNone then
      .next (((s.cvLeave i).cvTake n i).cvTake m i)
    else match s.cvUrgent n with
      | some j => .next ((s.cvLeave j).cvTake n j)
      | none =>
        if n % 2 = 0 then .next s
        else match s.cvNormal n with
          | some j => .next ((s.cvLeave j).cvTake n j)
          | none => .next s
  | none =>
    match (s.cvUrgent n).orElse fun _ => s.cvNormal n with
    | some j => .next ((s.cvLeave j).cvTake n j)
    | none => .next s

/-! Results (R400, R405, R406). -/

/-- The calibrated code of a raw code, and whether the conversion clips (R400). -/
def State.cvCode (s : State) (n : Nat) (r : Int) : Int × Bool :=
  let c := roundDiv ((r - s.geti (uCv n) cv_CALF_OFS) * s.get (uCv n) cv_CALF_GAIN) 16384
  let k := clampI (-8192) 8191 c
  (k, r = -8192 || r = 8191 || k ≠ c)

/-- The record place of a converter: region, size of a record in bytes. -/
def State.cvRegion (s : State) (n : Nat) : Option (Nat × Nat × Nat) :=
  (s.region (0x10 + n)).map fun r => (r.1, r.2, if s.on (uCv n) cv_CVBUFCFG_FMT then 8 else 4)

/-- CVFILL follows the pointers; FILL rising to the watermark raises WMARK (R413). -/
def State.cvFill (s : State) (n bytes size : Nat) : State :=
  let u := uCv n
  let f := (s.get u cv_CVWRPTR_OFFSET + bytes - s.get u cv_CVRDPTR_OFFSET % bytes) % bytes / size
  let was := s.get u cv_CVFILL_COUNT
  let wm := s.get u cv_CVBUFCFG_WMARK
  let s := s.set u cv_CVFILL_COUNT f
  if wm ≠ 0 && was < wm && f = wm then s.raise u 1 else s

/-- A record is written to a converter's circular buffer (R412, R413). -/
def State.cvRecord (s : State) (n input : Nat) (code : Int) (inv clip : Bool) (at_ : Nat) : State :=
  match s.cvRegion n with
  | none => s
  | some (base, bytes, size) =>
    let u := uCv n
    let wr := s.get u cv_CVWRPTR_OFFSET
    let next := (wr + size) % bytes
    let rd := s.get u cv_CVRDPTR_OFFSET
    let s := if next = rd then
        let s := s.hwUpdate u cv_CVRDPTR_OFFSET.off fun s => s.set u cv_CVRDPTR_OFFSET ((rd + size) % bytes)
        ((s.cor u cv_CVOVF_OVF 1).inc u cv_CVOVFCNT_COUNT).raise u 2
      else s
    let seq := s.get u cv_CVSEQ_SEQ
    let w := unsigned 14 code + (if inv then 2 ^ 14 else 0) + (if clip then 2 ^ 15 else 0) + input % 64 * 2 ^ 16 + seq * 2 ^ 24
    let words := BitVec.ofNat 32 w :: (if size = 8 then [BitVec.ofNat 32 at_] else [])
    let s := s.hwWords (base + wr) words
    let s := (s.set u cv_CVWRPTR_OFFSET next).inc u cv_CVSEQ_SEQ
    s.cvFill n bytes size

/-- The result of a normal conversion (R405, R406). -/
def State.cvResult (s : State) (x : CvConv) (c : Int) (clip : Bool) : State :=
  let i := x.item
  let u := uCv i.owner
  let k := i.slot
  let old := sget (fun _ => (0, [])) (s.cv i.owner).filt k
  let l := ((c, x.invalid, clip) :: (if old.1 = i.fk then old.2 else [])).take (2 ^ i.fk)
  let s := s.modCv i.owner fun h => { h with filt := sset (fun _ => (0, [])) h.filt k (i.fk, l) }
  let sum := l.foldl (fun a e => a + e.1) 0
  let v := satQ15 (roundDiv (4 * sum) (2 ^ i.fk))
  let inv := l.length < 2 ^ i.fk || l.any fun e => e.2.1
  let clip := l.any fun e => e.2.2
  let s := (s.set u (cv_QRES_INV k) (if inv then 1 else 0)).set u (cv_QRES_CLIP k) (if clip then 1 else 0)
  let s := s.seti u (cv_QRES_VALUE k) v
  let s := if s.on u (cv_QSLOTB_PUB k) && !inv then
      s.publish (s.get u (cv_QSLOTB_SIG k)) (0x400 + 0x20 * i.owner + k) (BitVec.ofInt 32 v)
    else s
  if s.on u (cv_QSLOTA_REC k) then s.cvRecord i.owner i.input (roundDiv sum (2 ^ i.fk)) inv clip x.at_ else s

/-- The result of an urgent conversion (R407). -/
def State.cvUrgentResult (s : State) (x : CvConv) (c : Int) (clip : Bool) : State :=
  let i := x.item
  let u := uCv i.owner
  let e := i.slot - 32
  let s := if s.on u (cv_UREQB_PUB e) && !x.invalid then
      s.publish (s.get u (cv_UREQB_SIG e)) (0x500 + 2 * i.owner + e) (BitVec.ofInt 32 (satQ15 (4 * c)))
    else s
  if s.on u (cv_UREQA_REC e) then s.cvRecord i.owner i.input c x.invalid clip x.at_ else s

/-- The plausibility check of a pair once both codes are there (R408). -/
def State.pairCheck (s : State) (p : Nat) : State :=
  match (s.cv (2 * p)).code, (s.cv (2 * p + 1)).code with
  | some (a, ca), some (b, cb) =>
    let u := uPair p
    let s := (s.modCv (2 * p) fun h => { h with code := none }).modCv (2 * p + 1) fun h => { h with code := none }
    let s := ((s.seti u pr_PCHKV_CODEA a).seti u pr_PCHKV_CODEB b).inc u pr_PCHKCNT_COUNT
    if ca || cb || s.get u pr_PCFG_WIN < (a - b).natAbs then
      let run := s.get u pr_PSTAT_RUN
      let s := ((s.inc u pr_PMISCNT_COUNT).set u pr_PSTAT_MISM 1).raise u 0
      let s := s.incSat u pr_PSTAT_RUN
      if run + 1 = atLeast1 (s.get u pr_PCFG_N) then s.faultR u 0x0910 0 else s
    else (s.set u pr_PSTAT_MISM 0).set u pr_PSTAT_RUN 0
  | _, _ => s

/-- CONVERSION_COMPLETE: the oldest conversion in progress on a converter ends with a raw code (R400, R405). -/
def execConversionComplete (t n : Nat) (raw : Int) (s : State) : Host.Outcome State Fault Refusal :=
  let s := s.at t
  let n := n % 8
  match (s.cv n).run with
  | [] => .next s
  | x :: r =>
    let s := (s.modCv n fun h => { h with run := r }).inc (uCv n) cv_CVCONV_COUNT
    let (c, clip) := s.cvCode n (clampI (-8192) 8191 raw)
    if x.item.check then .next ((s.modCv n fun h => { h with code := some (c, clip) }).pairCheck (n / 2))
    else if 32 ≤ x.item.slot then .next (s.cvUrgentResult x c clip)
    else .next (s.cvResult x c clip)

/-! Window comparators (R414). -/

/-- Comparator `n` follows its raw output (R414): WSTAT, an entry into the active state, and its activation as a protection source (R260,
R263). Nothing is reported while the group is off, nor in DORMANT D1 to D4. -/
def State.cmpFollow (s : State) (n : Nat) : State :=
  let u := uWg (n / 8)
  let j := n % 8
  let level := if s.cmpOn n then sget (fun _ => 0) s.cmpRaw n else 0
  let above := level = 1 && s.get u (wg_WIN_HI j) / 16 ≠ 0x7FF
  let below := level = 2 && s.get u (wg_WIN_LO j) / 16 ≠ 0x800
  let was := (s.get u wg_WSTAT_ABOVE).testBit j || (s.get u wg_WSTAT_BELOW).testBit j
  let put := fun (s : State) (f : Fld) (b : Bool) => s.set u ⟨f.off, f.lo + j, 1⟩ (if b then 1 else 0)
  let s := put (put s wg_WSTAT_ABOVE above) wg_WSTAT_BELOW below
  let src := Src.cmp n
  let s := if (above || below) && !was then ((s.inc u (wg_WACT_COUNT j)).raise u j).urgentAll 0 n else s
  -- the protection wiring has the same raw output (R260)
  if !(above || below) then s.srcOff [src]
  else if s.srcActive.contains src then s
  else (s.srcOn src).activateAll src

/-- WINDOW_COMPARATOR_ACTIVE: the raw output of comparator `n` becomes inside (0), above (1) or below (2) its window (R414). -/
def execWindowComparatorActive (t n level : Nat) (s : State) : Host.Outcome State Fault Refusal :=
  let s := s.at t
  let n := n % 24
  .next ({ s with cmpRaw := sset (fun _ => 0) s.cmpRaw n (level % 3) }.cmpFollow n)

/-- Every comparator of a group follows. -/
def State.wgFollow (s : State) (g : Nat) : State := forN 8 (fun j s => s.cmpFollow (8 * g + j)) s

/-- URGENT_HOST_TRIGGER: CVCTL.UTRIG0 or UTRIG1 (R407). -/
def State.hostUrgent (s : State) (n e : Nat) : State :=
  if s.on (uCv n) (cv_UREQA_EN e) && s.get (uCv n) (cv_UREQA_KIND e) = 2 then s.urgent n e else s

/-! Calibration (R409). -/

/-- A refusal in CVRES. -/
def State.cvRefuse (s : State) (n cause : Nat) : State :=
  (s.cause (uCv n) cv_CVRES_CAUSE cause).cor (uCv n) cv_CVRES_REFUSED 1

/-- CVCTL.CAL. -/
def State.cvCal (s : State) (n : Nat) : State :=
  if !(s.inMode .config || s.runsMode) then s.cvRefuse n 1
  else if s.on (uCv n) cv_CVSTAT_CALIB then s.cvRefuse n 3
  else if s.runsMode && !(s.cvReleased n) then s.cvRefuse n 2
  else (s.set (uCv n) cv_CVSTAT_CALIB 1).set (uCv n) cv_CVCTL_CAL 1

/-- Entry to CALIBRATE: every converter calibrates (R409). -/
def State.cvCalAll (s : State) : State :=
  forN 8 (fun n s => s.set (uCv n) cv_CVSTAT_CALIB 1) { s with calFailed := false }

/-- CONVERTER_CAL_DONE: a calibration ends with new values (R409). -/
def execConverterCalDone (t n gain : Nat) (ofs : Int) (s : State) : Host.Outcome State Fault Refusal :=
  let s := s.at t
  let n := n % 8
  let u := uCv n
  if !(s.on u cv_CVSTAT_CALIB) then .next s else
  let asked := s.on u cv_CVCTL_CAL
  let s := ((s.set u cv_CVSTAT_CALIB 0).set u cv_CVCTL_CAL 0).raise u 3
  if 256 < ofs.natAbs || gain < 0x3C00 || 0x4400 < gain then
    let s := { s with calFailed := s.calFailed || s.inMode .calibrate }
    .next ((s.fault u 0x0902).cvRefuse n 4)
  else
    let s := s.hwUpdate u cv_CALF_GAIN.off fun s => (s.set u cv_CALF_GAIN gain).seti u cv_CALF_OFS ofs
    .next (if asked then s.cor u cv_CVRES_DONE 1 else s)

/-! Release (R410, R411). -/

/-- COVERING of both converters of a pair and SUSP of the pair follow what is released (R410). -/
def State.pairFollow (s : State) (p : Nat) : State :=
  let a := s.cvReleased (2 * p)
  let b := s.cvReleased (2 * p + 1)
  let bit := fun (x : Bool) => if x then 1 else 0
  let s := (s.set (uCv (2 * p)) cv_CVSTAT_COVERING (bit b)).set (uCv (2 * p + 1)) cv_CVSTAT_COVERING (bit a)
  (s.set (uPair p) pr_PSTAT_SUSP (bit (a || b))).lossFollow

/-- The release takes effect. -/
def State.cvReleaseNow (s : State) (n : Nat) : State :=
  let u := uCv n
  let map_ := s.get u cv_CVCOVER_MAP
  let s := (s.set u cv_CVSTAT_RELEASED 1).set u cv_CVCTL_REL 0
  let s := s.modCv n fun h => { h with due := h.due.filter fun i => 32 ≤ i.slot || (map_.testBit i.slot && !i.check) }
  let s := s.modCv (n - n % 2) fun h => { h with due := h.due.filter fun i => !i.check }
  (((s.pairFollow (n / 2)).raise (uPair (n / 2)) 1).raise u 4).cor u cv_CVRES_DONE 1

/-- A release that waits takes effect on the first tick on which the converter may sample. -/
def State.cvReleaseTry (s : State) (n : Nat) : State :=
  let may : Bool := match (s.cv n).last with
    | some a => a + s.cvCyc n ≤ s.tick
    | none => true
  if s.on (uCv n) cv_CVCTL_REL && may then s.cvReleaseNow n else s

/-- The restore takes effect: every slot returns with its filter emptied. -/
def State.cvRestoreNow (s : State) (n : Nat) : State :=
  let u := uCv n
  let s := (s.set u cv_CVSTAT_RELEASED 0).set u cv_CVCTL_RESTORE 0
  ((s.pairFollow (n / 2)).modCv n fun h => { h with filt := [] }).cor u cv_CVRES_DONE 1

/-- A restore that waits takes effect CYC after the partner's last covered sampling instant. -/
def State.cvRestoreTry (s : State) (n : Nat) : State :=
  let may : Bool := match (s.cv (partner n)).covered with
    | some a => a + s.cvCyc n ≤ s.tick
    | none => true
  if s.on (uCv n) cv_CVCTL_RESTORE && may then s.cvRestoreNow n else s

/-- CVCTL.REL. -/
def State.cvRel (s : State) (n : Nat) : State :=
  if s.on (uCv n) cv_CVCTL_REL || s.cvReleased n then s
  else if !(s.runsMode) then s.cvRefuse n 1
  else if s.on (uCv n) cv_CVSTAT_CALIB then s.cvRefuse n 3
  else if s.cvReleased (partner n) then s.cvRefuse n 5
  else (s.set (uCv n) cv_CVCTL_REL 1).cvReleaseTry n

/-- CVCTL.RESTORE. -/
def State.cvRestore (s : State) (n : Nat) : State :=
  if s.on (uCv n) cv_CVCTL_RESTORE then s
  else if !(s.cvReleased n) then s.cvRefuse n 2
  else if s.on (uCv n) cv_CVSTAT_CALIB then s.cvRefuse n 3
  else (s.set (uCv n) cv_CVCTL_RESTORE 1).cvRestoreTry n

/-! Checks, modes and registers. -/

/-- The enable check of a converter (R415). -/
def State.cvOk (s : State) (n : Nat) : Bool :=
  let u := uCv n
  ((List.range 32).all fun k => !(s.on u (cv_QSLOTA_EN k)) ||
    (let ina := s.get u (cv_QSLOTB_INA k)
     let inb := s.get u (cv_QSLOTB_INB k)
     let alt := s.on u (cv_QSLOTA_ALT k)
     ina < 74 && (!alt || inb < 74) && s.get u (cv_QSLOTB_FK k) ≤ 4 &&
       (!(s.on u (cv_QSLOTA_REC k)) || (ina < 64 && (!alt || inb < 64))) &&
       (!(s.on u (cv_QSLOTA_KIND k)) || n % 2 = 0) &&
       (match s.cadInterval (s.get u (cv_QSLOTA_CAD k)) with
        | some p => (s.get u (cv_QSLOTA_OFS k)).blt p
        | none => true))) &&
  ((List.range 2).all fun e => !(s.on u (cv_UREQA_EN e)) ||
    (s.get u (cv_UREQB_IN e) < 74 && (!(s.on u (cv_UREQA_REC e)) || s.get u (cv_UREQB_IN e) < 64) &&
      s.get u (cv_UREQA_KIND e) ≠ 3 && (s.get u (cv_UREQA_KIND e) ≠ 0 || s.get u (cv_UREQA_SRCNUM e) < 24)))

/-- Does a converter record (R412)? -/
def State.cvRecords (s : State) (n : Nat) : Bool :=
  ((List.range 32).any fun k => s.on (uCv n) (cv_QSLOTA_EN k) && s.on (uCv n) (cv_QSLOTA_REC k)) ||
  ((List.range 2).any fun e => s.on (uCv n) (cv_UREQA_EN e) && s.on (uCv n) (cv_UREQA_REC e))

/-- The check of a converter, at its enable and at queue start (R415); without its region one that records stays at STARTING
(R38, R412). -/
def State.cvCheck (s : State) (n : Nat) : State :=
  let p := (uCv n).page
  if !(s.enabled (uCv n)) then s
  else if !(s.cvOk n) then s.failCheck (uCv n) 0x0901
  else
    let rest := s.failedCheck.filter (· ≠ p)
    { s with failedCheck := if s.cvRecords n && (s.region (0x10 + n)).isNone then rest ++ [p] else rest }

/-- Queue start (R402, R406, R412). -/
def State.queueStart (s : State) : State :=
  forN 8 (fun n s =>
    let s := s.modCv n fun h => { h with trig := [], filt := [], due := [] }
    (s.set (uCv n) cv_CVSEQ_SEQ 0).cvCheck n) s

/-- Entry to a mode without queues drops what is pending (R416). -/
def State.queueStop (s : State) : State := forN 8 (fun n s => s.modCv n fun h => { h with due := [] }) s

/-- The enable check of a window group (R415). -/
def State.wgCheck (s : State) (g : Nat) : Option Nat :=
  if (List.range 8).any fun j => signed 16 (s.get (uWg g) (wg_WIN_HI j) / 16 * 16) ≤ signed 16 (s.get (uWg g) (wg_WIN_LO j) / 16 * 16)
  then some 0x0920 else none

/-- After a write of AINCFGi that changes GAIN (R406). -/
def State.gainWritten (s : State) (i : Nat) : State := { s with gainInv := sset (fun _ => 0) s.gainInv i 2 }

/-- After a write of CVRDPTR: the offset is taken modulo the region and rounded down to a record (R413). -/
def State.rdptrWritten (s : State) (n : Nat) : State :=
  match s.cvRegion n with
  | none => s
  | some (_, bytes, size) =>
    let v := s.get (uCv n) cv_CVRDPTR_OFFSET % bytes / size * size
    (s.set (uCv n) cv_CVRDPTR_OFFSET v).cvFill n bytes size

/-- After a write of QSLOTBk or UREQBu: its PUB binding (R405, R407). -/
def State.qslotWritten (s : State) (n k : Nat) (old : Word) : State :=
  s.pubBind (uCv n) (0x104 + 8 * k) (fun _ => 0x400 + 0x20 * n + k) (fun _ => some 0) old 0x0901
def State.ureqWritten (s : State) (n e : Nat) (old : Word) : State :=
  s.pubBind (uCv n) (0x84 + 8 * e) (fun _ => 0x500 + 2 * n + e) (fun _ => some 0) old 0x0901

end Sys2Proof.Machine
end

