-- ==== Sys2Proof/Machine/Sequencers.lean ====
section
/-!
DEFINITION. Sequencers (R430 to R432, R439 to R446): the FSM table as a sequencer reads it, the step with its snapshot,
the actions SETSIG, AREQ and EMIT, and the checks at enable and at a bank switch.
-/

namespace Sys2Proof.Machine

/-! The FSM table (R430). -/

/-- An FSM table: its bank, its first byte in the bank and its two header words. -/
structure Fsm where
  bank : Nat
  o : Nat
  h1 : Word
  h2 : Word
deriving DecidableEq, Repr

def Fsm.nstate (f : Fsm) : Nat := bits f.h1 24 7
def Fsm.init (f : Fsm) : Nat := bits f.h1 16 6
def Fsm.ntrans (f : Fsm) : Nat := bits f.h1 0 9
def Fsm.nact (f : Fsm) : Nat := bits f.h2 0 11

/-- The byte offsets in the bank of a state entry, a transition, an action and a constant. -/
def Fsm.stateAt (f : Fsm) (j : Nat) : Nat := f.o + 12 + 8 * j
def Fsm.transAt (f : Fsm) (j : Nat) : Nat := f.o + 12 + 8 * f.nstate + 16 * j
def Fsm.actAt (f : Fsm) (j : Nat) : Nat := f.o + 12 + 8 * f.nstate + 16 * f.ntrans + 8 * j
def Fsm.constAt (f : Fsm) (j : Nat) : Nat := f.o + 12 + 8 * f.nstate + 16 * f.ntrans + 8 * f.nact + 4 * j

/-- FSM table `t` of bank `b`. -/
def State.fsm (s : State) (b t : Nat) : Option Fsm :=
  match s.table b t 4 with
  | none => none
  | some (o, _) => some ⟨b, o, s.tw b (o + 4), s.tw b (o + 8)⟩

/-- The FSM table that a sequencer runs, in the active bank. -/
def State.sqFsm (s : State) (n : Nat) : Option Fsm := s.fsm s.activeBank (s.get (uSq n) sq_SQCFG_TABLE)

/-- The codewords of `n` words of a bank from a byte offset. -/
def bankCws (b o n : Nat) : List Nat :=
  let a := cwOfAddr (bankBase b + o)
  if n = 0 then [] else (List.range (cwOfAddr (bankBase b + o + 4 * (n - 1)) - a + 1)).map (a + ·)

/-- The action indices that an entry with FIRSTACT in 25:16 and NACT in 5:0 names. -/
def actsOf (w : Word) : List Nat := (List.range (bits w 0 6)).map (bits w 16 10 + ·)

/-! Guards (R431). -/

/-- The comparison of a term: 0 EQ, 1 NE, 2 LT, 3 GE, 4 GT, 5 LE. -/
def sqCompare (op : Nat) (a b : Int) : Bool :=
  match op with
  | 0 => a = b
  | 1 => a ≠ b
  | 2 => a < b
  | 3 => b ≤ a
  | 4 => b < a
  | 5 => a ≤ b
  | _ => false

/-- The occurrences of EVSTAT bit `b` of router source `src`. -/
def State.srcCount (s : State) (src b : Nat) : Nat :=
  match unitOfSource src with
  | some u => s.evCount u b
  | none => 0

/-- The occurrences of that bit at the snapshot from which a sequencer's event latches restarted. -/
def State.sqMark (s : State) (n src b : Nat) : Nat :=
  match unitOfSource src with
  | some u => sget (fun _ => 0) (s.sq n).marks (evKey u b)
  | none => 0

/-- The event latch of an EVENT term of sequencer `n`: the event has occurred since the entry, or a rally frame set the
latch (R431, R490). -/
def State.sqLatch (s : State) (n : Nat) (w : Word) : Bool :=
  s.sqMark n (bits w 16 9) (bits w 0 5) < s.srcCount (bits w 16 9) (bits w 0 5) ||
    (match unitOfSource (bits w 16 9) with
     | some u => (s.sq n).latched.contains (evKey u (bits w 0 5))
     | none => false)

/-- A guard term of sequencer `n` at a step at the present instant (R431). -/
def State.sqTerm (s : State) (n : Nat) (f : Fsm) (w : Word) : Bool :=
  match bits w 28 4 with
  | 0 => true
  | 1 => sqCompare (bits w 25 3) (s.sigI (bits w 12 12)) (s.tw f.bank (f.constAt (bits w 0 10))).toInt
  | 2 => sqCompare (bits w 25 3) (s.sigI (bits w 12 12)) (s.sigI (bits w 0 12))
  | 3 => s.sqLatch n w
  | 4 => (s.sq n).entry + (ms (bits w 0 24) : Int) ≤ s.tick
  | 5 => (bits w 0 8).testBit s.mode
  | 6 => s.get (uSq (bits w 16 5)) sq_SQSTAT_STATE = bits w 0 6
  | _ => false

/-- The guard of a transition (R430): COMB 0 A alone, 1 A and B, 2 A or B. -/
def State.sqGuard (s : State) (n : Nat) (f : Fsm) (j : Nat) : Bool :=
  let w := fun k => s.tw f.bank (f.transAt j + 4 * k)
  let a := s.sqTerm n f (w 1)
  match bits (w 0) 0 2 with
  | 0 => a
  | 1 => a && s.sqTerm n f (w 2)
  | 2 => a || s.sqTerm n f (w 2)
  | _ => false

/-- The signals that a term names. -/
def termSigs (w : Word) : List Nat :=
  match bits w 28 4 with
  | 1 => [bits w 12 12]
  | 2 => [bits w 12 12, bits w 0 12]
  | _ => []

/-- The constant that a term names. -/
def termConst (w : Word) : List Nat := if bits w 28 4 = 1 then [bits w 0 10] else []

/-- The terms of a list of transitions. -/
def State.sqTerms (s : State) (f : Fsm) (l : List Nat) : List Word :=
  l.flatMap fun j => [s.tw f.bank (f.transAt j + 4), s.tw f.bank (f.transAt j + 8)]

/-! The step (R440, R442). -/

/-- Do sequencers step in a mode (R440)? -/
def sqModes (m : Nat) : Bool := [Mode.ready.code, Mode.run.code, Mode.safeHold.code, Mode.discharge.code].contains m

/-- Do sequencers step in the mode in force (R440)? -/
def State.sqMode (s : State) : Bool := sqModes s.mode

/-- Does a sequencer take steps (R439, R440, R446)? -/
def State.sqWorks (s : State) (n : Nat) : Bool :=
  s.sqMode && s.enabled (uSq n) && !(s.failedCheck.contains (uSq n).page) && !(s.on (uSq n) sq_SQSTAT_STOPPED)

/-! Triggers (R441). -/

/-- An event of a cadence: a trigger follows SQOFS ticks later, for a sequencer that it triggers. -/
def State.sqEvent (s : State) (n cad : Nat) : State :=
  if s.get (uSq n) sq_SQCFG_CAD = cad && s.get (uSq n) sq_SQCFG_TRIG ≠ 1 && s.enabled (uSq n) then
    s.modSq n fun h => { h with events := h.events ++ [s.tick] }
  else s

/-- The cadence trigger that has come, as its event. -/
def State.sqCadTrigger (s : State) (n : Nat) : Option Nat :=
  (s.sq n).events.head?.filter fun e => s.due (e + s.get (uSq n) sq_SQOFS_TICKS)

/-- An event trigger has come. -/
def State.sqEvTrigger (s : State) (n : Nat) : Bool :=
  s.locked && s.get (uSq n) sq_SQCFG_TRIG ≠ 0 && (s.sq n).taken < s.sqOccurred n

/-- A sequencer has a trigger on this tick. -/
def State.sqTriggered (s : State) (n : Nat) : Bool := (s.sqCadTrigger n).isSome || s.sqEvTrigger n

/-- The triggers of this tick are taken. -/
def State.sqTake (s : State) (n : Nat) : State :=
  let c := s.sqCadTrigger n
  let k := s.sqOccurred n
  s.modSq n fun h => { h with events := if c.isSome then h.events.tail else h.events, taken := k }

/-- The table of a sequencer is lost (R446). -/
def State.sqLost (s : State) (n : Nat) : State :=
  ((s.set (uSq n) sq_SQSTAT_STOPPED 1).faultR (uSq n) 0x0A12 1).raise (uSq n) 3

/-- An uncorrectable word stops a step (R442). -/
def State.sqEcc (s : State) (n : Nat) : State := s.faultR (uSq n) 0x0A13 1

/-- A step completes (R442): SQSTAT, the entry tick and the event latches take the step's values. -/
def State.sqCommit (s : State) (n : Nat) (r : SqRun) : State :=
  let u := uSq n
  let s := (s.modSq n fun h => { h with run := none, entry := r.at_, marks := r.marks, latched := [] }).inc u sq_SQSTEPS_COUNT
  let was := s.get u sq_SQSTAT_STATE
  let s := (s.set u sq_SQSTAT_STATE r.target).set u sq_SQENTRY_STAMP (r.at_ % 2 ^ 32)
  let s := match r.tr with
    | some j => s.set u sq_SQSTAT_LASTTR j
    | none => s.set u sq_SQSTAT_LASTTR 511  -- the entry to INIT: no transition taken since (log entry 10)
  let s := if r.entering then (s.set u sq_SQSTAT_ENTERING 0).set u sq_SQCTL_RESTART 0 else s
  if was ≠ r.target then s.raise u 0 else s

/-- A step whose transition, if any, is chosen: its actions are read (R442), and where there are none it completes. -/
def State.sqBegin (s : State) (n : Nat) (f : Fsm) (target : Nat) (tr : Option Nat) (entering : Bool) : State :=
  let (ok, s) := s.decodeAll (bankCws f.bank (f.stateAt target) 2)
  if !ok then s.sqEcc n else
  let own := match tr with
    | some j => actsOf (s.tw f.bank (f.transAt j + 12))
    | none => []
  let acts := own ++ actsOf (s.tw f.bank (f.stateAt target + 4))
  let (ok, s) := s.decodeAll (acts.flatMap fun k => bankCws f.bank (f.actAt k) 2)
  if !ok then s.sqEcc n else
  let r : SqRun := ⟨acts.map fun k => (s.tw f.bank (f.actAt k), s.tw f.bank (f.actAt k + 4), k), target, tr, s.tick,
    entering, s.evSeen, f.bank⟩
  if acts = [] then s.sqCommit n r else s.modSq n fun h => { h with run := some r }

/-- A step without a transition completes: it counts, and nothing else changes. -/
def State.sqIdle (s : State) (n : Nat) : State := s.inc (uSq n) sq_SQSTEPS_COUNT

/-- The step at the present instant (R440, R442). -/
def State.sqStep (s : State) (n : Nat) : State :=
  let u := uSq n
  match s.sqFsm n with
  | none => s.sqLost n
  | some f =>
    let (ok, s) := s.decodeAll (bankCws f.bank f.o 3)
    if !ok then s.sqEcc n
    else if s.on u sq_SQSTAT_ENTERING then s.sqBegin n f f.init none true
    else
      let st := s.get u sq_SQSTAT_STATE
      if f.nstate ≤ st then s.sqLost n else
      let (ok, s) := s.decodeAll (bankCws f.bank (f.stateAt st) 2)
      if !ok then s.sqEcc n else
      let s0 := s.tw f.bank (f.stateAt st)
      let js := (List.range (bits s0 16 9)).map (bits s0 0 8 + ·)
      let (ok, s) := s.decodeAll (js.flatMap fun j => bankCws f.bank (f.transAt j) 4)
      if !ok then s.sqEcc n else
      let terms := s.sqTerms f js
      let (ok, s) := s.decodeAll ((terms.flatMap termConst).flatMap fun c => bankCws f.bank (f.constAt c) 1)
      if !ok then s.sqEcc n else
      let s := forL (terms.flatMap termSigs) (fun k s => s.sigParity k) s
      match js.find? (s.sqGuard n f) with
      | none => s.sqIdle n
      | some j => s.sqBegin n f (bits (s.tw f.bank (f.transAt j)) 24 6) (some j) false

/-- SEQUENCER_STEP (R441, R442): the trigger of sequencer `n` that has come. It gives a step, or makes one pending while a
step runs, or is lost. Triggers that fall on one tick give one step. -/
def execSequencerStep (t n : Nat) (s : State) : Host.Outcome State Fault Refusal :=
  let s := s.at t
  let n := n % 32
  let u := uSq n
  if !(s.sqWorks n && s.sqTriggered n) then .next s else
  let s := s.sqTake n
  if (s.sq n).run = none then .next (s.sqStep n)
  else if !(s.on u sq_SQSTAT_PEND) then .next (s.set u sq_SQSTAT_PEND 1)
  else .next (((s.inc u sq_SQMISS_COUNT).raise u 1).fault u 0x0A11)

/-- SQCTL.RESTART (R440, R446, R447): the sequencer is entering, and a stop of R446 ends. A step that runs goes on. -/
def State.sqRestart (s : State) (n : Nat) : State :=
  let u := uSq n
  let s := if s.on u sq_SQSTAT_STOPPED then s.sqWake n else s
  let s := ((s.set u sq_SQCTL_RESTART 1).set u sq_SQSTAT_ENTERING 1).set u sq_SQSTAT_STOPPED 0
  s.modSq n fun h => { h with run := h.run.map fun r => { r with entering := false } }

/-! Actions (R432, R444). -/

/-- The action that sequencer `n` runs next, where its kind is `k`. -/
def State.sqAction (s : State) (n k : Nat) : Option (Word × Word × Nat) :=
  match (s.sq n).run with
  | some r =>
    match r.acts with
    | a :: _ => if bits a.1 28 4 = k then some a else none
    | [] => none
  | none => none

/-- The action has run: the next one follows, or the step completes, and a pending step falls on this tick (R441). -/
def State.sqNext (s : State) (n : Nat) : State :=
  match (s.sq n).run with
  | some r =>
    match r.acts with
    | _ :: b :: l => s.modSq n fun h => { h with run := some { r with acts := b :: l } }
    | _ =>
      let s := s.sqCommit n r
      if s.on (uSq n) sq_SQSTAT_PEND then
        let s := s.set (uSq n) sq_SQSTAT_PEND 0
        if s.sqWorks n then s.sqStep n else s
      else s
  | none => s

/-- An action that cannot take effect (R444). -/
def State.sqFail (s : State) (n idx cause : Nat) : State :=
  let u := uSq n
  let s := (s.first u sq_SQERR_ERR sq_SQERR_CAUSE cause).first u sq_SQERR_ERR sq_SQERR_ACTION idx
  ((s.cor u sq_SQERR_ERR 1).faultR u 0x0A10 0).raise u 2

/-- SETSIG (R432, R444): the signal bound to a slot is written. -/
def State.sqSetsig (s : State) (n : Nat) (a0 a1 : Word) (idx : Nat) : State :=
  let slot := bits a0 0 3
  if !(s.on (uSq n) (sq_SQSIG_EN slot)) then s.sqFail n idx 4
  else if a0.getLsbD 8 then
    let s := s.sigParity (bits a1 0 12)
    s.drive 2 n (s.get (uSq n) (sq_SQSIG_SIG slot)) (s.sig (bits a1 0 12))
  else s.drive 2 n (s.get (uSq n) (sq_SQSIG_SIG slot)) a1

/-- Action SETSIG of sequencer `n`. -/
def execSetsig (t n : Nat) (s : State) : Host.Outcome State Fault Refusal :=
  let s := s.at t
  let n := n % 32
  match s.sqAction n 2 with
  | some (a0, a1, k) => .next ((s.sqSetsig n a0 a1 k).sqNext n)
  | none => .next s

/-- A write of a request word (R197, R207), after which the arena decides. -/
def State.areqWrite (s : State) (a c : Nat) (active : Bool) (v : Nat) : State :=
  let s := s.set (uQuad a) (arq_AREQ_ACTIVE (a % 4) c) (if active then 1 else 0)
  (s.set (uQuad a) (arq_AREQ_VALUE (a % 4) c) v).decide a

/-- AREQ (R432, R444): a request word of an enabled KIND 1 entry is written, as a hardware update (R101, R447). -/
def State.sqAreq (s : State) (n : Nat) (a0 a1 : Word) (idx : Nat) : State :=
  let a := bits a0 16 4
  let c := bits a0 8 3
  if !(s.on (uQuad a) (arq_ACOMP_EN (a % 4) c) && s.get (uQuad a) (arq_ACOMP_KIND (a % 4) c) = 1) then s.sqFail n idx 3
  else
    let src := a0.getLsbD 0
    let s := if src then s.sigParity (bits a1 0 12) else s
    let v := if src then (s.sig (bits a1 0 12)).toNat % 65536 else bits a1 0 16
    s.hwUpdate (uQuad a) (0x140 + 0x80 * (a % 4) + 4 * c) fun s => s.areqWrite a c (a0.getLsbD 4) v

/-- Action AREQ of sequencer `n`. -/
def execAreqAction (t n : Nat) (s : State) : Host.Outcome State Fault Refusal :=
  let s := s.at t
  let n := n % 32
  match s.sqAction n 4 with
  | some (a0, a1, k) => .next ((s.sqAreq n a0 a1 k).sqNext n)
  | none => .next s

/-- Action EMIT of sequencer `n` (R432): sequencer event 8 + k. -/
def execEmit (t n : Nat) (s : State) : Host.Outcome State Fault Refusal :=
  let s := s.at t
  let n := n % 32
  match s.sqAction n 5 with
  | some (a0, _, _) => .next ((s.raise (uSq n) (8 + bits a0 0 3)).sqNext n)
  | none => .next s

/-! Checks (R439, R446). -/

/-- The check of a sequencer's table: present, and every SETSIG names a slot with EN 1. Every 12-bit number names a
signal. -/
def State.sqOk (s : State) (n : Nat) : Bool :=
  match s.sqFsm n with
  | none => false
  | some f => (List.range f.nact).all fun k =>
      let a0 := s.tw f.bank (f.actAt k)
      bits a0 28 4 ≠ 2 || s.on (uSq n) (sq_SQSIG_EN (bits a0 0 3))

/-- The check of a sequencer, at its enable and at a bank switch. -/
def State.sqCheck (s : State) (n : Nat) : State :=
  let s := if s.failedCheck.contains (uSq n).page then
      { s.sqWake n with failedCheck := s.failedCheck.filter (· ≠ (uSq n).page) } else s
  if s.enabled (uSq n) && !(s.sqOk n) then s.failCheck (uSq n) 0x0A01 else s

/-- A sequencer whose effective enable goes to 1 is entering (R440), and one that had stopped steps again (R446). -/
def State.sqEnable (s : State) (n : Nat) : State :=
  let u := uSq n
  ((s.set u sq_SQSTAT_ENTERING 1).set u sq_SQSTAT_STOPPED 0 |>.sqWake n).sqCheck n

/-- A sequencer at a bank switch (R439, R446). -/
def State.sqSwitch (s : State) (n : Nat) : State :=
  if !(s.enabled (uSq n)) then s else
  let lost := match s.sqFsm n with
    | none => true
    | some f => f.nstate ≤ s.get (uSq n) sq_SQSTAT_STATE
  let s := s.sqCheck n
  if lost && !(s.on (uSq n) sq_SQSTAT_STOPPED) then s.sqLost n else s

/-- After a write of SQSIGk (R439): the old binding is released, unless another slot binds the same signal, and the new one is
checked as a writer of class 2 with the sequencer's number. A sequencer takes a signal of either type. -/
def State.sqsigWritten (s : State) (n k : Nat) (old : Word) : State :=
  let u := uSq n
  let also := (List.range 8).any fun j =>
    j ≠ k && s.on u (sq_SQSIG_EN j) && s.get u (sq_SQSIG_SIG j) = bits old 0 12
  s.bindEntry 2 u (0x80 + 4 * k) (fun _ => n) (fun w => some (s.dir (bits w 0 12) dir_TYPE))
    (if also then 0 else old) 0x0A01

/-- A mode is entered from mode `from_`. Into one without steps (R440, R447), a step that runs completes, and no further step follows. -/
def State.sqModeEntered (s : State) (from_ : Nat) : State :=
  if !s.sqMode then forN 32 (fun n s => s.set (uSq n) sq_SQSTAT_PEND 0) s
  else if sqModes from_ then s else forN 32 (fun n s => s.sqWake n) s

end Sys2Proof.Machine
end

