-- ==== Sys2Proof/Machine/Banks.lean ====
section
/-!
DEFINITION. The table banks (R422 to R438): the bank check with the limits of every kind of table, the bank switch, and the
map evaluators.
-/

namespace Sys2Proof.Machine

/-- What of a CAN controller no register shows. -/
def State.can (s : State) (n : Nat) : CanH := sget (fun _ => {}) s.cans n

/-- The state with that of a CAN controller changed. -/
def State.modCan (s : State) (n : Nat) (f : CanH → CanH) : State :=
  { s with cans := sset (fun _ => {}) s.cans n (f (s.can n)) }

/-- Are bits `lo` to `hi` of a word all 0? -/
def zeroBits (w : Word) (hi lo : Nat) : Bool := bits w lo (hi - lo + 1) = 0

/-- Are a list's numbers strictly ascending? -/
def risingI : List Int → Bool
  | a :: b :: r => a < b && risingI (b :: r)
  | _ => true

/-! The limits of each kind of table (R426 to R434). `w` gives the table's words and `n` is its length. -/

/-- A CURVE1 table (R426). -/
def curve1Ok (w : Nat → Word) (n : Nat) : Bool :=
  let nb := bits (w 1) 0 7
  zeroBits (w 1) 31 7 && 2 ≤ nb && nb ≤ 64 && n = nb + 3 && risingI ((List.range nb).map fun k => lo16 (w (2 + k)))

/-- The half-words of a list that starts at word `o`, packed two to a word (R427). -/
def halves (w : Nat → Word) (o m : Nat) : List Int :=
  (List.range m).map fun k => if k % 2 = 0 then lo16 (w (o + k / 2)) else hi16 (w (o + k / 2))

/-- Is the unused upper half-word of a list of `m` elements 0? -/
def halvesPad (w : Nat → Word) (o m : Nat) : Bool := m % 2 = 0 || zeroBits (w (o + m / 2)) 31 16

/-- A CURVE2 table (R427). -/
def curve2Ok (w : Nat → Word) (n : Nat) : Bool :=
  let nx := bits (w 1) 0 8
  let ny := bits (w 1) 8 8
  let cx := (nx + 1) / 2
  let cy := (ny + 1) / 2
  let cz := (nx * ny + 1) / 2
  zeroBits (w 1) 31 16 && 2 ≤ nx && nx ≤ 16 && 2 ≤ ny && ny ≤ 16 && n = 2 + cx + cy + cz + 1 &&
    risingI (halves w 2 nx) && risingI (halves w (2 + cx) ny) &&
    halvesPad w 2 nx && halvesPad w (2 + cx) ny && halvesPad w (2 + cx + cy) (nx * ny)

/-- A SCHED table (R189, R429). -/
def schedTableOk (w : Nat → Word) (n : Nat) : Bool :=
  let bx := bits (w 1) 0 8
  let by_ := bits (w 1) 8 8
  let ng := bits (w 1) 16 8
  let e := bx - 1 + (by_ - 1)
  zeroBits (w 1) 31 24 && 1 ≤ bx && bx ≤ 16 && 1 ≤ by_ && by_ ≤ 16 && 1 ≤ ng && ng ≤ 8 &&
    n = 2 + e + bx * by_ * ng + 1 &&
    (List.range e).all (fun k => zeroBits (w (2 + k)) 31 16) &&
    (List.range (bx * by_ * ng)).all (fun k => zeroBits (w (2 + e + k)) 31 20) &&
    risingI ((List.range (bx - 1)).map fun k => lo16 (w (2 + k))) &&
    risingI ((List.range (by_ - 1)).map fun k => lo16 (w (1 + bx + k)))

/-- A guard term (R431): its reserved bits, OP and CIDX. -/
def termOk (nc : Nat) (x : Word) : Bool :=
  match bits x 28 4 with
  | 0 => zeroBits x 27 0
  | 1 => zeroBits x 24 24 && zeroBits x 11 10 && bits x 25 3 ≤ 5 && bits x 0 10 < nc
  | 2 => zeroBits x 24 24 && bits x 25 3 ≤ 5
  | 3 => zeroBits x 27 25 && zeroBits x 15 5
  | 4 => zeroBits x 27 24
  | 5 => zeroBits x 27 8
  | 6 => zeroBits x 27 21 && zeroBits x 15 6
  | _ => false

/-- An action (R432). -/
def actionOk (a0 a1 : Word) : Bool :=
  match bits a0 28 4 with
  | 1 => zeroBits a0 23 22
  | 2 => zeroBits a0 27 9 && zeroBits a0 7 3 && (!(a0.getLsbD 8) || zeroBits a1 31 12)
  | 3 => zeroBits a0 27 9 && zeroBits a0 7 7 && a1 = 0
  | 4 => zeroBits a0 27 20 && zeroBits a0 15 11 && zeroBits a0 7 5 && zeroBits a0 3 1 &&
      (if a0.getLsbD 0 then zeroBits a1 31 12 else zeroBits a1 31 16)
  | 5 => zeroBits a0 27 3 && a1 = 0
  | 6 => zeroBits a0 27 16 && a1 = 0
  | _ => false

/-- An entry with FIRSTACT and NACT (R430). -/
def actRefOk (na : Nat) (x : Word) : Bool :=
  zeroBits x 31 26 && zeroBits x 15 6 && bits x 16 10 + bits x 0 6 ≤ na

/-- The number of distinct words in a list. -/
def distinct : List Word → Nat
  | [] => 0
  | x :: r => (if r.contains x then 0 else 1) + distinct r

/-- An FSM table (R430 to R432). -/
def fsmOk (w : Nat → Word) (n : Nat) : Bool :=
  let ns := bits (w 1) 24 7
  let nt := bits (w 1) 0 9
  let nc := bits (w 2) 16 10
  let na := bits (w 2) 0 11
  let tr := 3 + 2 * ns
  let ac := tr + 4 * nt
  let stateOk := fun j =>
    let s0 := w (3 + 2 * j)
    let f := bits s0 0 8
    let k := bits s0 16 9
    zeroBits s0 31 25 && zeroBits s0 15 8 && f + k ≤ nt && actRefOk na (w (4 + 2 * j)) &&
      distinct (((List.range k).flatMap fun i => [w (tr + 4 * (f + i) + 1), w (tr + 4 * (f + i) + 2)]).filter
        fun x => bits x 28 4 = 3) ≤ 8
  let transOk := fun j =>
    let t0 := w (tr + 4 * j)
    zeroBits t0 31 30 && zeroBits t0 23 2 && bits t0 24 6 < ns && bits t0 0 2 ≤ 2 &&
      (bits t0 0 2 ≠ 0 || w (tr + 4 * j + 2) = 0) && termOk nc (w (tr + 4 * j + 1)) && termOk nc (w (tr + 4 * j + 2)) &&
      actRefOk na (w (tr + 4 * j + 3))
  zeroBits (w 1) 31 31 && zeroBits (w 1) 23 22 && zeroBits (w 1) 15 9 && zeroBits (w 2) 31 26 && zeroBits (w 2) 15 11 &&
    1 ≤ ns && ns ≤ 64 && bits (w 1) 16 6 < ns && nt ≤ 256 && na ≤ 1024 && n = 4 + 2 * ns + 4 * nt + 2 * na + nc &&
    (List.range ns).all stateOk && (List.range nt).all transOk &&
    (List.range na).all (fun k => actionOk (w (ac + 2 * k)) (w (ac + 2 * k + 1)))

/-- A valid payload length (R433). -/
def bytesOk (fdf : Bool) (n : Nat) : Bool := n ≤ 8 || (fdf && [12, 16, 20, 24, 32, 48, 64].contains n)

/-- An FMT table (R433, R434, R435). -/
def fmtOk (w : Nat → Word) (n : Nat) : Bool :=
  let h := w 1
  let nf := bits h 0 6
  let tx := h.getLsbD 31
  let nb := bits h 16 7
  let field := fun k =>
    (⟨bits (w (3 + 3 * k)) 20 12, (w (3 + 3 * k)).getLsbD 19, (w (3 + 3 * k)).getLsbD 18, bits (w (3 + 3 * k)) 9 7,
      bits (w (3 + 3 * k)) 0 9, hi16 (w (4 + 3 * k)), bits (w (4 + 3 * k)) 11 5, (w (5 + 3 * k)).toInt⟩ : FmtField)
  let fieldOk := fun k =>
    let f := field k
    zeroBits (w (3 + 3 * k)) 17 16 && zeroBits (w (4 + 3 * k)) 10 0 && 1 ≤ f.len && f.len ≤ 32 && f.mul ≠ 0 &&
      f.frameBits.all fun p => p < 8 * nb
  let used := (List.range nf).flatMap fun k => (field k).frameBits
  zeroBits h 23 23 && zeroBits h 15 6 && n = 4 + 3 * nf && (!(h.getLsbD 28) || h.getLsbD 29) && bits h 24 2 ≤ 2 &&
    (tx || bits h 24 2 = 0) && bytesOk (h.getLsbD 29) nb && zeroBits (w 2) 31 29 &&
    (h.getLsbD 30 || bits (w 2) 0 29 < 0x800) && (List.range nf).all fieldOk &&
    (!tx || used.length = used.eraseDups.length)

/-- The limits of a table of a kind. -/
def tableOk (kind : Nat) (w : Nat → Word) (n : Nat) : Bool :=
  4 ≤ n &&
  match kind with
  | 1 => curve1Ok w n
  | 2 => curve2Ok w n
  | 3 => schedTableOk w n
  | 4 => fsmOk w n
  | 5 => fmtOk w n
  | _ => false

/-! The check (R435, R436). A breach is a cause and a table; the table is none where the spec names none. -/

/-- A breach found by a check. -/
abbrev Breach := Option (Nat × Option Nat)

/-- A directory entry with a non-zero KIND: its number, kind, offset and length in bytes. -/
structure DirEntry where
  t : Nat
  kind : Nat
  off : Nat
  bytes : Nat
deriving DecidableEq, Repr

/-- The entries of a bank with a non-zero KIND, in ascending order. -/
def State.dirEntries (s : State) (b : Nat) : List DirEntry :=
  ((List.range (bits (s.tw b 4) 0 11)).map fun t =>
    (⟨t, bits (s.tw b (0x20 + 8 * t)) 28 4, bits (s.tw b (0x20 + 8 * t)) 0 18, 4 * bits (s.tw b (0x24 + 8 * t)) 0 13⟩ :
      DirEntry)).filter fun e => e.kind ≠ 0

/-- The bytes of `n` words of a bank from an offset. -/
def State.bankBytes (s : State) (b o n : Nat) : List Byte :=
  (List.range n).flatMap fun k => wordBytes (s.tw b (o + 4 * k))

/-- Cause 3 for an entry (R435). -/
def placeBad (ntab : Nat) (l : List DirEntry) (e : DirEntry) : Bool :=
  e.off % 4 ≠ 0 || 0x40000 < e.off + e.bytes || e.off < 0x20 + 8 * ntab ||
    l.any fun f => f.t ≠ e.t && e.off < f.off + f.bytes && f.off < e.off + e.bytes

/-- The first breach of a list of tests. -/
def firstBreach {α : Type} (f : State → α → Breach × State) : List α → State → Breach × State
  | [], s => (none, s)
  | x :: xs, s =>
    match f s x with
    | (some c, s) => (some c, s)
    | (none, s) => firstBreach f xs s

/-- One table checked whole (R435): causes 4, 5 and 6 in that order, and 8 at a read. -/
def State.checkTable (s : State) (b : Nat) (e : DirEntry) : Breach × State :=
  let n := e.bytes / 4
  let (ok, s) := s.decodeAll (bankCws b e.off (atLeast1 n))
  let w := fun k => s.tw b (e.off + 4 * k)
  if !ok then (some (8, some e.t), s)
  else if 5 < e.kind || bits (w 0) 28 4 ≠ e.kind || bits (w 0) 0 13 ≠ n then (some (4, some e.t), s)
  else if !(zeroBits (w 0) 27 13 && zeroBits (s.tw b (0x20 + 8 * e.t)) 27 18 && zeroBits (s.tw b (0x24 + 8 * e.t)) 31 13 &&
      tableOk e.kind w n) then (some (5, some e.t), s)
  else if crc32 (s.bankBytes b e.off (n - 1)) ≠ w (n - 1) then (some (6, some e.t), s)
  else (none, s)

/-- The signals that an FMT table of a bank names, in order, while the bank is under check; none where it holds no such
table. -/
def State.fmtSigs (s : State) (b t : Nat) : Option (List Nat) :=
  match (s.dirEntries b).find? fun e => e.t = t && e.kind = 5 with
  | none => none
  | some e => some ((List.range (bits (s.tw b (e.off + 4)) 0 6)).map fun k => bits (s.tw b (e.off + 12 + 12 * k)) 20 12)

/-- Cause 7 for a receive object's table (R435). -/
def State.checkBind (s : State) (b : Nat) (t : Nat) : Breach × State :=
  if s.fmtSigs b t = s.fmtSigs s.activeBank t && s.fmtSigs b t ≠ none then (none, s) else (some (7, some t), s)

/-- The FMT tables that the loaded receive objects name, in ascending controller and object number. -/
def State.canFmts (s : State) : List Nat := (List.range 4).flatMap fun n => (s.can n).objs.filterMap (·.fmt)

/-- The three passes of a check (R435). -/
def State.checkBank (s : State) (b : Nat) : Breach × State :=
  let (ok, s) := s.decodeAll (bankCws b 0 8)
  if !ok then (some (8, none), s) else
  let ntab := bits (s.tw b 4) 0 11
  if s.tw b 0 ≠ 1 || !(zeroBits (s.tw b 4) 31 11) || 1024 < ntab || s.tw b 0x10 ≠ 0 || s.tw b 0x14 ≠ 0 || s.tw b 0x18 ≠ 0
  then (some (1, some 0xFFFF), s) else
  let (ok, s) := s.decodeAll (bankCws b 0x20 (2 * ntab))
  if !ok then (some (8, none), s) else
  if crc32 (s.bankBytes b 0 7 ++ s.bankBytes b 0x20 (2 * ntab)) ≠ s.tw b 0x1C then (some (2, some 0xFFFF), s) else
  let l := s.dirEntries b
  match l.find? (placeBad ntab l) with
  | some e => (some (3, some e.t), s)
  | none =>
    match firstBreach (fun s e => s.checkTable b e) l s with
    | (some c, s) => (some c, s)
    | (none, s) => firstBreach (fun s t => s.checkBind b t) s.canFmts s

/-- A check ends (R436): BANKOK and TBIMGb on a pass, TBFAIL on a breach; CHKDONE either way. -/
def State.checkEnds (s : State) (b : Nat) (r : Breach) : State :=
  let s := (s.set uTbk tbk_TBSTAT_CHKBUSY 0).set uTbk tbk_TBCTL_CHECK 0
  let s := match r with
    | none =>
      let s := s.set uTbk tbk_TBSTAT_BANKOK (s.get uTbk tbk_TBSTAT_BANKOK ||| 2 ^ b)
      (s.set uTbk (tbk_TBIMG_IMGID b) (s.tw b 8).toNat).cor uTbk tbk_TBRES_DONE 1
    | some (c, t) =>
      let s := s.set uTbk tbk_TBFAIL_CAUSE c
      let s := match t with
        | some t => s.set uTbk tbk_TBFAIL_TABLE t
        | none => s.fresh.set uTbk tbk_TBFAIL_TABLE (Config.freeWord s.freeCtr).toNat
      (s.cause uTbk tbk_TBRES_CAUSE 4).cor uTbk tbk_TBRES_REFUSED 1
  s.raise uTbk 0

/-- A refusal in TBRES. -/
def State.tbRefuse (s : State) (c : Nat) : State := (s.cause uTbk tbk_TBRES_CAUSE c).cor uTbk tbk_TBRES_REFUSED 1

/-- A check runs or a switch is pending. -/
def State.tbBusy (s : State) : Bool := s.on uTbk tbk_TBSTAT_CHKBUSY || s.on uTbk tbk_TBSTAT_PEND

/-- TBCTL.CHECK of the bank that CBANK names (R436). -/
def State.bankCheck (s : State) : State :=
  let b := s.get uTbk tbk_TBCTL_CBANK
  if !(s.inMode .config) && b = s.activeBank then s.tbRefuse 1
  else if s.tbBusy then s.tbRefuse 2
  else
    let s := { (s.set uTbk tbk_TBCTL_CHECK 1).set uTbk tbk_TBSTAT_CHKBUSY 1 with checkBankNo := b }
    s.set uTbk tbk_TBSTAT_BANKOK (s.get uTbk tbk_TBSTAT_BANKOK &&& (3 - 2 ^ b))

/-- CHECK written; one that reads 1 already starts nothing (R95). -/
def State.bankCheckCmd (s : State) : State := if s.on uTbk tbk_TBCTL_CHECK then s else s.bankCheck

/-- BANK_CHECK_DONE: the check that runs ends. -/
def execBankCheckDone (t : Nat) (s : State) : Host.Outcome State Fault Refusal :=
  let s := s.at t
  if s.on uTbk tbk_TBSTAT_CHKBUSY then
    let (r, s) := s.checkBank s.checkBankNo
    .next (s.checkEnds s.checkBankNo r)
  else .next s

/-! Switching (R438, R439, R446). -/

/-- The boundary of a switch: ACTIVE changes, and every sequencer checks its table. -/
def State.switchNow (s : State) : State :=
  let s := s.set uTbk tbk_TBSTAT_ACTIVE (1 - s.activeBank)
  let s := (s.inc uTbk tbk_TBSWCNT_COUNT).set uTbk tbk_TBSWSTAMP_STAMP s.stamp
  let s := ((s.set uTbk tbk_TBSTAT_PEND 0).set uTbk tbk_TBCTL_SWITCH 0).doneNote uTbk tbk_TBCTL_SWITCH
  let s := (s.cor uTbk tbk_TBRES_DONE 1).raise uTbk 1
  forN 32 (fun n s => s.sqSwitch n) s

/-- TBCTL.SWITCH at the cadence that TBCTL.CAD names (R438). -/
def State.bankSwitch (s : State) : State :=
  if !(s.bankOk (1 - s.activeBank)) then s.tbRefuse 3
  else if s.tbBusy then s.tbRefuse 2
  else if s.inMode .config then s.switchNow
  else { (s.set uTbk tbk_TBCTL_SWITCH 1).set uTbk tbk_TBSTAT_PEND 1 with switchCad := s.get uTbk tbk_TBCTL_CAD }

/-- SWITCH written; one that reads 1 already starts nothing (R95). -/
def State.bankSwitchCmd (s : State) : State := if s.on uTbk tbk_TBCTL_SWITCH then s else s.bankSwitch

/-- SWITCH written 0 (R438, R447): a pending switch is aborted; after the boundary of the same tick, ABORTLATE. -/
def State.bankSwitchAbort (s : State) : State :=
  if s.on uTbk tbk_TBSTAT_PEND then
    ((s.set uTbk tbk_TBSTAT_PEND 0).set uTbk tbk_TBCTL_SWITCH 0).cor uTbk tbk_TBRES_ABORTED 1
  else s.abortLate uTbk tbk_TBCTL_SWITCH tbk_TBRES_ABORTLATE

/-- A cadence event meets a pending switch (R438). -/
def State.bankBoundary (s : State) (cad : Nat) : State :=
  if s.on uTbk tbk_TBSTAT_PEND && s.switchCad = cad then s.switchNow else s

/-- BANK_SWITCH_BOUNDARY: the event of the cadence that the pending switch names has come (R438). -/
def execBankSwitchBoundary (t : Nat) (s : State) : Host.Outcome State Fault Refusal :=
  let s := s.at t
  if s.cadRuns s.switchCad && (s.cad s.switchCad).due.head?.any s.due then .next (s.bankBoundary s.switchCad) else .next s

/-- A host write to a word of bank `b` (R435, R437, R438). -/
def State.bankWritten (s : State) (b : Nat) : State :=
  let s := s.set uTbk tbk_TBSTAT_BANKOK (s.get uTbk tbk_TBSTAT_BANKOK &&& (3 - 2 ^ b))
  let s := if s.on uTbk tbk_TBSTAT_CHKBUSY && s.checkBankNo = b then s.checkEnds b (some (9, none)) else s
  if s.on uTbk tbk_TBSTAT_PEND && b ≠ s.activeBank then
    ((s.set uTbk tbk_TBSTAT_PEND 0).set uTbk tbk_TBCTL_SWITCH 0).tbRefuse 3
  else s

/-! Map evaluators (R428). -/

/-- Is an evaluator in use? -/
def State.mapOn (s : State) (m : Nat) : Bool := s.on uTbk (tbk_MAPA_EN m) && s.enabled uTbk

/-- The events of an evaluator whose evaluation is still to come. -/
def State.mapEvents (s : State) (m : Nat) : List Nat := sget (fun _ => []) s.mapDue m

/-- The state with those changed. -/
def State.setMapEvents (s : State) (m : Nat) (l : List Nat) : State := { s with mapDue := sset (fun _ => []) s.mapDue m l }

/-- An event of a cadence: an evaluation follows MAPCm.OFS ticks later, for an evaluator that acts on it. -/
def State.mapEvent (s : State) (m cad : Nat) : State :=
  if s.get uTbk (tbk_MAPA_CAD m) = cad && s.mapOn m then s.setMapEvents m (s.mapEvents m ++ [s.tick]) else s

/-- An evaluation: XSIG and YSIG are read, the table is evaluated from the bank that is active now, and OUTSIG is written. -/
def State.mapEvaluate (s : State) (m : Nat) : State :=
  let x := s.get uTbk (tbk_MAPB_XSIG m)
  let y := s.get uTbk (tbk_MAPB_YSIG m)
  let s := (s.sigParity x).sigParity y
  let b := s.activeBank
  let tn := s.get uTbk (tbk_MAPA_TABLE m)
  let s := s.touchTable b tn 2
  match s.curve2 b tn (s.sigI x) (s.sigI y) with
  | none => s.raise uTbk 2
  | some v =>
    let s := s.drive 5 (0x600 + m) (s.get uTbk (tbk_MAPC_OUTSIG m)) (BitVec.ofInt 32 v)
    s.seti uTbk (tbk_MAPD_VALUE m) v

/-- MAP_EVALUATION of evaluator `m`: MAPCm.OFS ticks after an event of cadence MAPAm.CAD. -/
def execMapEvaluation (t m : Nat) (s : State) : Host.Outcome State Fault Refusal :=
  let s := s.at t
  let m := m % 8
  match s.mapEvents m with
  | e :: es =>
    if s.mapOn m && s.due (e + s.get uTbk (tbk_MAPC_OFS m)) then .next ((s.setMapEvents m es).mapEvaluate m) else .next s
  | [] => .next s

/-- The bindings of an evaluator with EN 1 are made: XSIG and YSIG as readers and OUTSIG as a writer, all Q15; a breach is
rejected: EN reads 0, and TBK records 0x0A20 (R428). -/
def State.mapBind (s : State) (m : Nat) : State :=
  let x := s.get uTbk (tbk_MAPB_XSIG m)
  let y := s.get uTbk (tbk_MAPB_YSIG m)
  let reject := fun (s : State) => (s.set uTbk (tbk_MAPA_EN m) 0).fault uTbk 0x0A20
  match s.bindReader x 0 with
  | (s, false) => reject s
  | (s, true) =>
    match s.bindReader y 0 with
    | (s, false) => reject (s.freeReader x)
    | (s, true) =>
      match s.bindWriter (s.get uTbk (tbk_MAPC_OUTSIG m)) 5 (0x600 + m) 0 with
      | (s, false) => reject ((s.freeReader x).freeReader y)
      | (s, true) => s

/-- After a write of MAPAm, MAPBm or MAPCm; `was`, `x`, `y` and `out` are EN, XSIG, YSIG and OUTSIG before the write. -/
def State.mapWritten (s : State) (m : Nat) (was : Bool) (x y out : Nat) : State :=
  let s := if was then (((s.freeReader x).freeReader y).freeWriter out 5 (0x600 + m)).setMapEvents m [] else s
  if s.on uTbk (tbk_MAPA_EN m) then s.mapBind m else s

end Sys2Proof.Machine
end

