-- ==== Sys2Proof/Machine/Can.lean ====
section
/-!
DEFINITION. The CAN controllers (R451 to R472): receive objects, transmit buffers, fault confinement and the states. TEC and
REC follow ISO 11898-1:2015, which the spec names and does not repeat (PRESUMED, log entry 40).
-/

namespace Sys2Proof.Machine

def uCn (n : Nat) : Unit := ⟨.cn, n⟩

/-- CNSTAT.STATE (R467): 0 OFF, 1 INTEGRATING, 2 ACTIVE, 3 PASSIVE, 4 BUSOFF, 5 RECOVERING. -/
def State.cnState (s : State) (n : Nat) : Nat := s.get (uCn n) cn_CNSTAT_STATE

/-- Does a controller take part in bus traffic: ACTIVE or PASSIVE? -/
def State.cnOn (s : State) (n : Nat) : Bool := s.cnState n = 2 || s.cnState n = 3

/-! Transmit buffers (R462 to R466). -/

/-- A buffer ends with ABORTED and a cause. -/
def State.txAbort (s : State) (n b cause : Nat) : State :=
  let s := (s.set (uCn n) (cn_TXCMD_REQ b) 0).cause (uCn n) (cn_TXRES_CAUSE b) cause
  s.cor (uCn n) (cn_TXRES_ABORTED b) 1

/-- Every pending buffer ends with a cause, and no frame is on the bus. -/
def State.txDropAll (s : State) (n cause : Nat) : State :=
  let s := forN 3 (fun b s => if s.on (uCn n) (cn_TXCMD_REQ b) then s.txAbort n b cause else s) s
  (s.modCan n fun h => { h with sending := none, aborting := false }).set (uCn n) cn_CNSTAT_TXING 0

/-- Would a request of a frame be refused, and with which cause (R462)? -/
def State.txRefusal (s : State) (n : Nat) (ide fdf brs : Bool) (bytes ident : Nat) : Option Nat :=
  if !(s.cnOn n) || s.on (uCn n) cn_CNCFG_MON then some 9
  else if !(bytesOk fdf bytes) || (fdf && !(s.on (uCn n) cn_CNCFG_FDEN)) || (brs && !fdf) || (!ide && 0x800 ≤ ident) then
    some 10
  else none

/-- TXCMDb.REQ written 1 (R95, R462). -/
def State.txRequest (s : State) (n b : Nat) : State :=
  let u := uCn n
  if s.on u (cn_TXCMD_REQ b) then s else
  match s.txRefusal n (s.on u (cn_TXCTL_IDE b)) (s.on u (cn_TXCTL_FDF b)) (s.on u (cn_TXCTL_BRS b))
    (s.get u (cn_TXCTL_BYTES b)) (s.get u (cn_TXID_ID b)) with
  | some c => (s.cause u (cn_TXRES_CAUSE b) c).cor u (cn_TXRES_REFUSED b) 1
  | none => s.set u (cn_TXCMD_REQ b) 1

/-- TXCMDb.REQ written 0 (R465, R471). -/
def State.txHostAbort (s : State) (n b : Nat) : State :=
  if s.on (uCn n) (cn_TXCMD_REQ b) then
    if (s.can n).sending = some b then s.modCan n fun h => { h with aborting := true } else s.txAbort n b 8
  else s.abortLate (uCn n) (cn_TXCMD_REQ b) (cn_TXRES_ABORTLATE b)

/-- The arbitration key of a buffer (R463): the 11 base bits, base format before extended, then the other 18 bits. -/
def State.txKey (s : State) (n b : Nat) : Nat :=
  let id := s.get (uCn n) (cn_TXID_ID b)
  if s.on (uCn n) (cn_TXCTL_IDE b) then id / 2 ^ 18 * 2 ^ 19 + 2 ^ 18 + id % 2 ^ 18 else id % 2048 * 2 ^ 19

/-- The pending buffer that a selection instant chooses (R463). -/
def State.txChoice (s : State) (n : Nat) : Option Nat :=
  ((List.range 3).filter fun b => s.on (uCn n) (cn_TXCMD_REQ b)).foldl (fun best b =>
    match best with
    | none => some b
    | some a => if !(s.on (uCn n) cn_CNCFG_TXPRI) && s.txKey n b < s.txKey n a then some b else best) none

/-- CAN_SELECTION_INSTANT of controller `n` (R463): the chosen frame starts. -/
def execCanSelectionInstant (t n : Nat) (s : State) : Host.Outcome State Fault Refusal :=
  let s := s.at t
  let n := n % 4
  if !(s.cnOn n) || (s.can n).sending ≠ none then .next s else
  match s.txChoice n with
  | some b => .next ((s.modCan n fun h => { h with sending := some b, aborting := false }).set (uCn n) cn_CNSTAT_TXING 1)
  | none => .next s

/-! Fault confinement (R467, R468). -/

/-- Entry to BUSOFF (R468). -/
def State.busOff (s : State) (n : Nat) : State :=
  let u := uCn n
  let s := s.set u cn_CNSTAT_STATE (if s.on u cn_CNCFG_BOAUTO then 5 else 4)
  let s := s.txDropAll n 6
  (s.raise u 6).faultR u 0x0B10 0

/-- TEC and REC take new values (R467): EWARN, EPASS and the state that follows. -/
def State.cnCounts (s : State) (n tec rec : Nat) : State :=
  let u := uCn n
  let was := 96 ≤ s.get u cn_CNERR_TEC || 96 ≤ s.get u cn_CNERR_REC
  let s := (s.set u cn_CNERR_TEC (min tec 511)).set u cn_CNERR_REC (min rec 255)
  let s := if !was && (96 ≤ tec || 96 ≤ rec) then s.raise u 4 else s
  if !(s.cnOn n) then s
  else if 255 < tec then s.busOff n
  else if 127 < tec || 127 < rec then
    if s.cnState n = 3 then s else (s.set u cn_CNSTAT_STATE 3).raise u 5
  else s.set u cn_CNSTAT_STATE 2

/-- REC after a good reception: one less, or a value from 119 to 127 that the standard leaves open where it was above 127. -/
def State.cnGoodRx (s : State) (n : Nat) : State :=
  let r := s.get (uCn n) cn_CNERR_REC
  let tec := s.get (uCn n) cn_CNERR_TEC
  if 127 < r then s.fresh.cnCounts n tec (119 + (Config.freeWord s.freeCtr).toNat % 9)
  else s.cnCounts n tec (r - 1)

/-- CAN_ERROR of controller `n` (R467, R470): causes 1 BIT, 2 STUFF, 3 FORM, 4 ACK, 5 CRC; as transmitter or not, in the
data phase or not. `exc` says that ISO 11898-1 makes the case an exception: a transmitter then leaves TEC as it is, and a
receiver raises REC by 8 in place of 1. -/
def execCanError (t n cause : Nat) (tx data exc : Bool) (s : State) : Host.Outcome State Fault Refusal :=
  let s := s.at t
  let n := n % 4
  let u := uCn n
  if !(s.cnOn n) then .next s else
  let s := s.inc u cn_CNERRCNT_COUNT
  let s := s.first u cn_CNLEC_ERR cn_CNLEC_TX (if tx then 1 else 0)
  let s := s.first u cn_CNLEC_ERR cn_CNLEC_DATA (if data then 1 else 0)
  let s := (s.first u cn_CNLEC_ERR cn_CNLEC_CAUSE cause).cor u cn_CNLEC_ERR 1
  let tec := s.get u cn_CNERR_TEC
  let rec_ := s.get u cn_CNERR_REC
  .next (if tx then s.cnCounts n (if exc then tec else tec + 8) rec_
    else s.cnCounts n tec (if exc then rec_ + 8 else rec_ + 1))

/-- CAN_RECOVER (R468). -/
def State.cnRecover (s : State) (n : Nat) : State :=
  if s.cnState n = 4 then (s.set (uCn n) cn_CNSTAT_STATE 5).set (uCn n) cn_CNCTL_RECOVER 1 else s

/-- BUS_OFF_RECOVERY_DONE (R468). -/
def execBusOffRecoveryDone (t n : Nat) (s : State) : Host.Outcome State Fault Refusal :=
  let s := s.at t
  let u := uCn (n % 4)
  if s.cnState (n % 4) ≠ 5 then .next s else
  let s := (s.set u cn_CNERR_TEC 0).set u cn_CNERR_REC 0
  .next (((s.set u cn_CNSTAT_STATE 2).set u cn_CNCTL_RECOVER 0).raise u 7)

/-- CAN_INTEGRATION_DONE (R467): ACTIVE, or what TEC and REC ask. -/
def execCanIntegrationDone (t n : Nat) (s : State) : Host.Outcome State Fault Refusal :=
  let s := s.at t
  let n := n % 4
  let u := uCn n
  if s.cnState n ≠ 1 then .next s
  else .next ((s.set u cn_CNSTAT_STATE 2).cnCounts n (s.get u cn_CNERR_TEC) (s.get u cn_CNERR_REC))

/-- CAN_PROTOCOL_EXCEPTION (R452, R472). -/
def execCanProtocolException (t n : Nat) (s : State) : Host.Outcome State Fault Refusal :=
  let s := s.at t
  let n := n % 4
  let u := uCn n
  if s.cnOn n && s.on u cn_CNCFG_PXE then .next ((s.set u cn_CNSTAT_STATE 1).raise u 10) else .next s

/-! The end of an attempt (R464, R465). -/

/-- TDCV as measured in a frame that was sent (R455). -/
def State.tdc (s : State) (n b tdcv : Nat) : State :=
  let u := uCn n
  if s.on u cn_CNTDC_EN && s.on u (cn_TXCTL_FDF b) && s.on u (cn_TXCTL_BRS b) then s.set u cn_CNTDC_TDCV (min tdcv 127)
  else s

/-- CAN_TX_SUCCESS of controller `n` (R464, R465): `sof` is the tick of the start-of-frame edge and `tdcv` the delay that
TDC measured. -/
def execCanTxSuccess (t n sof tdcv : Nat) (s : State) : Host.Outcome State Fault Refusal :=
  let s := s.at t
  let n := n % 4
  let u := uCn n
  match (s.can n).sending with
  | none => .next s
  | some b =>
    let late := (s.can n).aborting
    let s := s.tdc n b tdcv
    let s := s.modCan n fun h => { h with sending := none, aborting := false }
    let s := ((s.set u (cn_TXCMD_REQ b) 0).set u cn_CNSTAT_TXING 0).doneNote u (cn_TXCMD_REQ b)
    let s := s.cor u (cn_TXRES_DONE b) 1
    let s := if late then s.cor u (cn_TXRES_ABORTLATE b) 1 else s
    let s := (s.set u (cn_TXSTAMP_STAMP b) (sof % 2 ^ 32)).inc u cn_CNTXCNT_COUNT
    let s := s.raise u 2
    .next (s.cnCounts n (s.get u cn_CNERR_TEC - 1) (s.get u cn_CNERR_REC))

/-- CAN_TX_ATTEMPT_FAIL of controller `n` (R464, R465): causes 1 ARB, 2 ACK, 3 BIT, 4 STUFF, 5 FORM; `tdcv` is the delay
measured in the attempt, where its frame came as far as that. -/
def execCanTxAttemptFail (t n cause : Nat) (tdcv : Option Nat) (s : State) : Host.Outcome State Fault Refusal :=
  let s := s.at t
  let n := n % 4
  let u := uCn n
  match (s.can n).sending with
  | none => .next s
  | some b =>
    let abort := (s.can n).aborting
    let s := match tdcv with
      | some v => s.tdc n b v
      | none => s
    let s := (s.modCan n fun h => { h with sending := none, aborting := false }).set u cn_CNSTAT_TXING 0
    if abort then .next (s.txAbort n b 8)
    else if s.on u (cn_TXCTL_OS b) then .next ((s.txAbort n b cause).raise u 3)
    else .next s

/-! Reception (R458 to R461). -/

/-- The payload length that a DLC spells (ISO 11898-1). -/
def dlcBytes (fdf : Bool) (dlc : Nat) : Nat :=
  if dlc ≤ 8 then dlc else if fdf then [12, 16, 20, 24, 32, 48, 64].getD (dlc - 9) 64 else 8

/-- The key of a frame or an entry (R457). -/
def canKey (ide : Bool) (ident : Nat) : Nat := (if ide then 2 ^ 29 else 0) + ident

/-- The payload of a frame: its first `n` bytes. -/
def framePayload (f : CanFrame) (n : Nat) : List Byte := (List.range n).map fun k => f.data.getD k 0

/-- The sixteen payload words of an object (R459). -/
def payloadWords (p : List Byte) : List Word :=
  (List.range 16).map fun k => p.getD (4 * k + 3) 0 ++ p.getD (4 * k + 2) 0 ++ p.getD (4 * k + 1) 0 ++ p.getD (4 * k) 0

/-- A bit of RXNEWk or RXLOSTk set. -/
def State.setObjBit (s : State) (n : Nat) (f : Nat → Fld) (k : Nat) (v : Bool) : State :=
  let fl := f (k / 32)
  let w := s.get (uCn n) fl
  s.set (uCn n) fl (if v then w ||| 2 ^ (k % 32) else if w.testBit (k % 32) then w - 2 ^ (k % 32) else w)

/-- The unpack of a stored frame (R461). -/
def State.canUnpack (s : State) (n k tn : Nat) (f : CanFrame) : State :=
  let u := uCn n
  let b := s.activeBank
  let s := s.touchTable b tn 5
  let bytes := dlcBytes f.fdf f.dlc
  match s.fmt b tn with
  | none => s
  | some m =>
    if m.bytes ≠ bytes || m.fdf ≠ f.fdf then
      ((s.inc u cn_CNFMTCNT_COUNT).raise u 9).fault u 0x0B11
    else
      let p := framePayload f bytes
      forL m.fields (fun x s =>
        s.drive 3 (n * 256 + k) x.sig (BitVec.ofInt 32 (x.unpack p (s.dir x.sig dir_TYPE = 1)))) s

/-- A matched frame stored in object `k` at byte address `a` (R459, R460). -/
def State.canStore (s : State) (n k a : Nat) (host : Bool) (f : CanFrame) (sof : Nat) : State :=
  let u := uCn n
  let bytes := dlcBytes f.fdf f.dlc
  let (w0, s) := s.readMem a
  let was := w0.getLsbD 30
  let lost := host && was
  let bit := fun (b : Bool) (k : Nat) => if b then 2 ^ k else 0
  let head := fun (valid : Bool) => BitVec.ofNat 32 (bit valid 31 + bit host 30 + bit lost 29 + bit f.ide 28 +
    bit f.fdf 27 + bit f.brs 26 + bit f.esi 25 + bytes * 2 ^ 16 + (bits w0 0 16 + 1) % 65536)
  let s := s.hwWord a (head false)
  let s := s.hwWords (a + 4) ([BitVec.ofNat 32 (f.ident % 2 ^ 29), BitVec.ofNat 32 sof, BitVec.ofNat 32 (f.dlc % 16)] ++
    payloadWords (framePayload f bytes))
  let s := (s.hwWord a (head true)).inc u cn_CNRXCNT_COUNT
  if !host then s else
  let s := (s.setObjBit n cn_RXNEW_NEW k true).raise u 0
  if lost then (s.setObjBit n cn_RXLOST_LOST k true).raise u 1 else s

/-- CAN_FRAME_ACCEPTED of a data frame by controller `n` (R458): `sof` is the tick of its start-of-frame edge. -/
def execCanFrameAccepted (t n : Nat) (frame : CanFrame) (sof : Nat) (s : State) : Host.Outcome State Fault Refusal :=
  let s := s.at t
  let n := n % 4
  let u := uCn n
  if !(s.cnOn n) || (s.can n).sending ≠ none || (frame.fdf && !(s.on u cn_CNCFG_FDEN)) then .next s else
  let s := s.cnGoodRx n
  let objs := (s.can n).objs
  match objs.findIdx? fun o => o.key = canKey frame.ide frame.ident with
  | none => .next ((s.inc u cn_CNUNMCNT_COUNT).raise u 8)
  | some k =>
    match s.region (0x20 + n), objs[k]? with
    | some (base, _), some o =>
      let s := s.canStore n k (base + 0x810 + 80 * k) o.host frame sof
      match o.fmt with
      | some tn => .next (s.canUnpack n k tn frame)
      | none => .next s
    | _, _ => .next s

/-- CAN_REMOTE_FRAME (R452). -/
def execCanRemoteFrame (t n : Nat) (s : State) : Host.Outcome State Fault Refusal :=
  let s := s.at t
  let n := n % 4
  if !(s.cnOn n) || (s.can n).sending ≠ none then .next s
  else .next ((s.cnGoodRx n).inc (uCn n) cn_CNRTRCNT_COUNT)

/-- CNRXACK with GO (R460, R471). -/
def State.canAck (s : State) (n : Nat) : State :=
  let u := uCn n
  let k := s.get u cn_CNRXACK_OBJ
  match s.region (0x20 + n), (s.can n).objs[k]? with
  | some (base, _), some _ =>
    let a := base + 0x810 + 80 * k
    let (w0, s) := s.readMem a
    if bits w0 0 16 ≠ s.get u cn_CNRXACK_SEQ then s else
    let s := s.hwWord a (w0 &&& 0x9FFFFFFF#32)
    (s.setObjBit n cn_RXNEW_NEW k false).setObjBit n cn_RXLOST_LOST k false
  | _, _ => s

/-! Load and stop (R453, R457, R469). -/

/-- A bit timing set keeps the limits of R453: `sp` is the shortest bit in CAN clock periods. -/
def timingOk (brp seg1 seg2 sjw sp : Nat) : Bool :=
  sjw ≤ seg2 && sp ≤ (brp + 1) * (1 + (seg1 + 1) + (seg2 + 1))

/-- The bit timing of a controller (R453). -/
def State.cnTiming (s : State) (n : Nat) : Bool :=
  let u := uCn n
  timingOk (s.get u cn_CNBTA_BRP) (s.get u cn_CNBTA_TSEG1) (s.get u cn_CNBTA_TSEG2) (s.get u cn_CNBTA_SJW) 80 &&
  timingOk (s.get u cn_CNBTD_BRP) (s.get u cn_CNBTD_TSEG1) (s.get u cn_CNBTD_TSEG2) (s.get u cn_CNBTD_SJW) 10

/-- The entries of the directory in a region at a byte address (R456). -/
def State.cnEntries (s : State) (base n : Nat) : List CanObj :=
  (List.range n).map fun k =>
    let d0 := s.memWord (base + 0x10 + 8 * k)
    let d1 := s.memWord (base + 0x14 + 8 * k)
    ⟨canKey (d0.getLsbD 31) (bits d0 0 29), d1.getLsbD 31, if d1.getLsbD 30 then some (bits d1 0 16) else none⟩

/-- Is an entry's FMT table present, a receive table, and for this controller and identifier (R457)? -/
def State.objFmtOk (s : State) (n : Nat) (o : CanObj) : Bool :=
  match o.fmt with
  | none => true
  | some tn =>
    match s.fmt s.activeBank tn with
    | none => false
    | some m => m.dir = 0 && m.cn = n && canKey m.ide m.ident = o.key

/-- The fields of one entry bound as writers of class 3 (R457); whether all were accepted. -/
def State.bindFields (s : State) (inst : Nat) : List FmtField → State × Bool
  | [] => (s, true)
  | f :: fs =>
    match s.bindWriter f.sig 3 inst (s.dir f.sig dir_TYPE) with
    | (s, true) => s.bindFields inst fs
    | (s, false) => (s, false)

/-- The fields of every entry bound, from entry `k`. -/
def State.bindObjs (s : State) (n k : Nat) : List CanObj → State × Bool
  | [] => (s, true)
  | o :: os =>
    let fields := match o.fmt with
      | none => []
      | some tn => match s.fmt s.activeBank tn with
        | none => []
        | some m => m.fields
    match s.bindFields (n * 256 + k) fields with
    | (s, true) => s.bindObjs n (k + 1) os
    | (s, false) => (s, false)

/-- Every binding of a controller's objects released. -/
def State.canUnbind (s : State) (n : Nat) : State :=
  forN 4096 (fun g s =>
    if s.dir g dir_WCLASS = 3 && s.dir g dir_WINST / 256 = n then s.freeWriter g 3 (s.dir g dir_WINST) else s) s

/-- A failed load. -/
def State.canFail (s : State) (n : Nat) : State :=
  ((s.modCan n fun h => { h with objs := [] }).set (uCn n) cn_CNOBJ_NOBJ 0).failCheck (uCn n) 0x0B01

/-- The load of a controller's directory (R457), after which it integrates (R469). Without its region it stays at STARTING
(R38). -/
def State.canLoad (s : State) (n : Nat) : State :=
  let u := uCn n
  let s := s.canUnbind n
  let clear := s.failedCheck.filter (· ≠ u.page)
  match s.region (0x20 + n) with
  | none => { (s.modCan n fun h => { h with objs := [] }).set u cn_CNOBJ_NOBJ 0 with failedCheck := clear ++ [u.page] }
  | some (base, len) =>
    let (w0, s) := s.readMem base
    let nobj := bits w0 0 9
    if 256 < nobj || len < 0x810 + 80 * nobj then s.canFail n else
    let a := cwOfAddr (base + 0x10)
    let (ok, s) := s.decodeAll ((List.range (nobj / 4 + 1)).map (a + ·))
    let objs := s.cnEntries base nobj
    let keysOk := risingI (objs.map fun o => (o.key : Int)) &&
      objs.all fun o => 2 ^ 29 ≤ o.key || o.key < 0x800
    if !ok || !keysOk || !(s.cnTiming n) then s.canFail n else
    let s := forL (objs.filterMap (·.fmt)) (fun tn s => s.touchTable s.activeBank tn 5) s
    if !(objs.all (s.objFmtOk n)) then s.canFail n else
    match s.bindObjs n 0 objs with
    | (s, false) => (s.canUnbind n).canFail n
    | (s, true) =>
      let s := { s with failedCheck := clear }
      let s := (s.modCan n fun h => { h with objs := objs }).set u cn_CNOBJ_NOBJ nobj
      s.set u cn_CNSTAT_STATE 1

/-- Do controllers take part in the mode in force (R469)? -/
def State.canMode (s : State) : Bool := s.runsMode

/-- A controller leaves the bus: at its disable, and at entry to CONFIG, CALIBRATE or DORMANT (R469). -/
def State.canStop (s : State) (n : Nat) : State :=
  let u := uCn n
  ((s.txDropAll n 7).set u cn_CNSTAT_STATE 0).set u cn_CNCTL_RECOVER 0

/-- A controller whose effective enable goes to 1 (R457). -/
def State.canEnable (s : State) (n : Nat) : State := if s.canMode then s.canLoad n else s

/-- Entry to READY from CALIBRATE or DORMANT (R457). -/
def State.canReady (s : State) : State := forN 4 (fun n s => if s.enabled (uCn n) then s.canLoad n else s) s

/-! CANTX (R466). -/

/-- A frame packed from an FMT table of a bank into its transmit buffer and requested; none where it is refused. -/
def State.canTx (s : State) (bank tn : Nat) : Option State :=
  match s.fmt bank tn with
  | none => none
  | some m =>
    let u := uCn m.cn
    if m.dir ≠ 1 || s.on u (cn_TXCMD_REQ m.tb) || (s.txRefusal m.cn m.ide m.fdf m.brs m.bytes m.ident).isSome then none
    else
      let s := forL (m.fields.map (·.sig)) (fun k s => s.sigParity k) s
      let p := m.fields.foldl (fun p f => f.pack (s.sigI f.sig) p) (List.replicate m.bytes (0 : Byte))
      let b := m.tb
      let flag := fun (x : Bool) => if x then 1 else 0
      let s := (s.set u (cn_TXID_ID b) m.ident).set u (cn_TXCTL_FDF b) (flag m.fdf)
      let s := (s.set u (cn_TXCTL_BRS b) (flag m.brs)).set u (cn_TXCTL_IDE b) (flag m.ide)
      let s := s.set u (cn_TXCTL_BYTES b) m.bytes
      let s := forL (payloadWords p).zipIdx (fun w s => s.set u (cn_TXDATA_DATA b w.2) w.1.toNat) s
      some (s.set u (cn_TXCMD_REQ b) 1)

/-- The bank that the step in progress of a sequencer began with (R40). -/
def State.sqBank (s : State) (n : Nat) : Nat :=
  match (s.sq n).run with
  | some r => r.bank
  | none => s.activeBank

/-- CANTX, after the reads of its table (R571), in the bank of the step (R40). -/
def State.sqCantx (s : State) (n tn idx : Nat) : State :=
  let s := s.touchTable (s.sqBank n) tn 5
  match s.canTx (s.sqBank n) tn with
  | some s => s
  | none => s.sqFail n idx 5

/-- Action CANTX of sequencer `n`. -/
def execCantx (t n : Nat) (s : State) : Host.Outcome State Fault Refusal :=
  let s := s.at t
  let n := n % 32
  match s.sqAction n 6 with
  | some (a0, _, k) => .next ((s.sqCantx n (bits a0 0 16) k).sqNext n)
  | none => .next s

end Sys2Proof.Machine
end

