-- ==== Sys2Proof/Machine/Safety.lean ====
section
/-!
DEFINITION. The safety supervisor (R511 to R530), the safe outputs with their readback and tests (R531 to R534), the
diagnostics (R535 to R537) and the supply monitors (R66, R536).
-/

namespace Sys2Proof.Machine

def uDgk : Unit := ⟨.dgk, 0⟩
def uSfk : Unit := ⟨.sfk, 0⟩
def uSos : Unit := ⟨.sos, 0⟩
def uVmon : Unit := ⟨.vmon, 0⟩

/-- SYS.ACCERR records an access that was rejected, refused or ignored (R99, R106): causes 1 ALIGN, 2 ADDR, 3 REFUSED,
4 LOCKWR. Port 2 is a sequencer, for which PORT has no code: the field then takes a free value. -/
def State.accErr (s : State) (port addr cause : Nat) : State :=
  let v := if port < 2 then port else (Config.freeWord s.freeCtr).toNat
  let s := if port < 2 then s else s.fresh
  let s := s.first uSys sys_ACCERR_ERR sys_ACCERR_CAUSE cause
  let s := s.first uSys sys_ACCERR_ERR sys_ACCERR_PORT v
  let s := s.first uSys sys_ACCERR_ERR sys_ACCERR_ADDR (addr / 4)
  s.cor uSys sys_ACCERR_ERR 1

/-! Publication of the safety function kernel (R547). -/

/-- A quantity of the safety function kernel updated. -/
def State.setSfk (s : State) (q : Nat) (w : Word) : State :=
  let s := { s with qty := sset qtyDefault s.qty (0x700 + q) w }
  forN 2 (fun k s => s.pubEntry uSfk (0xA0 + 4 * k) q (0x700 + q) w) s

/-- SFSTAT has changed: quantity STATE. -/
def State.sfState (s : State) : State := s.setSfk 0 (s.getW (uSfk.addr 0x84))

/-! STO (R517 to R521). -/

/-- Is DORMANT D4 in force, in which STO does not work? -/
def State.inD4 (s : State) : Bool := s.inMode .dormant && s.get uSys sys_MODESTAT_VARIANT = 4

/-- STO follows its requests: the inputs', and the internal one (R517, R518). -/
def State.stoFollow (s : State) : State :=
  let now := s.stoIn || s.on uSsv ssv_STOSTAT_INT
  if now = s.sto then s
  else if now then ({ s.set uSsv ssv_STOSTAT_ACTIVE 1 with stoSoft := true, stoSoftAt := s.now }.raise uSsv 1).outputs
  else { s.set uSsv ssv_STOSTAT_ACTIVE 0 with stoSoft := false }.outputs

/-- An internal STO is requested, with cause ISTO (R517). -/
def State.stoInternal (s : State) : State := ((s.set uSsv ssv_STOSTAT_INT 1).stoFollow).safety 2 0

/-- Does a request of SS1 stand that is not an SFCMD write: a low STO input in MODE 1 (R520)? -/
def State.ss1Input (s : State) : Bool :=
  s.on uSsv ssv_STOCFG_MODE && !(s.on uSsv ssv_STOSTAT_INA && s.on uSsv ssv_STOSTAT_INB)

/-- SS1 is requested (R525): a request while it runs, or after it has ended, is ignored. -/
def State.ss1Start (s : State) : State :=
  if s.get uSfk sfk_SFSTAT_SS1PH ≠ 0 then s else
  let v : Int := s.sfk.vs.headD 0
  ({ s.set uSfk sfk_SFSTAT_SS1PH 1 with
      sfk := { s.sfk with ss1At := s.tick, ramp := v + s.get uSfk sfk_SS1R_TOL } }).sfState

/-- SS1 ends in STO (R525). -/
def State.ss1End (s : State) : State := ((s.set uSfk sfk_SFSTAT_SS1PH 2).sfState.raise uSfk 4).stoInternal

/-- Does SFCMD request SS1, with SS1 available? -/
def State.ss1Asked (s : State) : Bool := s.on uSfk sfk_SFCMD_SS1REQ && s.on uSfk sfk_SFCFG_SS1

/-- The internal request ends once SS1REQ and STOREQ are clear, no violation holds and no input requests SS1 (R512). -/
def State.stoGone (s : State) : State :=
  if s.on uSsv ssv_STOSTAT_INT && !(s.on uSfk sfk_SFCMD_STOREQ) && !(s.ss1Asked) && s.sfk.viol = 0 && !(s.ss1Input) then
    let s := s.set uSsv ssv_STOSTAT_INT 0
    let s := if s.get uSfk sfk_SFSTAT_SS1PH = 2 then (s.set uSfk sfk_SFSTAT_SS1PH 0).sfState else s
    s.stoFollow
  else s

/-- The STO inputs at levels that have passed their filters (R517, R519, R520). -/
def State.stoLevels (s : State) (a b : Bool) : State :=
  let bit := fun (x : Bool) => if x then 1 else 0
  let differed := s.on uSsv ssv_STOSTAT_DISC
  let s := (s.set uSsv ssv_STOSTAT_INA (bit a)).set uSsv ssv_STOSTAT_INB (bit b)
  let s := s.set uSsv ssv_STOSTAT_DISC (bit (a != b))
  let s := if a != b && !differed then { s with stoDiff := s.now } else s
  let s := if a && b then { s with stoDisc := false } else s
  if s.inD4 then { s with stoD4 := s.stoD4 || !(a && b) }
  else if s.on uSsv ssv_STOCFG_MODE then
    let s := { s with stoIn := false }
    let s := if s.ss1Input then s.ss1Start else s.stoGone
    s.stoFollow
  else
    let new := !(a && b) && !s.stoIn
    let s := { s with stoIn := !(a && b) }.stoFollow
    if new then s.safety 0 0 else s

/-- STO_INPUT_CHANGE: the filtered levels of nSTO_A and nSTO_B are now `a` and `b`. -/
def execStoInputChange (t : Nat) (a b : Bool) (s : State) : Host.Outcome State Fault Refusal :=
  .next ((s.at t).stoLevels a b)

/-- STO on the wake from D4: an input that was low there is latched (R517). -/
def State.stoWake (s : State) : State :=
  let a := s.on uSsv ssv_STOSTAT_INA
  let b := s.on uSsv ssv_STOSTAT_INB
  let low := s.stoD4 && a && b
  let s := { s with stoD4 := false }.stoLevels a b
  if low then s.safety 0 0 else s

/-- The time for which STO forces the SOFT balls high, by the RC oscillator at the fast end of its range (R517, R545). -/
def State.stoSoftTime (s : State) : Nat := 190 * clamp 1 10 (s.get uSsv ssv_STOCFG_SOFT)

/-- STO_SOFT_RELEASE: the SOFT balls forced high by STO are released, STOCFG.SOFT × 0.5 µs nominal later (R517). -/
def execStoSoftRelease (t : Nat) (s : State) : Host.Outcome State Fault Refusal :=
  let s := s.at t
  if s.dueOff (s.stoSoftAt + s.stoSoftTime) then .next { s with stoSoft := false } else .next s

/-- STO_DISCREPANCY: the filtered inputs have differed for DISC ms (R519). -/
def execStoDiscrepancy (t : Nat) (s : State) : Host.Outcome State Fault Refusal :=
  let s := s.at t
  if s.on uSsv ssv_STOSTAT_DISC && s.dueOff (s.stoDiff + ms (atLeast1 (s.get uSsv ssv_STOCFG_DISC))) then
    .next ({ s with stoDisc := true }.safety 1 0)
  else .next s

/-! Causes (R512, R516). -/

/-- Has the condition of a cause gone (R512)? -/
def State.causeGone (s : State) (b : Nat) : Bool :=
  match b with
  | 0 => s.on uSsv ssv_STOSTAT_INA && s.on uSsv ssv_STOSTAT_INB
  | 1 => !s.stoDisc && !(s.on uSsv ssv_STOSTAT_DISC)
  | 2 => !(s.ss1Asked) && !(s.on uSfk sfk_SFCMD_STOREQ) && s.sfk.viol = 0
  | 3 => s.shUnits.all fun n => match unitOfSource n with
      | some u => !(s.on u hdr_USTAT_OWNF)
      | none => true
  | 4 => 720 ≤ s.vcore && s.vcore ≤ 800
  | 5 => s.get uDgk dgk_DGSTAT_SUPPLY = 0
  | 6 => s.tbBad = 0
  | 7 => s.locked
  | 8 => !s.sigBad
  | 9 => s.sfk.viol = 0
  | 10 => s.sfk.disc = 0
  | 11 => !s.sfk.srcBad
  | 12 => s.lossNow = 0
  | 13 => false
  | _ => true

/-- SHCMD.CLR (R516): every cause whose condition has gone is cleared. -/
def State.causesClear (s : State) : State :=
  let c := s.get uSsv ssv_SHCAUSE_CAUSE
  let keep := ((List.range 16).filter fun b => c.testBit b && !(s.causeGone b)).foldl (fun m b => m + 2 ^ b) 0
  let s := if keep.testBit 3 then s else { s with shUnits := [] }
  let s := s.set uSsv ssv_SHCAUSE_CAUSE keep
  if keep = 0 then s.raise uSsv 2 else s

/-! Safe speed and position (R522 to R530). -/

/-- Does SFK evaluate in the mode in force (R529)? -/
def State.sfkRuns (s : State) : Bool :=
  s.enabled uSfk && (s.inMode .ready || s.inMode .run || s.inMode .safeHold || s.inMode .discharge || s.inMode .shadow)

/-- A function's violation bit. -/
def State.setViol (s : State) (fn : Nat) (v : Bool) : State :=
  let m := s.sfk.viol
  let m := if v then m ||| 2 ^ (fn - 1) else if m.testBit (fn - 1) then m - 2 ^ (fn - 1) else m
  { s.set uSfk sfk_SFSTAT_VIOL (if m = 0 then 0 else 1) with sfk := { s.sfk with viol := m } }

/-- A violation of function `fn` begins (R528): 1 SLS, 2 SDI, 3 SLP, 4 SS1; in SHADOW it is an event only (R529). -/
def State.violate (s : State) (fn : Nat) : State :=
  let s := (s.setViol fn true).set uSfk sfk_SFSTAT_VFUNC fn
  let s := (s.set uSfk sfk_SFVSTAMP_STAMP s.stamp).sfState.raise uSfk 0
  if s.inMode .shadow then s else
  let s := s.fault uSfk 0x0D20
  if fn = 4 then s.ss1End else
  let code := if fn = 1 then s.get uSfk sfk_SFREACT_SLS else if fn = 2 then s.get uSfk sfk_SFREACT_SDI
    else s.get uSfk sfk_SFREACT_SLP
  match code with
  | 0 => s.safety 9 0
  | 2 => s.ss1Start.safety 9 0
  | _ => s.stoInternal

/-- A function judged: its violation begins, holds or ends. -/
def State.judge (s : State) (fn : Nat) (v : Bool) : State :=
  if v then (if s.sfk.viol.testBit (fn - 1) then s else s.violate fn)
  else if s.sfk.viol.testBit (fn - 1) then (s.setViol fn false).sfState else s

/-- The difference of two positions, wrapping at 32 bits. -/
def posDiff (a b : Word) : Int := (a - b).toInt

/-- Is SDI, or SLP, active (R526)? -/
def State.sdiOn (s : State) : Bool := s.on uSfk sfk_SFCMD_SDI && s.on uSfk sfk_SFCFG_SDI
def State.slpOn (s : State) : Bool := s.on uSfk sfk_SFCMD_SLP && s.on uSfk sfk_SFCFG_SLP

/-- The speeds of a sample (R522). -/
def State.sampleSpeed (s : State) : State :=
  let a := s.get uSfk sfk_SPDSRC_SIGA
  let b := s.get uSfk sfk_SPDSRC_SIGB
  let s := (s.sigParity a).sigParity b
  let va := (atLeast1 (s.get uSfk sfk_SPDMUL_MULA) : Int) * lo16 (s.sig a)
  let vb := (atLeast1 (s.get uSfk sfk_SPDMUL_MULB) : Int) * lo16 (s.sig b)
  let v := max va.natAbs vb.natAbs
  let n := atLeast1 (s.get uSfk sfk_SFCFG_SPDN)
  let d := if s.get uSfk sfk_SPDMUL_TOL < (va - vb).natAbs then min (s.sfk.disc + 1) (n + 1) else 0
  let s := { s.set uSfk sfk_SFSPD_V (min v 0x7FFF) with
    sfk := { s.sfk with vs := (v :: s.sfk.vs).take 64, disc := d } }
  if d ≠ n then s else
  let s := s.raise uSfk 1
  if s.inMode .shadow then s else (s.fault uSfk 0x0D21).safety 10 0

/-- SDI and SLP at a sample (R526). -/
def State.samplePosition (s : State) : State :=
  let p := s.get uSfk sfk_POSSRC_POSSIG
  let q := s.get uSfk sfk_SLPSRC_POSSIG
  let s := if s.sdiOn then (s.sigParity p).sigParity (s.get uSfk sfk_POSSRC_VALSIG) else s
  let s := if s.slpOn then (s.sigParity q).sigParity (s.get uSfk sfk_SLPSRC_VALSIG) else s
  let bad := (s.sdiOn && s.sig (s.get uSfk sfk_POSSRC_VALSIG) = 0) || (s.slpOn && s.sig (s.get uSfk sfk_SLPSRC_VALSIG) = 0)
  let new := bad && !s.sfk.srcBad
  let s := { s with sfk := { s.sfk with srcBad := bad } }
  let s := if !new then s else
    let s := s.raise uSfk 2
    if s.inMode .shadow then s else (s.fault uSfk 0x0D22).safety 11 0
  let wait := s.sfk.sdiWait
  let s := if s.sdiOn && wait then
      { s.set uSfk sfk_SDIREF_VALUE (s.sig p).toNat with sfk := { s.sfk with sdiWait := false } } else s
  let d := posDiff (s.sig p) (s.getW (uSfk.addr 0x8C))
  let d := if s.on uSfk sfk_SDITOL_DIR then d else -d
  let s := s.judge 2 (s.sdiOn && !wait && (s.get uSfk sfk_SDITOL_TOL : Int) < d)
  let x := (s.sig q).toInt
  s.judge 3 (s.slpOn && (x < s.geti uSfk sfk_SLPLO_VALUE || s.geti uSfk sfk_SLPHI_VALUE < x))

/-- SS1 at a sample (R525). A request that stands with SS1 not begun begins it. -/
def State.sampleSs1 (s : State) : State :=
  if s.inMode .shadow then s else
  let s := s.judge 4 false
  if s.get uSfk sfk_SFSTAT_SS1PH = 0 && (s.ss1Asked || s.ss1Input) then s.ss1Start
  else if s.get uSfk sfk_SFSTAT_SS1PH = 1 && s.on uSfk sfk_SFCFG_SS1M && s.sfk.ss1At < s.tick then
    let r := max 0 (s.sfk.ramp - (s.get uSfk sfk_SS1R_RATE : Int))
    let v : Int := s.sfk.vs.headD 0
    let s := { s with sfk := { s.sfk with ramp := r } }
    if r < v then s.violate 4
    else if v ≤ s.get uSfk sfk_SS1T_STOP then s.ss1End
    else s
  else s

/-- SAFETY_SAMPLE, once on every TBCNT multiple of 20,000 (R522). -/
def execSafetySample (t : Nat) (s : State) : Host.Outcome State Fault Refusal :=
  let s := s.at t
  if !(s.sfkRuns) || !s.locked || s.tick % 20000 ≠ 0 || s.sfk.sampled = some s.tick then .next s
  else .next { s with sfk := { s.sfk with sampled := some s.tick } }.sampleSpeed.samplePosition.sampleSs1.stoGone

/-- The set that SFCMD selects: 0 to 3, or 4 for none (R524). -/
def State.slsAsked (s : State) : Nat :=
  if s.on uSfk sfk_SFCFG_SLS then min 4 (s.get uSfk sfk_SFCMD_SLSSEL) else 4

/-- A set comes into force. -/
def State.slsTake (s : State) (k : Nat) : State :=
  let s := (s.set uSfk sfk_SFSTAT_SLSSEL k).set uSfk sfk_SFSTAT_DECRUN 0
  s.sfState.raise uSfk 5

/-- The selection at an evaluation (R524, R544). -/
def State.slsSelect (s : State) : State :=
  let d := s.slsAsked
  let k := s.get uSfk sfk_SFSTAT_SLSSEL
  if d = k || (4 ≤ d && 4 ≤ k) then
    (if s.on uSfk sfk_SFSTAT_DECRUN then (s.set uSfk sfk_SFSTAT_DECRUN 0).sfState else s)
  else if 4 ≤ d || 4 ≤ k || s.get uSfk (sfk_SLS_LIMIT k) ≤ s.get uSfk (sfk_SLS_LIMIT d) then s.slsTake d
  else if s.on uSfk sfk_SFSTAT_DECRUN && s.sfk.decTo = d then s
  else
    let dec := s.get uSfk (sfk_SLS_DEC d)
    if dec = 0 then s.slsTake d
    else { s.set uSfk sfk_SFSTAT_DECRUN 1 with sfk := { s.sfk with decTo := d, decEnd := s.tick + ms dec } }.sfState

/-- SAFETY_EVALUATION, once on every TBCNT multiple of 80,000, after the sample taken there (R523, R524). Samples that have not been taken
count as 0. -/
def execSafetyEvaluation (t : Nat) (s : State) : Host.Outcome State Fault Refusal :=
  let s := s.at t
  if !(s.sfkRuns) || !s.locked || s.tick % 80000 ≠ 0 || s.sfk.sampled ≠ some s.tick || s.sfk.evaluated = some s.tick then
    .next s else
  let s := { s with sfk := { s.sfk with evaluated := some s.tick } }
  let m := clamp 1 64 (s.get uSfk sfk_SFCFG_M)
  let sum := (s.sfk.vs.take m).foldl (· + ·) 0
  let mean := min (sum / m) 0x7FFF
  let s := (s.set uSfk sfk_SFSPD_MEAN mean).setSfk 1 (BitVec.ofNat 32 mean)
  let s := s.slsSelect
  let k := s.get uSfk sfk_SFSTAT_SLSSEL
  .next ((s.judge 1 (k < 4 && s.get uSfk (sfk_SLS_LIMIT k) * m < sum)).stoGone)

/-- SLS_DECEL_END: the DEC time ends (R524). -/
def execSlsDecelEnd (t : Nat) (s : State) : Host.Outcome State Fault Refusal :=
  let s := s.at t
  if s.on uSfk sfk_SFSTAT_DECRUN && s.due s.sfk.decEnd then .next (s.slsTake s.sfk.decTo) else .next s

/-- SS1_TIMEOUT: TIME has passed since the request (R525). -/
def execSs1Timeout (t : Nat) (s : State) : Host.Outcome State Fault Refusal :=
  let s := s.at t
  if s.get uSfk sfk_SFSTAT_SS1PH = 1 && s.due (s.sfk.ss1At + ms (atLeast1 (s.get uSfk sfk_SS1T_TIME))) then .next s.ss1End
  else .next s

/-- SFCMD holds a new value (R525 to R527). -/
def State.sfcmdTaken (s : State) (w : Word) : State :=
  let sdi := s.sdiOn
  let s := s.setW (uSfk.addr 0x80) w
  let bit := fun (x : Bool) => if x then 1 else 0
  let s := (s.set uSfk sfk_SFSTAT_SDION (bit s.sdiOn)).set uSfk sfk_SFSTAT_SLPON (bit s.slpOn)
  let s := if s.sdiOn && !sdi then { s with sfk := { s.sfk with sdiWait := true } } else s
  let s := if s.sdiOn then s else s.judge 2 false
  let s := if s.slpOn then s else s.judge 3 false
  let s := s.sfState
  let s := if s.ss1Asked && s.sfkRuns && !(s.inMode .shadow) then s.ss1Start else s
  if s.on uSfk sfk_SFCMD_STOREQ && !(s.on uSsv ssv_STOSTAT_INT) then s.stoInternal else s.stoGone

/-- A write of SFCMD (R527): the state, and whether the word was taken. -/
def State.sfcmdWrite (s : State) (w : Word) : State × Bool :=
  if (w.extractLsb' 16 16 = ~~~ (w.extractLsb' 0 16)) && zeroBits w 15 8 && zeroBits w 3 3 then (s.sfcmdTaken w, true)
  else (s.raise uSfk 3, false)

/-- A word with the enabled bytes of another. -/
def mergeBytes (old new : Word) (be : Nat) : Word :=
  (List.range 4).foldl (fun w k =>
    if be.testBit k then (w &&& ~~~ fieldMask (8 * k) 8) ||| (new &&& fieldMask (8 * k) 8) else w) old

/-! Safe outputs (R531 to R534). -/

/-- A fault of an output (R533): both switches open whatever the command. -/
def State.soFault (s : State) (k cause : Nat) : State :=
  let u := uSo k
  let s := if (s.so k).batch then { s with testFail := true } else s
  let s := s.modSo k fun h => { h with phase := 0, batch := false, due := false, bad := 0 }
  let s := s.set u so_SOSTAT_FLT 1
  let s := (s.first u so_SOFC_VALID so_SOFC_CAUSE cause).cor u so_SOFC_VALID 1
  ((s.fault u 0x0D40).raise u 0).outputs.react u 0

/-- The cause that a readback shows outside tests, 0 where it is as expected (R532). -/
def State.soCause (s : State) (k : Nat) (rbh rbl : Bool) : Nat :=
  if s.on (uSo k) so_SOSTAT_CMD then (if !rbh then 2 else if rbl then 3 else 0)
  else (if rbh then 1 else if rbl then 5 else 0)

/-- A passing pulse (R534): after the HS test the gap, after the LS test the pair has passed. -/
def State.soPass (s : State) (k : Nat) : State :=
  let u := uSo k
  if (s.so k).phase = 1 then (s.modSo k fun h => { h with phase := 2, testAt := s.now, bad := 0 }).soDrive k
  else
    let s := (s.modSo k fun h => { h with phase := 0, batch := false, bad := 0, ref := some s.tick }).soDrive k
    let s := (s.inc u so_SOTCNT_COUNT).set u so_SOTSTAMP_STAMP s.stamp
    ((s.raise u 1).sosNext).lossFollow

/-- Has the time of a readback sample come, 10 µs after the last one (R532)? The grid of the samples is open (DESIGN CHOICE, log entry
132). -/
def State.soSampleDue (s : State) (k : Nat) : Bool :=
  match (s.so k).sampled with
  | some a => s.dueOff (a + us 10) || s.now < a
  | none => true

/-- SAFE_OUTPUT_READBACK_SAMPLE of output `k` (R532, R534). -/
def execSafeOutputReadbackSample (t k : Nat) (rbh rbl : Bool) (s : State) : Host.Outcome State Fault Refusal :=
  let s := s.at t
  let k := k % 8
  if !(s.soSampleDue k) then .next s else
  let s := s.modSo k fun h => { h with sampled := some s.now }
  let u := uSo k
  let bit := fun (x : Bool) => if x then 1 else 0
  let s := ((s.set u so_SOSTAT_RBH (bit rbh)).set u so_SOSTAT_RBL (bit rbl)).lossFollow
  if !(s.enabled u) || s.on u so_SOSTAT_FLT then .next s else
  let h := s.so k
  if h.phase = 1 || h.phase = 3 then
    let good := if h.phase = 1 then !rbh && !rbl else rbh && rbl
    let n := if good then h.good + 1 else 0
    let s := s.modSo k fun h => { h with good := n }
    if n = 4 then .next (s.soPass k) else .next s
  else
    let c := s.soCause k rbh rbl
    let n := if c = 0 || s.tick < h.changed + us 200 then 0 else h.bad + 1
    let s := s.modSo k fun h => { h with bad := n }
    if n = 8 then .next (s.soFault k c) else .next s

/-- SAFE_OUTPUT_OVERLOAD of output `k` (R532). -/
def execSafeOutputOverload (t k : Nat) (s : State) : Host.Outcome State Fault Refusal :=
  let s := s.at t
  if !(s.enabled (uSo (k % 8))) || s.on (uSo (k % 8)) so_SOSTAT_FLT then .next s else .next (s.soFault (k % 8) 6)

/-- SAFE_OUTPUT_TEST_DUE of output `k` (R534): the HS test of an eligible output falls due, once in each period of PER seconds counted
from tick 0 (DESIGN CHOICE, log entry 132), or the gap ends and the LS test starts. -/
def execSafeOutputTestDue (t k : Nat) (s : State) : Host.Outcome State Fault Refusal :=
  let s := s.at t
  let k := k % 8
  let h := s.so k
  if h.phase = 2 then
    (if s.dueOff (h.testAt + ms 10) then .next ((s.modSo k fun h => { h with phase := 3, testAt := s.now, good := 0 }).soDrive k)
     else .next s)
  else if h.phase = 0 && h.period < s.tick / s.soPer then
    let s := s.modSo k fun h => { h with period := s.tick / s.soPer }
    if s.soEligible k then .next ((s.modSo k fun h => { h with due := true }).sosNext) else .next s
  else .next s

/-- The cause of a test that fails: what the readback shows, or a free value where its levels are as expected but have not
held (R532, R534). -/
def State.soTestCause (s : State) (k : Nat) : Nat × State :=
  let rbh := s.on (uSo k) so_SOSTAT_RBH
  let rbl := s.on (uSo k) so_SOSTAT_RBL
  if (s.so k).phase = 1 && rbh then (1, s)
  else if (s.so k).phase = 1 && rbl then (5, s)
  else if (s.so k).phase = 3 && !rbl then (4, s)
  else if (s.so k).phase = 3 && !rbh then (2, s)
  else ((Config.freeWord s.freeCtr).toNat, s.fresh)

/-- SAFE_OUTPUT_TEST_TIMEOUT of output `k` (R534): the pulse has lasted TPW. -/
def execSafeOutputTestTimeout (t k : Nat) (s : State) : Host.Outcome State Fault Refusal :=
  let s := s.at t
  let k := k % 8
  let h := s.so k
  if (h.phase = 1 || h.phase = 3) && s.dueOff (h.testAt + us (clamp 40 300 (s.get uSos sos_SOTCFG_TPW))) then
    let (c, s) := s.soTestCause k
    .next (s.soFault k c)
  else .next s

/-- SOTCMD.TESTALL (R534). -/
def State.testAll (s : State) : State :=
  let refuse := fun c => (s.cause uSos sos_SOTRES_CAUSE c).cor uSos sos_SOTRES_REFUSED 1
  if s.on uSos sos_SOTCMD_TESTALL then s
  else if !(s.inMode .ready || s.inMode .run) then refuse 1
  else if (List.range 8).any fun k => (s.so k).phase ≠ 0 then refuse 2
  else
    let s := { s.set uSos sos_SOTCMD_TESTALL 1 with testFail := false }
    let s := forN 8 (fun k s => if s.soEligible k then s.modSo k fun h => { h with due := true, batch := true } else s) s
    s.sosNext

/-- Is the fault of an output still present (R533): is the readback other than OFF? -/
def State.soPresent (s : State) (k : Nat) : Bool :=
  s.on (uSo k) so_SOSTAT_FLT && (s.on (uSo k) so_SOSTAT_RBH || s.on (uSo k) so_SOSTAT_RBL)

/-- FCLR of an output whose fault has gone (R533). -/
def State.soFclr (s : State) (k : Nat) : State := (s.set (uSo k) so_SOSTAT_FLT 0).outputs

/-! Diagnostics (R535 to R537). -/

/-- TIMEBASE_MONITOR_WINDOW: a window of 40,000 ticks ends with a count of RC cycles, or has not ended after 1,200 of them (R535). -/
def execTimebaseMonitorWindow (t count : Nat) (s : State) : Host.Outcome State Fault Refusal :=
  let s := s.at t
  if count < 1200 && !(s.due (s.tbWin + 40000)) then .next s else
  let s := { s with tbWin := s.tick }
  let s := s.set uDgk dgk_TBMCNT_COUNT (min count 0xFFFF)
  let d := ((count : Int) - 800).natAbs
  if d * 1000 ≤ 800 * s.get uDgk dgk_DGCFG_TBTOL && count < 1200 then .next { s with tbBad := 0 } else
  let n := clamp 1 4 (s.get uDgk dgk_DGCFG_TBN)
  let s := { s.inc uDgk dgk_TBMERR_COUNT with tbBad := min (s.tbBad + 1) (n + 1) }
  if s.tbBad = n then .next (((s.fault uDgk 0x0D01).raise uDgk 0).safety 6 0) else .next s

/-- SUPPLY_TRIP of supply `i`: 0 VAN, 1 VIO, 2 VGC, 3 VSAFE, 4 VREF (R536). Before a boot is over
only the level counts. -/
def execSupplyTrip (t i : Nat) (s : State) : Host.Outcome State Fault Refusal :=
  let s := s.at t
  let s := s.set uDgk dgk_DGSTAT_SUPPLY (s.get uDgk dgk_DGSTAT_SUPPLY ||| 2 ^ (i % 5))
  if s.boot = .done then .next (((s.fault uDgk 0x0D02).raise uDgk 1).safety 5 0) else .next s

/-- SUPPLY_RETURN of supply `i` (R536). -/
def execSupplyReturn (t i : Nat) (s : State) : Host.Outcome State Fault Refusal :=
  let s := s.at t
  .next (s.set uDgk dgk_DGSTAT_SUPPLY (s.get uDgk dgk_DGSTAT_SUPPLY &&& (31 - 2 ^ (i % 5))))

/-- DIAGNOSTIC_LOSS_TIMEOUT of bit `b` of DGSTAT.LOSS (R537). -/
def execDiagnosticLossTimeout (t b : Nat) (s : State) : Host.Outcome State Fault Refusal :=
  let s := s.at t
  let b := b % 3
  let n := if b = 0 then s.get uDgk dgk_DGLT_LANE else s.get uDgk dgk_DGLT_PAIR
  let wait := if b = 0 then ms (60000 * n) else ms n
  if (s.get uDgk dgk_DGSTAT_LOSS).testBit b && n ≠ 0 && s.due (sget (fun _ => 0) s.lossAt b + wait) then
    .next ((s.fault uDgk 0x0D03).safety 12 0)
  else .next s

/-! VCORE (R66, R67). -/

/-- UVWARN follows VCORE and VCWARN; VCLOW is raised at its rise. -/
def State.vcoreWarn (s : State) : State :=
  let was := s.on uVmon vmon_VCSTAT_UVWARN
  let now : Bool := s.vcore < clamp 705 800 (s.get uVmon vmon_VCWARN_MV)
  let s := s.set uVmon vmon_VCSTAT_UVWARN (if now then 1 else 0)
  if now && !was then s.raise uVmon 0 else s

/-- A trip of VMON where VCORE lies in a trip band (R66). -/
def State.vcoreTrip (s : State) : State :=
  if 860 < s.vcore then (s.cor uVmon vmon_VCSTAT_OVTRIP 1).safety 4 0
  else if s.vcore < 700 then (s.cor uVmon vmon_VCSTAT_UVTRIP 1).safety 4 0
  else s

/-- The monitors of the supplies as a boot ends: what they find out of range then trips (log entry 13). -/
def State.suppliesAtBoot (s : State) : State :=
  let s := s.vcoreWarn.vcoreTrip
  if s.get uDgk dgk_DGSTAT_SUPPLY ≠ 0 then ((s.fault uDgk 0x0D02).raise uDgk 1).safety 5 0 else s

/-- VCORE_CROSSING: VCORE has been at `mv` for 200 ns, in another band than before (R66). Before a boot is over only the level
counts. -/
def execVcoreCrossing (t mv : Nat) (s : State) : Host.Outcome State Fault Refusal :=
  let s := s.at t
  let was := s.vcore
  -- the hold of a trip bit runs from the end of its cause (R98)
  let s := if was < 700 then s.holdSet uVmon vmon_VCSTAT_UVTRIP
    else if 860 < was then s.holdSet uVmon vmon_VCSTAT_OVTRIP else s
  let s := { s with vcore := mv }
  if s.boot ≠ .done then .next s else
  let s := s.vcoreWarn
  if (860 < mv && was ≤ 860) || (mv < 700 && 700 ≤ was) then .next s.vcoreTrip else .next s

/-- VCMEAS_SAMPLE, on every TBCNT multiple of 4,000 while locked (R66). -/
def execVcmeasSample (t mv : Nat) (s : State) : Host.Outcome State Fault Refusal :=
  let s := s.at t
  if s.locked && s.tick % 4000 = 0 then .next (s.set uVmon vmon_VCMEAS_MV (min mv 1023)) else .next s

/-! Checks at the completion of LOCKALL (R521, R530, R531). -/

/-- Is a signal bound as a type? -/
def State.boundAs (s : State) (n type : Nat) : Bool := s.dir n dir_WCLASS ≠ 0 && s.dir n dir_TYPE = type

/-- The checks of SFK (R530). -/
def State.sfkOk (s : State) : Bool :=
  (!(s.on uSfk sfk_SFCFG_SLS || s.on uSfk sfk_SFCFG_SS1) ||
    (s.boundAs (s.get uSfk sfk_SPDSRC_SIGA) 0 && s.boundAs (s.get uSfk sfk_SPDSRC_SIGB) 0)) &&
  (!(s.on uSfk sfk_SFCFG_SDI) ||
    (s.boundAs (s.get uSfk sfk_POSSRC_POSSIG) 1 && s.boundAs (s.get uSfk sfk_POSSRC_VALSIG) 1)) &&
  (!(s.on uSfk sfk_SFCFG_SLP) ||
    (s.boundAs (s.get uSfk sfk_SLPSRC_POSSIG) 1 && s.boundAs (s.get uSfk sfk_SLPSRC_VALSIG) 1))

/-- The safety checks at the completion of LOCKALL. -/
def State.lockChecks (s : State) : State :=
  let s := if s.sfkOk then s else (s.fault uSfk 0x0D23).safety 13 0
  let trac := s.enabled (uStage 0) || s.enabled (uStage 1)
  let cut := (List.range 8).any fun k => s.enabled (uSo k) && s.on (uSo k) so_SOCFG_STO
  let clash := (List.range 8).any fun k => s.soOwner k = 7
  if (trac && !cut) || clash then s.safety 13 0 else s

/-- After a write of SFPUBk. -/
def State.sfpubWritten (s : State) (k : Nat) (old : Word) : State :=
  s.bindEntry 5 uSfk (0xA0 + 4 * k) (fun w => 0x700 + pubQ w)
    (fun w => if pubQ w = 0 then some 1 else if pubQ w = 1 then some 0 else none) old 0x0D23

end Sys2Proof.Machine
end

