-- ==== Sys2Proof/Machine/Thermal.lean ====
section
/-!
DEFINITION. The thermal model (R551 to R554), rainflow counting (R555 to R557), the lifetime ledger in the pool (R558 to
R561) and its mirror queues (R562).
-/

namespace Sys2Proof.Machine

def uThm : Unit := ⟨.thm, 0⟩
def uLoss : Unit := ⟨.loss, 0⟩
def uRfl : Unit := ⟨.rfl, 0⟩
def uLed : Unit := ⟨.led, 0⟩

/-- What of a slot no register shows. -/
def State.slot (s : State) (k : Nat) : ThmH := sget (fun _ => {}) s.slots k

/-- The state with that of a slot changed. -/
def State.modSlot (s : State) (k : Nat) (f : ThmH → ThmH) : State :=
  { s with slots := sset (fun _ => {}) s.slots k (f (s.slot k)) }

/-- Does LOSS work? It is enabled, and the THM shell has passed its check (R564). -/
def State.lossWorks (s : State) : Bool := s.enabled uLoss && !(s.failedCheck.contains uThm.page)

/-! Losses (R551, R552). -/

/-- Is the present tick a loss instant of a stage (R551)? A valley of this tick is one whether or not its load point has been passed. -/
def State.lossTick (s : State) (st : Nat) : Bool :=
  let h := s.tr (s.lead st)
  if st = 2 || st = 8 then s.locked && s.tick % 4000 = 0
  else st < 8 && ((h.period ≠ 0 && h.valley = s.tick) || (s.locked && h.next = some s.tick && !h.nextPeak))

/-- LOSS_INSTANT: a slot adds the energy of the ticks `h` during which its command ball was high and of the `n` edges of
that ball since the previous loss instant (R552). Both come with the command (log entry 7). -/
def execLossInstant (t slot h n : Nat) (s : State) : Host.Outcome State Fault Refusal :=
  let s := s.at t
  let k := slot % 24
  let u := uLoss
  if !(s.lossWorks) || !(s.on u (loss_SLCFG_EN k)) || !(s.lossTick (s.get u (loss_SLCFG_STAGE k))) ||
    (s.slot k).lossAt = some s.tick then .next s else
  let si := s.get u (loss_SLCFG_ISIG k)
  let sv := s.get u (loss_SLSIG_VSIG k)
  let s := (s.sigParity si).sigParity sv
  let i : Int := (lo16 (s.sig si)).natAbs
  let v := lo16 (s.sig sv)
  .next (s.modSlot k fun x => { x with lossAt := some s.tick, a1 := x.a1 + h * i, a2 := x.a2 + h * i * i, a3 := x.a3 + n * i * v })

/-! Junction temperature (R553). -/

/-- P of a slot over an interval of `delta` ticks, in mW, rounded half to even (R552, R553). -/
def State.slotPower (s : State) (k delta : Nat) : Int :=
  let u := uLoss
  let g := fun f => (s.get u f : Int)
  let ifs := g (loss_SLSCALE_IFS k)
  let vfs := g (loss_SLSCALE_VFS k)
  let ir := g (loss_SLSW0_IREF k) * g (loss_SLSW1_VREF k)
  let h := s.slot k
  let num := g (loss_SLCOND_V0 k) * ifs * h.a1 * 32768 * 1000 * ir + g (loss_SLCOND_RON k) * ifs * ifs * h.a2 * ir +
    g (loss_SLSW0_ESW k) * ifs * vfs * h.a3 * 400000 * 1000
  roundDiv num (32768 * 32768 * 1000 * ir.toNat * delta)

/-- One Foster element over one thermal instant, in 2^-16 LSB, truncated toward zero (R553). -/
def fosterStep (rth alpha : Nat) (p t : Int) : Int :=
  (t * 65536 * 1000000 + alpha * (rth * p * 128 * 65536 - t * 1000000)).tdiv (65536 * 1000000)

/-- A thermal quantity written through the THPUB entries that name it (R554). -/
def State.pubThm (s : State) (q : Nat) (v : Int) : State :=
  forN 8 (fun k s =>
    if s.on uThm (thm_THPUB_EN k) && s.get uThm (thm_THPUB_QIDX k) = q then
      s.publish (s.get uThm (thm_THPUB_SIG k)) (0x800 + q) (BitVec.ofInt 32 v)
    else s) s

/-- Tj of a slot at the last thermal instant. -/
def State.slotTj (s : State) (k : Nat) : Int := s.geti uLoss (loss_SLTJ_TJ k)

/-- The temperature of one slot at a thermal instant (R553). -/
def State.slotThermal (s : State) (k delta : Nat) : State :=
  let u := uLoss
  let p := s.slotPower k delta
  let temp := (s.slot k).temp.zipIdx.map fun x =>
    fosterStep (s.get u (loss_FOST_RTH k x.2)) (s.get u (loss_FOST_ALPHA k x.2)) p x.1
  let s := s.modSlot k fun h => { h with a1 := 0, a2 := 0, a3 := 0, temp := temp }
  let ntc := s.get u (loss_SLSIG_NTCSIG k)
  let s := s.sigParity ntc
  let tj := satQ15 (lo16 (s.sig ntc) + roundDiv (temp.foldl (· + ·) 0) 65536)
  let s := (s.seti u (loss_SLTJ_TJ k) tj).set u (loss_SLP_MW k) (clampI 0 0xFFFFFF p).toNat
  let pk := s.geti u (loss_SLTPK_PEAK k)
  let s := if pk = 0 || pk < tj then s.cor u (loss_SLTPK_PEAK k) (unsigned 16 tj) else s
  (s.pubThm k tj).pubThm (32 + k) (satQ15 (roundDiv p 100))

/-- The enabled slots, in ascending order. -/
def State.slotsOn (s : State) : List Nat := (List.range 24).filter fun k => s.on uLoss (loss_SLCFG_EN k)

/-- The slot with the largest Tj, the lowest on equal Tj (R554). -/
def State.hottest (s : State) : List Nat → Option Nat
  | [] => none
  | k :: ks =>
    match s.hottest ks with
    | none => some k
    | some j => if s.slotTj j ≤ s.slotTj k then some k else some j

/-! Rainflow (R555, R556). -/

/-- A counted cycle: range, the sum of its two points (twice its mean), and whether it is a half cycle. -/
structure Cycle where
  range : Nat
  sum : Int
  half : Bool
deriving DecidableEq, Repr

/-- A cycle between two points. -/
def cycleOf (b c : Int) (half : Bool) : Cycle := ⟨(b - c).natAbs, b + c, half⟩

/-- Full cycles counted off the four newest points of a stack, newest first, while the four-point rule holds (R556). -/
def rainClose : Nat → List Int → List Int × List Cycle
  | 0, l => (l, [])
  | n + 1, d :: c :: b :: a :: l =>
    if (b - c).natAbs ≤ (a - b).natAbs && (b - c).natAbs ≤ (c - d).natAbs then
      let (l, cs) := rainClose n (d :: a :: l)
      (l, cycleOf b c false :: cs)
    else (d :: c :: b :: a :: l, [])
  | _ + 1, l => (l, [])

/-- A turning point pushed (R556): the stack, newest first, and the cycles counted. -/
def rainPush (p : Int) (l : List Int) : List Int × List Cycle :=
  let full := l.length = 32
  let first := if full then [cycleOf (l.getD 31 0) (l.getD 30 0) true] else []
  let (l, cs) := rainClose 16 (p :: (if full then l.take 31 else l))
  (l, first ++ cs)

/-- The extremum tracker at a thermal instant (R555): the new state of the slot and the cycles counted. -/
def rainStep (hys : Nat) (tj : Int) (h : ThmH) : ThmH × List Cycle :=
  match h.x with
  | none => ({ h with x := some tj, up := none }, [])
  | some x =>
    let beyond : Bool := match h.up with
      | some true => x < tj
      | some false => tj < x
      | none => false
    let turn : Bool := match h.up with
      | some true => tj + hys < x
      | some false => x + hys < tj
      | none => tj + hys < x || x + hys < tj
    if beyond then ({ h with x := some tj }, [])
    else if turn then
      let (l, cs) := rainPush x h.stack
      ({ h with x := some tj, up := some (x < tj), stack := l }, cs)
    else (h, [])

/-! The ledger record (R557 to R559). -/

/-- The ledger's region, where it is large enough (R558). -/
def State.ledRegion (s : State) : Option Nat :=
  match s.region 0x50 with
  | some (b, n) => if 14 * 1024 ≤ n then some b else none
  | none => none

/-- The first byte of the record of a slot. -/
def recAddr (base slot : Nat) : Nat := base + 0x40 + 576 * slot

/-- The binding word of a slot (R558, record word 1). -/
def State.bindingWord (s : State) (k : Nat) : Word :=
  BitVec.ofNat 32 ((if s.on uLoss (loss_SLCFG_EN k) then 2 ^ 31 else 0) +
    s.get uLoss (loss_SLCFG_STAGE k) * 2 ^ 24 + s.get uLoss (loss_SLCFG_SW k) * 2 ^ 16)

/-- `n` words of memory from a byte address, as hardware reads them. -/
def State.readWords (s : State) (a : Nat) : Nat → List Word × State
  | 0 => ([], s)
  | n + 1 =>
    let (w, s) := s.readMem a
    let (ws, s) := s.readWords (a + 4) n
    (w :: ws, s)

/-- Number stored in two words, low word first. -/
def wide64 (lo hi : Word) : Nat := lo.toNat + 2 ^ 32 * hi.toNat

/-- A cycle as a cycle word of a rally frame holds it (R562): HALF, the bin, z. -/
def cycleWord (half : Bool) (bin z : Nat) : Word :=
  BitVec.ofNat 32 ((if half then 2 ^ 31 else 0) + bin % 128 * 2 ^ 24 + z % 32768)

/-- RFDMG.DSHIFT as it acts. -/
def State.dshift (s : State) : Nat := atLeast1 (s.get uRfl rfl_RFDMG_DSHIFT)

/-- One counted cycle taken into the words of a record, word 0 first (R557, step 3). -/
def recCycle (dshift : Nat) (w : List Word) (c : Word) : List Word :=
  let half := c.getLsbD 31
  let bin := bits c 24 7
  let z := bits c 0 15
  let d := (wide64 (w.getD 2 0) (w.getD 3 0) + z * 2 ^ (if half then dshift - 1 else dshift)) % 2 ^ 64
  let n := if half then 1 else 2
  let cy := (wide64 (w.getD 4 0) (w.getD 5 0) + n) % 2 ^ 64
  let b := min 0xFFFFFFFF ((w.getD (8 + bin) 0).toNat + n)
  ((((w.set 2 (BitVec.ofNat 32 d)).set 3 (BitVec.ofNat 32 (d / 2 ^ 32))).set 4 (BitVec.ofNat 32 cy)).set 5
    (BitVec.ofNat 32 (cy / 2 ^ 32))).set (8 + bin) (BitVec.ofNat 32 b)

/-- A record written under R559: SEQ odd, the changed words among words 1 to 142, the CRC, SEQ even. -/
def State.recWrite (s : State) (a : Nat) (old new : List Word) : State :=
  let seq := (old.getD 0 0).toNat
  let s := s.hwWord a (BitVec.ofNat 32 (seq + 1))
  let s := forN 142 (fun i s =>
    if old.getD (i + 1) 0 = new.getD (i + 1) 0 then s else s.hwWord (a + 4 * (i + 1)) (new.getD (i + 1) 0)) s
  let s := s.hwWord (a + 4 * 143) (crc32 (((new.drop 1).take 142).flatMap wordBytes))
  let s := s.hwWord a (BitVec.ofNat 32 (seq + 2))
  s.inc uLed led_LUPD_COUNT

/-- The record of a slot changed by cycles, and by a Tj where one is given (R557, R559). -/
def State.recUpdate (s : State) (k : Nat) (tj : Option Int) (cycles : List Word) : State :=
  match s.ledRegion with
  | none => s
  | some b =>
    if !(s.enabled uLed) then s else
    let a := recAddr b k
    let (w, s) := s.readWords a 144
    let new := cycles.foldl (recCycle s.dshift) w
    let new := match tj with
      | some v => if lo16 (w.getD 6 0) < v then new.set 6 (BitVec.ofNat 32 (unsigned 16 v)) else new
      | none => new
    let new := new.set 1 (s.bindingWord k)
    if new = w then s else s.recWrite a w new

/-! Counted cycles (R557, R562). -/

/-- The bin of a cycle. -/
def State.cycleBin (s : State) (c : Cycle) : Nat :=
  let i := min (c.range / atLeast1 (s.get uRfl rfl_RFBIN0_RBW)) 15
  let j := (clampI 0 7 ((c.sum - 2 * s.geti uRfl rfl_RFBIN1_MLO) / (2 * atLeast1 (s.get uRfl rfl_RFBIN0_MBW) : Nat))).toNat
  16 * j + i

/-- A cycle binned and given its damage value: the cycle word and the state (R557). -/
def State.cycleValue (s : State) (c : Cycle) : Word × State :=
  let bin := s.cycleBin c
  let b := s.activeBank
  let t := s.get uRfl rfl_RFDMG_DTAB
  let s := if s.on uRfl rfl_RFDMG_EN then s.touchTable b t 2 else s
  match if s.on uRfl rfl_RFDMG_EN then s.curve2d b t c.range c.sum else none with
  | some z => (cycleWord c.half bin z.toNat, s)
  | none =>
    (cycleWord c.half bin 0, ((s.inc uRfl rfl_RFMISS_COUNT).raise uRfl 0).fault uRfl 0x0E10)

/-- The cycle words of a list of cycles; overflow half cycles are counted in RFOVF (R556). -/
def State.cycleValues (s : State) : List Cycle → List Word × State
  | [] => ([], s)
  | c :: cs =>
    let s := if c.half then (s.inc uRfl rfl_RFOVF_COUNT).raise uRfl 1 else s
    let (w, s) := s.cycleValue c
    let (ws, s) := s.cycleValues cs
    (w :: ws, s)

/-- A counted cycle of a serve holder waits for a rally frame; a full queue loses it (R562). -/
def State.cycleQueue (s : State) (k : Nat) (w : Word) : State :=
  if (s.slot k).queue.length < 16 then s.modSlot k fun h => { h with queue := h.queue ++ [w] }
  else s.inc uLed led_LMLOST_COUNT

/-- Rainflow and ledger of one slot at a thermal instant; in SHADOW its cycles change no record (R562). -/
def State.slotRain (s : State) (k : Nat) : State :=
  let tj := s.slotTj k
  let (ws, s) :=
    if s.enabled uRfl then
      let (h, cs) := rainStep (s.get uRfl rfl_RFHYS_THYS) tj (s.slot k)
      (s.modSlot k fun _ => h).cycleValues cs
    else ([], s)
  if s.inMode .shadow then s
  else
    let s := s.recUpdate k (some tj) ws
    if s.on uSrv srv_SVSTAT_TOKEN && s.on uRly rly_RLCFG_LEDGER then forL ws (fun w s => s.cycleQueue k w) s else s

/-- The instant of a cadence event of the thermal cadence: a thermal instant falls OFS ticks after it (R553). -/
def State.thermalEvent (s : State) (cad interval : Nat) : State :=
  if s.get uThm thm_THCFG_CAD = cad then { s with thermDue := some (s.tick + s.get uThm thm_THCFG_OFS, interval) } else s

/-- THERMAL_INSTANT: every enabled slot forms P, updates its Foster network and sets Tj (R553); TJMAX, rainflow and the
ledger follow. -/
def execThermalInstant (t : Nat) (s : State) : Host.Outcome State Fault Refusal :=
  let s := s.at t
  match s.thermDue with
  | none => .next s
  | some (d, delta) =>
    if !(s.due d) then .next s else
    let s := { s with thermDue := none }
    if !(s.runsMode) || !(s.lossWorks) || delta = 0 then .next s else
    let on := s.slotsOn
    let s := forL on (fun k s => s.slotThermal k delta) s
    let s := match s.hottest on with
      | none => s
      | some k =>
        let s := (s.seti uThm thm_THSTAT_TJMAX (s.slotTj k)).set uThm thm_THSTAT_TJMAXSLOT k
        (s.pubThm 64 (s.slotTj k)).pubThm 65 k
    .next (forL on (fun k s => s.slotRain k) s)

/-! Checks and entries. -/

/-- The enable check of the THM shell (R564): 0x0E01 TCFG. -/
def State.thmCheckFails (s : State) : Bool :=
  let u := uLoss
  let on := s.slotsOn
  let bound := fun k => (s.get u (loss_SLCFG_STAGE k), s.get u (loss_SLCFG_SW k))
  let q15 := fun n => s.dir n dir_TYPE = 0
  (match s.cadInterval (s.get uThm thm_THCFG_CAD) with
   | some p => !(40000 ≤ p && p ≤ 4000000)
   | none => false) ||
  on.any (fun k =>
    s.get u (loss_SLSCALE_IFS k) = 0 || s.get u (loss_SLSCALE_VFS k) = 0 || s.get u (loss_SLSW0_IREF k) = 0 ||
    s.get u (loss_SLSW1_VREF k) = 0 || !(q15 (s.get u (loss_SLCFG_ISIG k))) || !(q15 (s.get u (loss_SLSIG_VSIG k))) ||
    !(q15 (s.get u (loss_SLSIG_NTCSIG k))) || on.any fun j => j ≠ k && bound j = bound k)

/-- A slot enabled starts with its accumulator and its elements at 0 (R553). -/
def State.slotStart (s : State) (k : Nat) : State :=
  s.modSlot k fun h => { h with a1 := 0, a2 := 0, a3 := 0, temp := [0, 0, 0, 0], lossAt := none }

/-- The extrema and stacks of RFL start anew. -/
def State.rainFresh (s : State) : State :=
  forN 24 (fun k s => s.modSlot k fun h => { h with x := none, up := none, stack := [] }) s

/-- No cycle waits for a rally frame: as LED is reset, and in a new holder of the serve (R563). -/
def State.cyclesFresh (s : State) : State := forN 24 (fun k s => s.modSlot k fun h => { h with queue := [] }) s

/-- The stacks and queues empty at entry to CONFIG, CALIBRATE or DORMANT (R556, R563). -/
def State.rainEmpty (s : State) : State :=
  { s.rainFresh.cyclesFresh with thermDue := none }

/-- Whole data groups written by the memory's owner, which makes their codewords anew (R572). -/
def State.groupWrite (s : State) (a : Nat) (ws : List Word) : State :=
  (forN (ws.length / 8) (fun i s => s.clean (cwOfAddr a + i)) s).setMemWords a ws

/-- Does the record of a slot stand (R560)? -/
def recStands (hdr : List Word) (w : List Word) (binding : Word) : Bool :=
  hdr = [0x4C440001#32, 24#32] && (w.getD 0 0).toNat % 2 = 0 &&
    w.getD 143 0 = crc32 (((w.drop 1).take 142).flatMap wordBytes) && w.getD 1 0 = binding

/-- The check of the record of one slot (R560): one that does not stand is zeroed, with FRESH. -/
def State.ledCheckSlot (s : State) (base : Nat) (hdr : List Word) (k : Nat) : State :=
  let a := recAddr base k
  let (w, s) := s.readWords a 144
  if recStands hdr w (s.bindingWord k) then s
  else
    let zero : List Word := (List.replicate 144 (0 : Word)).set 1 (s.bindingWord k)
    let s := s.groupWrite a (List.replicate 144 0)
    let s := s.recWrite a (List.replicate 144 0) zero
    let s := s.cor uLed led_LFRESH_SLOT (s.get uLed led_LFRESH_SLOT ||| 2 ^ k)
    (s.raise uLed 0).fault uLed 0x0E20

/-- Entry to READY from CALIBRATE or DORMANT (R553, R560): elements at 0, and the records of the enabled slots checked.
The region's header is written where it does not stand. -/
def State.ledCheck (s : State) : State :=
  let s := forN 24 (fun k s => s.modSlot k fun h => { h with temp := [0, 0, 0, 0] }) s
  match s.ledRegion with
  | none => s
  | some b =>
    if !(s.enabled uLed) then s else
    let (hdr, s) := s.readWords b 2
    let s := forL s.slotsOn (fun k s => s.ledCheckSlot b hdr k) s
    if hdr = [0x4C440001#32, 24#32] then s else s.groupWrite b (0x4C440001#32 :: 24#32 :: List.replicate 14 (0 : Word))

/-! Mirroring (R562). -/

/-- The cycles a rally frame takes: at most four of each slot, oldest first. -/
def State.ledTake (s : State) : State :=
  forN 24 (fun k s => s.modSlot k fun h => { h with queue := h.queue.drop 4 }) s

/-- The records of a LEDGER block applied in the standby: for each slot its cycle words. -/
def State.ledApply (s : State) (l : List (Nat × List Word)) : State :=
  forL l (fun x s => s.recUpdate x.1 none x.2) s

end Sys2Proof.Machine
end

