-- ==== Sys2Proof/Machine/MemIntegrity.lean ====
section
/-!
DEFINITION. The scrubber (R575, R576) and the configuration signature (R577, R578).
-/

namespace Sys2Proof.Machine

def uPalloc : Unit := ⟨.palloc, 0⟩

/-! Scrubbing. -/

/-- The scrubber stops, with lock or with DORMANT D2 to D4; the next scrub tick starts a new pass (R576). -/
def State.scrubStop (s : State) : State := { s with scrubNext := 0, scrubAt := none }

/-- In DORMANT D2 to D4 the scrubber stops, and no check of the signature runs (R576, R578). -/
def State.integrityStop (s : State) : State := s.scrubStop.set uPscrub psc_CSSTAT_BUSY 0

/-- The end of a pass (R575). -/
def State.passEnd (s : State) : State :=
  let u := uPscrub
  let s := s.inc u psc_PASSCNT_COUNT
  let s := (s.set u psc_PASSSTAMP_STAMP s.stamp).set u psc_PASSDUR_TICKS (s.tick / 2600 * 2600 + 2600 - s.passStart)
  { s with scrubNext := 0 }.raise u 2

/-- One scrub read (R575): the decode corrects and reports as any other read does. -/
def State.scrubRead (s : State) : State :=
  let u := uPscrub
  let c := s.scrubNext
  let s := if c = 0 then { s with passStart := s.tick / 2600 * 2600, passCorr := 0 } else s
  let (m, i) := cwMem c
  let s := (s.set u psc_MISTAT_MEM m).set u psc_MISTAT_INDEX i
  let s := (s.decode c).2
  let s := { s with scrubNext := c + 1, scrubAt := some (s.tick / 2600) }
  if c + 1 = cwAll then s.passEnd else s

/-- SCRUB_READ: on every TBCNT multiple of 2,600 ticks, or within 200 ns of it after a pending access (R575). -/
def execScrubRead (t : Nat) (s : State) : Host.Outcome State Fault Refusal :=
  let s := s.at t
  if s.locked && !s.deepDormant && s.tick % 2600 ≤ 80 && s.scrubAt ≠ some (s.tick / 2600) then .next s.scrubRead
  else .next s

/-! The configuration signature. -/

/-- The words of one unit page that the signature covers (R577): those that hold an RWL field, with every other bit 0. -/
def State.pageSig (s : State) (u : Unit) : List Word :=
  if !(s.on u hdr_UCTL_LOCK) then [] else
  (List.range 0x200).filterMap fun k =>
    let m := kindMask .rwl (u.fieldsAt (4 * k))
    if m = 0 then none else some (s.getW (u.addr (4 * k)) &&& m)

/-- The words that the signature covers, in order (R577). -/
def State.sigWords (s : State) : List Word :=
  allUnits.flatMap s.pageSig ++
  ((List.range 4096).map fun n => s.getW (dirAddr n) &&& 3) ++
  ((List.range 64).filter fun n => s.on uPalloc (palloc_ALLOCB_VALID n)).flatMap fun n =>
    [s.getW (uPalloc.addr (palloc_ALLOCA_BASE n).off), s.getW (uPalloc.addr (palloc_ALLOCB_VALID n).off)]

/-- The signature (R577). -/
def State.signature (s : State) : Word := crc32 (s.sigWords.flatMap wordBytes)

/-- LOCKALL.ALL has come to read 1 (R578): the reference is taken. -/
def State.sigArm (s : State) : State :=
  (s.setW (uPscrub.addr psc_CSREF_CRC.off) s.signature).set uPscrub psc_CSSTAT_ARMED 1

/-- SIGNATURE_CHECK: at every TBCNT multiple of 800,000 ticks plus 400,000 a check starts (R578). -/
def execSignatureCheck (t : Nat) (s : State) : Host.Outcome State Fault Refusal :=
  let s := s.at t
  if s.on uPscrub psc_CSSTAT_ARMED && s.locked && !s.deepDormant && s.tick % 800000 = 400000 && !(s.noted 0x5000000) then
    .next ((s.note 0x5000000).set uPscrub psc_CSSTAT_BUSY 1)
  else .next s

/-- SIGNATURE_CHECK_DONE: the check completes, with the signature of the words as they then stand (R578). -/
def execSignatureCheckDone (t : Nat) (s : State) : Host.Outcome State Fault Refusal :=
  let s := s.at t
  let u := uPscrub
  if !(s.on u psc_CSSTAT_BUSY) then .next s else
  let w := s.signature
  let bad := w ≠ s.getW (u.addr psc_CSREF_CRC.off)
  let s := (s.set u psc_CSSTAT_BUSY 0).setW (u.addr psc_CSLAST_CRC.off) w
  let s := (s.inc u psc_CSCNT_COUNT).set u psc_CSSTAMP_STAMP s.stamp
  let s := s.set u psc_CSSTAT_MISM (if bad then 1 else 0)
  let s := { s with sigBad := bad }
  if bad then .next ((((s.inc u psc_CSERR_COUNT).raise u 4).fault u 0x0F20).safety 8 0) else .next s

end Sys2Proof.Machine
end

