-- ==== Sys2Proof/Machine/Rally.lean ====
section
/-!
DEFINITION. The Rally link's messages and frames (R483, R486 to R492): what the device sends and what an applied frame does.
-/

namespace Sys2Proof.Machine

/-- HB_SEND: a heartbeat, every RLHB.HBPER ticks from the training on (R484). -/
def execHbSend (t : Nat) (s : State) : Host.Outcome State Fault Refusal :=
  let s := s.at t
  if s.on uRly rly_RLSTAT_TRAINED && s.due s.pair.hbAt then
    .next ((s.sendMsg 1 s.stamp).modPair fun h => { h with hbAt := h.hbAt + atLeast1 (s.get uRly rly_RLHB_HBPER) })
  else .next s

/-! Frames sent. -/

/-- The number of set bits of a number below 2^n. -/
def popcount : Nat → Nat → Nat
  | 0, _ => 0
  | n + 1, v => v % 2 + popcount n (v / 2)

/-- The largest LEN of the configuration (R487, R488). -/
def State.rallyWords (s : State) : Nat :=
  let u := uRly
  let pods := (List.range 128).filter fun p => s.on u (rly_MIRPOD_EN p)
  let podW := pods.foldl (fun n p =>
    n + 1 + 2 * popcount 16 (s.get u (rly_MIRPOD_ACC p)) + 8 * popcount 4 (s.get u (rly_MIRPOD_NGRP p))) 0
  let blk := fun (n w : Nat) => if n = 0 then 0 else 1 + w * n
  let sq := popcount 32 (s.get u rly_RLSQMASK_SQ)
  let pos := popcount 6 (s.get u rly_RLPOS_FB) + popcount 3 (s.get u rly_RLPOS_AC)
  7 + (if pods = [] then 0 else 1 + podW) + blk sq 2 + blk pos 2 + 5 + blk (popcount 16 (s.get u rly_RLCFG_ARNMASK)) 1 +
    (if s.on u rly_RLCFG_LEDGER then 121 else 0)

/-- A block: header and body, left out where it has no records. -/
def block (type n : Nat) (body : List Word) : List Word :=
  if n = 0 then [] else BitVec.ofNat 32 (type * 2 ^ 24 + n % 256 * 2 ^ 16 + body.length % 65536) :: body

/-- A register word of pod state memory as the frame build reads it: 0 where its codeword is uncorrectable (R572). -/
def State.podWordAt (s : State) (c : Nat) (a : Nat) : Word := if s.cwGood c then s.getW a else 0

/-- The record of a mirrored pod. -/
def State.podRecord (s : State) (p : Nat) : List Word :=
  let acc := s.get uRly (rly_MIRPOD_ACC p)
  let grp := s.get uRly (rly_MIRPOD_NGRP p)
  let u := uPod p
  BitVec.ofNat 32 (p * 2 ^ 24 + grp * 2 ^ 20 + acc) ::
    (((List.range 16).filter acc.testBit).flatMap fun a =>
      [s.podWordAt (40 * p + 36 + a / 4) (u.addr (pod_ACCLO_VALUE a).off),
       s.podWordAt (40 * p + 36 + a / 4) (u.addr (pod_ACCHI_VALUE a).off)]) ++
    (((List.range 4).filter grp.testBit).flatMap fun g => (List.range 8).map fun m =>
      let w := fun k => s.podWordAt (40 * p + 32 + g) (u.addr (pod_NODE_VALUE (16 * g + k)).off)
      ((w (2 * m + 1)).extractLsb' 0 16) ++ ((w (2 * m)).extractLsb' 0 16))

/-- The distinct EVENT terms of the state in force of a sequencer, in the order of its transitions: the places of its event
latches in a record. -/
def State.sqLatchTerms (s : State) (n : Nat) : List Word :=
  match s.sqFsm n with
  | none => []
  | some f =>
    let s0 := s.tw f.bank (f.stateAt (s.get (uSq n) sq_SQSTAT_STATE))
    let js := (List.range (bits s0 16 9)).map (bits s0 0 8 + ·)
    (((s.sqTerms f js).filter fun w => bits w 28 4 = 3).map fun w => w &&& 0xF1FF001F#32).eraseDups.take 8

/-- The record of a sequencer. -/
def State.sqRecord (s : State) (n : Nat) : List Word :=
  let l := (s.sqLatchTerms n).zipIdx.foldl (fun v x => v + bitAt x.2 (s.sqLatch n x.1)) 0
  [BitVec.ofNat 32 (n * 2 ^ 24 + s.get (uSq n) sq_SQSTAT_STATE * 2 ^ 16 + l * 2 ^ 8 +
     s.get (uSq n) sq_SQSTAT_ENTERING),
   BitVec.ofNat 32 (min 0xFFFFFFFF ((s.tick : Int) - (s.sq n).entry).toNat)]

/-- The angle of a channel in a POS record: the count angle, or the SSI angle of the last good frame. -/
def State.chMirror (s : State) (c : Nat) : Nat :=
  if s.chMode c = 3 then (match (s.ch c).good with
    | (_, a) :: _ => a
    | [] => 0)
  else s.countAngle c (s.chPos c)

/-- The POS records. The count angle of a kernel is not defined, and nothing reads it: it is a free value. -/
def State.posRecords (s : State) : List (List Word) :=
  (((List.range 6).filter (s.get uRly rly_RLPOS_FB).testBit).map fun c =>
    [BitVec.ofNat 32 (c * 2 ^ 24 + s.chMirror c), 0]) ++
  (((List.range 3).filter (s.get uRly rly_RLPOS_AC).testBit).map fun n =>
    [BitVec.ofNat 32 (2 ^ 28 + n * 2 ^ 24 + (Config.freeWord (s.freeCtr + 1 + n)).toNat % 65536),
     s.getW ((uCm n).addr cm_ASTEPS_COUNT.off)])

/-- The UNITS record. -/
def State.unitsRecord (s : State) : List Word :=
  let latch := (List.range 9).foldl (fun v st => v + bitAt st (s.glatch st)) 0
  let so := (List.range 8).foldl (fun v k =>
    v + bitAt k ((s.get uRly rly_RLSOMASK_SO).testBit k && s.on (uSo k) so_SOSTAT_CMD)) 0
  [BitVec.ofNat 32 (latch * 2 ^ 16 + s.get uBrk brk_LSTAT_PRESTATE * 2 ^ 8 + bitAt 5 (s.on uBrk brk_LSTAT_NEG) +
     bitAt 4 (s.on uBrk brk_LSTAT_POS)),
   BitVec.ofNat 32 (s.get uReg reg_RSTAT_GOV % 4 * 2 ^ 5 + s.get uReg reg_RSTAT_DIR % 2 * 2 ^ 4 +
     bitAt 3 (s.on uReg reg_RSTAT_HOSTREQ) + s.get uReg reg_RSTAT_STATE),
   BitVec.ofNat 32 (s.get (uCm 0) cm_ASTAT_STATE + s.get (uCm 1) cm_ASTAT_STATE * 2 ^ 4 +
     s.get (uCm 2) cm_ASTAT_STATE * 2 ^ 8),
   BitVec.ofNat 32 so]

/-- The ARENA records. -/
def State.arenaRecords (s : State) : List Word :=
  ((List.range 16).filter (s.get uRly rly_RLCFG_ARNMASK).testBit).map fun a =>
    let u := uQuad a
    BitVec.ofNat 32 (a * 2 ^ 24 + s.get u (arq_ASTAT_EMPTY (a % 4)) * 2 ^ 23 + s.get u (arq_ASTAT_WIN (a % 4)) * 2 ^ 16 +
      s.get u (arq_AWIN_VALUE (a % 4)))

/-- The LEDGER records: at most four pending cycles of each slot (R562). -/
def State.ledgerRecords (s : State) : List (List Word) :=
  if !(s.on uRly rly_RLCFG_LEDGER) then [] else
  ((List.range 24).filter fun k => (s.slot k).queue ≠ []).map fun k =>
    let q := (s.slot k).queue.take 4
    BitVec.ofNat 32 (k * 2 ^ 24 + q.length * 2 ^ 16) :: q

/-- The words of the frame that the device takes at the capture tick (R487). The ticks from the capture to the K27.7 symbol,
at most 80 (R488), are a free value. -/
def State.frameWords (s : State) : List Word :=
  let pods := (List.range 128).filter fun p => s.on uRly (rly_MIRPOD_EN p)
  let sq := (List.range 32).filter (s.get uRly rly_RLSQMASK_SQ).testBit
  let pos := s.posRecords
  let arn := s.arenaRecords
  let led := s.ledgerRecords
  let body := block 1 pods.length (pods.flatMap s.podRecord) ++ block 2 sq.length (sq.flatMap s.sqRecord) ++
    block 3 pos.length pos.flatten ++ block 4 1 s.unitsRecord ++ block 5 arn.length arn ++ block 6 led.length led.flatten
  let ws := [BitVec.ofNat 32 (0xA7010000 + (body.length + 7)), BitVec.ofNat 32 s.pair.txNum, BitVec.ofNat 32 s.stamp,
    BitVec.ofNat 32 (s.get uSrv srv_SVSEQ_SEQ), BitVec.ofNat 32 ((Config.freeWord s.freeCtr).toNat % 81), 0] ++ body
  ws ++ [crc32 (ws.flatMap wordBytes)]

/-- The Rally staging region, where it is large enough (R488). -/
def State.staging (s : State) : Option Nat :=
  match s.region 0x40 with
  | some (b, n) => if 6 * 1024 ≤ n then some b else none
  | none => none

/-- An event of the mirror cadence: the serve holder in RUN sends a frame (R486, R488). -/
def State.rallyCapture (s : State) (cad : Nat) : State :=
  let u := uRly
  if !(s.inMode .run) || !(s.on uSrv srv_SVSTAT_TOKEN) || !(s.on u rly_RLCFG_EN) || !(s.enabled u) ||
      s.failedCheck.contains u.page || s.get u rly_RLCFG_CAD ≠ cad then s
  else
    match s.staging with
    | none => s
    | some b =>
      let w := s.frameWords
      let s := s.hwWords b w
      let s := if s.on u rly_RLCFG_LEDGER then s.ledTake else s
      let s := (s.inc u rly_RLFRTX_COUNT).modPair fun h => { h with txNum := (h.txNum + 1) % 2 ^ 32 }
      { s with freeCtr := s.freeCtr + 4 }

/-! Frames received. -/

/-- The blocks of a frame: type and body. -/
def blocksOf : Nat → List Word → List (Nat × List Word)
  | 0, _ => []
  | _, [] => []
  | n + 1, h :: ws => (bits h 24 8, ws.take (bits h 0 16)) :: blocksOf n (ws.drop (bits h 0 16))

/-- The body of the block of a type. -/
def blockBody (type : Nat) (l : List (Nat × List Word)) : List Word :=
  match l.find? fun b => b.1 = type with
  | some b => b.2
  | none => []

/-- The records of a PODS block. -/
def podRecordsOf : Nat → List Word → List (List Word)
  | 0, _ => []
  | _, [] => []
  | n + 1, h :: ws =>
    let k := 2 * popcount 16 (bits h 0 16) + 8 * popcount 4 (bits h 20 4)
    (h :: ws.take k) :: podRecordsOf n (ws.drop k)

/-- The two-word records of a SEQ or POS block. -/
def pairsOf : List Word → List (Word × Word)
  | a :: b :: l => (a, b) :: pairsOf l
  | _ => []

/-- The records of a LEDGER block: slot and cycle words. -/
def ledRecordsOf : Nat → List Word → List (Nat × List Word)
  | 0, _ => []
  | _, [] => []
  | n + 1, h :: ws => (bits h 24 5 % 24, ws.take (bits h 16 3)) :: ledRecordsOf n (ws.drop (bits h 16 3))

/-- A sequencer record applied in the standby (R490). -/
def State.sqApply (s : State) (cap : Nat) (r : Word × Word) : State :=
  let n := bits r.1 24 5
  let u := uSq n
  if !(s.enabled u) then s else
  let s := (s.set u sq_SQSTAT_STATE (bits r.1 16 6)).set u sq_SQSTAT_ENTERING (bits r.1 0 1)
  let entry := (cap : Int) - r.2.toNat
  let s := s.set u sq_SQENTRY_STAMP (unsigned 32 entry)
  let on := (s.sqLatchTerms n).zipIdx.filter fun x => (bits r.1 8 8).testBit x.2
  let keys := on.filterMap fun x => (unitOfSource (bits x.1 16 9)).map fun v => evKey v (bits x.1 0 5)
  let s := s.modSq n fun h => { h with entry := entry, marks := s.evSeen, latched := keys }
  match s.sqFsm n with
  | some f => if f.nstate ≤ bits r.1 16 6 && !(s.on u sq_SQSTAT_STOPPED) then s.sqLost n else s
  | none => s

/-- A position record applied in the standby (R490). -/
def State.posApply (s : State) (r : Word × Word) : State :=
  let n := bits r.1 24 3
  if bits r.1 28 4 = 1 then
    if n < 3 then s.hwUpdate (uCm n) cm_ASTEPS_COUNT.off fun s => s.set (uCm n) cm_ASTEPS_COUNT r.2.toNat else s
  else if n < 6 then s.chRecord n (bits r.1 0 16) (s.chPos n) else s

/-- Arena records compared with the arenas' last decisions (R492). -/
def State.arenaCompare (s : State) (r : Word) : State :=
  let a := bits r 24 4
  let same := s.get (uQuad a) (arq_ASTAT_WIN (a % 4)) = bits r 16 3
  let n := if same then 0 else sget (fun _ => 0) s.pair.arnDiff a + 1
  let s := s.modPair fun h => { h with arnDiff := sset (fun _ => 0) h.arnDiff a n }
  if n = atLeast1 (s.get uRly rly_RLARNN_N) then s.raise uRly 4 else s

/-- The ticks from a partner's TBCNT[31:0] to the present tick (R485); a free value while no message has given the offset of
the two timebases. -/
def State.ageOf (s : State) (theirs : Nat) : Nat :=
  match s.pair.shift with
  | some d => unsigned 32 ((s.stamp : Int) - theirs - d)
  | none => (Config.freeWord s.freeCtr).toNat

/-- An accepted frame is applied (R489, R490). -/
def State.frameApply (s : State) (w : List Word) : State :=
  let u := uRly
  let blocks := blocksOf 6 ((w.take (w.length - 1)).drop 6)
  let age := s.ageOf (w.getD 2 0).toNat
  let cap := s.tick - age
  let s := forL (podRecordsOf 128 (blockBody 1 blocks)) (fun r s =>
    { s with podRecs := sset (fun _ => []) s.podRecs (bits (r.headD 0) 24 7) r }) s
  let s := forL (pairsOf (blockBody 2 blocks)) (fun r s => s.sqApply cap r) s
  let s := forL (pairsOf (blockBody 3 blocks)) (fun r s => s.posApply r) s
  let s := forL (blockBody 5 blocks) (fun r s => s.arenaCompare r) s
  let s := s.ledApply (ledRecordsOf 24 (blockBody 6 blocks))
  let s := s.modPair fun h => { h with units := blockBody 4 blocks, capAt := cap, appliedAt := some s.tick, resync := false }
  let s := ((s.inc u rly_RLFRRX_COUNT).set u rly_RLAPPLY_STAMP s.stamp).set u rly_RLAGE_TICKS age
  ((s.setW (u.addr rly_RLFRNUM_NUM.off) (w.getD 1 0)).set uSrv srv_SVSTAT_PRIMED 1).msgFollow

/-- A received frame discarded (R489). -/
def State.frameDrop (s : State) : State := s.inc uRly rly_RLCRC_COUNT

/-- RALLY_FRAME_RECEIVE: the words of a frame, checked at the apply tick (R488 to R490). A standby that is TAKING discards
it (R496). -/
def execRallyFrameReceive (t : Nat) (w : List Word) (s : State) : Host.Outcome State Fault Refusal :=
  let s := s.at t
  let u := uRly
  if !(s.inMode .shadow) || !(s.on u rly_RLSTAT_TRAINED) || !(s.enabled u) then .next s else
  let s := s.modPair fun h => { h with lastWord := s.tick, silent := false }
  if s.pair.take.isSome then .next s else
  let n := w.length
  let good := 7 ≤ n && w.getD (n - 1) 0 = crc32 ((w.take (n - 1)).flatMap wordBytes) &&
    w.getD 0 0 = BitVec.ofNat 32 (0xA7010000 + n % 65536)
  if !good then .next (s.frameDrop.raise u 2) else
  -- the received image stands in the receive buffers, one after the other
  let s := match s.staging with
    | some b => s.hwWords (b + 0x800 + 0x800 * (s.get u rly_RLFRRX_COUNT % 2)) (w.take 512)
    | none => s
  let gap := unsigned 32 ((w.getD 1 0).toNat - s.get u rly_RLFRNUM_NUM)
  if s.pair.resync then .next ((s.inc u rly_RLRESYNC_COUNT).frameApply w)
  else if gap = 0 then .next s.frameDrop
  else if gap = 1 then .next (s.frameApply w)
  else if gap < 256 then .next (((s.incBy u rly_RLLOST_COUNT (gap - 1)).raise u 3).frameApply w)
  else .next (((s.inc u rly_RLRESYNC_COUNT).raise u 3).frameApply w)

end Sys2Proof.Machine
end

