-- ==== Sys2Proof/Machine/Cadence.lean ====
section
/-!
DEFINITION. The cadence generators (R55 to R61, R172) and the margin gauge's clear (R65).
-/

namespace Sys2Proof.Machine

/-- Every generator whose effective enable is 0 stops, and in DORMANT D2 to D4 every one (R59). -/
def State.cadFollow (s : State) : State :=
  forN 16 (fun n s => if s.cadRuns n && (!(s.enabled (uCad n)) || s.deepDormant) then s.cadStop n else s) s

/-! Start and stop (R56, R59). -/

/-- The start of one generator at tick `t0`. -/
def State.cadStart (s : State) (n t0 : Nat) : State :=
  let u := uCad n
  let per := s.get u cad_PERIOD_TICKS
  let ph := s.get u cad_PHASE_TICKS
  let run := fun (s : State) => s.set uCadSh cadsh_RUNNING_CAD (s.get uCadSh cadsh_RUNNING_CAD ||| 2 ^ n)
  if !(s.enabled u) || s.cadRuns n then s
  else if s.on u cad_CADCFG_MODE then
    let src := s.get u cad_CADCFG_SRC
    if 8 ≤ src then s.cadErr n 4
    else (run s).modCad n fun _ => {
      slaved := true, src := src, peak := s.on u cad_CADCFG_POINT, div := s.get u cad_CADCFG_DIV,
      count := s.get u cad_CADCFG_DIV, phase := ph, start := t0 }
  else if per < 40 then s.cadErr n 1
  else if per ≤ ph then s.cadErr n 2
  else (run s).modCad n fun _ => { start := t0, phase := ph, interval := per, due := [t0 + ph] }

/-! Events. -/

/-- The pods of a cadence are started at its event (R159). A pod whose interval fits again is started by the event that begins it
(DESIGN CHOICE, log entry 114). -/
def State.podsAt (s : State) (cad : Nat) : State :=
  if !s.runsMode then s else
  forN 128 (fun p s =>
    if s.get (uPod p) pod_PCFG_CAD = cad && s.podStands p && !((s.pod p).unfit) then s.startPod p else s) s

/-- One event of a generator, with the interval that it begins, and what starts from it: a bank switch that names it (R438),
before the pods of the cadence (R40), then the converters' slots, the thermal instant and the rally frame. -/
def State.cadIssue (s : State) (n interval : Nat) : State :=
  let u := uCad n
  let s := (s.set u cad_LASTEV_STAMP s.stamp).inc u cad_EVCNT_COUNT
  let s := (((s.bankBoundary n).intervalBegins n interval).podsAt n).bookEvent n
  let s := forN 6 (fun c s => s.chEvent c n) ((s.vsupEvent n).linkEvent n)
  let s := forN 8 (fun m s => s.mapEvent m n) (forN 32 (fun q s => s.sqEvent q n) s)
  ((s.cvTrigger n interval).thermalEvent n interval).rallyCapture n

/-- CADENCE_EVENT: the event of generator `n` that is due (R55 to R58). -/
def execCadenceEvent (t n : Nat) (s : State) : Host.Outcome State Fault Refusal :=
  let s := s.at t
  let n := n % 16
  let h := s.cad n
  if !(s.cadRuns n) || !s.locked || !(s.enabled (uCad n)) then .next s else
  match h.due with
  | [] => .next s
  | d :: ds =>
    if s.tick < d then .next s
    else if h.slaved then
      .next ((s.modCad n fun h => { h with due := ds }).cadIssue n ((s.cadInterval n).getD 0))
    else
      let per := s.get (uCad n) cad_PERIOD_TICKS
      .next ((s.modCad n fun h => { h with interval := per, due := [d + per] }).cadIssue n per)

/-- The word that a host write of PERIOD leaves (R57): a PERIOD below 40 written while a free generator runs is discarded, with
cause PERIOD, and PERIOD reads the period in force. -/
def State.cadPeriodWrite (s : State) (n v : Nat) : State :=
  if s.cadRuns n && !(s.cad n).slaved && v % 2 ^ 28 < 40 then
    (s.set (uCad n) cad_PERIOD_TICKS (s.cad n).interval).cadErr n 1
  else s.set (uCad n) cad_PERIOD_TICKS v

end Sys2Proof.Machine
end

