-- ==== Sys2Proof/Machine/Enable.lean ====
section
/-!
DEFINITION. Effective enables (R15) and what a unit does when its own changes: the enable checks of the chapters, and the
end of what a disabled unit was doing.
-/

namespace Sys2Proof.Machine

/-! Checks. -/

/-- The interval that the enable check of a pod uses (R61): PERIOD as written for a free cadence, the present interval for a
slaved one whose carrier runs, none for another. -/
def State.checkInterval (s : State) (n : Nat) : Option Nat :=
  let u := uCad n
  if if s.cadRuns n then (s.cad n).slaved else s.on u cad_CADCFG_MODE then s.cadInterval n
  else some (s.get u cad_PERIOD_TICKS)

/-- The causes of a pod's enable check beside those of its program (R61, R166, R181, R188). -/
def State.podRestCause (s : State) (p : Nat) : Option Nat :=
  let u := uPod p
  let iv := s.checkInterval (s.get u pod_PCFG_CAD)
  let short := match iv with
    | some i => i.blt 4000
    | none => false
  let fits := (s.get u pod_CAPOFS_TICKS).blt (s.get u pod_APPLY_TICKS) &&
    (match iv with
     | some i => (s.get u pod_APPLY_TICKS).blt i
     | none => true)
  if !(s.auxTyped p) then some 0x0105
  else if s.on u pod_SCHCFG_EN && !(s.schedOk p) then some 0x0131
  else if short then some 0x0103
  else if !fits then some 0x0121
  else none

/-- The page of a unit leaves the list of failed checks. -/
def State.checkClear (s : State) (u : Unit) : State := { s with failedCheck := s.failedCheck.filter (· ≠ u.page) }

/-- The enable check of the BRK shell's supervisor (R285): 0x0442 LCFG. -/
def State.brkOk (s : State) : Bool :=
  let u := uBrk
  s.dir (s.get u brk_LSIG0_VDC) dir_TYPE = 0 && s.dir (s.get u brk_LSIG0_IBRK) dir_TYPE = 0 &&
    s.dir (s.get u brk_LSIG1_PACK) dir_TYPE = 0 &&
    (match s.cadInterval (s.get u brk_LCFG_CAD) with
     | some i => i.ble 10000
     | none => true)

/-- The enable check of REG (R315): 0x0501 RCFG. -/
def State.regOk (s : State) : Bool :=
  let u := uReg
  ((List.range 3).all fun i => s.nmax < i + 2 || s.get u (reg_RSHED_SHED i) < s.get u (reg_RSHED_ADD i)) &&
    s.get u reg_RLIM_ISS ≤ s.get u reg_RLIM_ILIM && 2 * s.get u reg_RBAND_HALF < s.get u reg_RLIM_ILIM &&
    s.dir (s.get uVsup vsup_VSIG_VOUT) dir_TYPE = 0 &&
    (match s.cadInterval (s.get uVsup vsup_VCFG_CAD) with
     | some i => i.ble 10000
     | none => true)

/-- The enable check of RLY (R484, R486, R488): 0x0C20 RLCFG. -/
def State.rlyOk (s : State) : Bool :=
  let u := uRly
  4 * s.get u rly_RLHB_HBPER ≤ s.get u rly_RLHB_HBTO && s.rallyWords ≤ 512 &&
    (!(s.on u rly_RLCFG_EN) ||
      (match s.cadInterval (s.get u rly_RLCFG_CAD) with
       | some i => (8000).ble i && i.ble 40000
       | none => true))

/-- The first failing cause of a stage shell's enable check. -/
def State.stageCheck (s : State) (st : Nat) : Option Nat :=
  let own := if st ≤ 1 then s.tracCheck st else if st = 3 || st = 4 then s.obCheck st
    else if st = 8 && !s.brkOk then some 0x0442 else none
  match own with
  | some c => some c
  | none => if s.gateOk st then none else some 0x0401

/-- A check made: the fault, or the unit's page off the list. -/
def State.checked (s : State) (u : Unit) (c : Option Nat) : State :=
  match c with
  | some code => (s.checkClear u).failCheck u code
  | none => s.checkClear u

/-! What starts. -/

/-- The first cause of a pod's enable check: of its program with the index (R153), or of the rest, which names no word. -/
def State.podCause (s : State) (p : Nat) : Option (Nat × Option Nat) :=
  match s.progCheck p with
  | some (code, idx) => some (code, some idx)
  | none => (s.podRestCause p).map fun c => (c, none)

/-- A pod whose effective enable goes to 1 (R153, R159, R183, R190, R196). Every cause of the enable check leaves OK 0, PROGFAULT and
PROGERR (R61, R153, log entry 11); ERRIDX is a free value where no word is at fault. -/
def State.podEnable (s : State) (p : Nat) : State :=
  let u := uPod p
  let s := s.modPod p fun h => { h with seedNext := true, latched := [], unfit := false, event := none }
  let s := (s.set u pod_SCHSTAT_VALID 0).set u pod_PROGSTAT_ENDIDX (s.endIdx p)
  let s := s.checkClear u
  match s.podCause p with
  | some (code, idx) =>
    let n := idx.getD (Config.freeWord s.freeCtr).toNat
    let s := (if idx.isNone then s.fresh else s).set u pod_PROGSTAT_OK 0
    (((s.set u pod_PROGSTAT_ERRIDX n).failCheck u code).set u hdr_USTAT_STATE 3).raise u 0
  | none => (s.set u pod_PROGSTAT_OK 1).set u hdr_USTAT_STATE 0

/-- A pod whose effective enable falls (R165, R173). PROGSTAT.OK keeps what the check found (DESIGN CHOICE, log entry 121). -/
def State.podDisable (s : State) (p : Nat) : State :=
  let s := s.dropRun p
  (s.checkClear (uPod p)).set (uPod p) hdr_USTAT_STATE 0

/-- A pod's effective enable has fallen: an arena of which it was a valid competitor decides again (R196, R197). A pod that is just
enabled has latched no output and is valid in none. -/
def State.podArena (s : State) (p : Nat) : State :=
  match s.podEntry p with
  | some (a, c) =>
    if s.on (uPod p) pod_PROGSTAT_OK && !(s.compInt a c) &&
        (s.pod p).latched.contains (s.get (uQuad a) (arq_ACOMP_OUT (a % 4) c)) then
      (s.modPod p fun h => { h with latched := [] }).decide a
    else s
  | none => s

/-- A stage shell whose effective enable goes to 1 (R229, R259, R262, R285). -/
def State.stageEnable (s : State) (st : Nat) : State :=
  (s.checked (uStage st) (s.stageCheck st)).tripCheck (s.lead st)

/-- A stage shell whose effective enable falls (R262): its balls are low, its SOFT ball is released, and no turn-off of it goes
on; a latch stays. With TA, the group of SIX acts no more. -/
def State.stageDisable (s : State) (st : Nat) : State :=
  let s := s.checkClear (uStage st)
  let members := if st = 0 && s.six then [0, 1] else [st]
  let s := forL members (fun m s => (s.clearCmds m).modStg m fun h => { h with soft := false }) s
  if s.lead st ≠ st then s
  else
    let s := s.modStg st fun h => { h with retryAt := none, resuming := none, asc := false, episode := s.glatch st }
    if s.gstate st = 0 then s else s.setGstate st (if s.glatch st then 2 else 0)

/-- REG whose effective enable falls: no request stands, and every phase is IDLE. -/
def State.regDisable (s : State) : State :=
  let s := ((s.checkClear uReg).regDropHost 2).regPhasesIdle
  let s := s.set uReg reg_RSTAT_GOV 0
  if s.get uReg reg_RSTAT_STATE = 5 then s else s.regSetState 0

/-- A scorebook whose effective enable falls ends its capture as an abort does (DESIGN CHOICE, log entry 103). -/
def State.bookDisable (s : State) (n : Nat) : State :=
  if s.on (uScb n) scb_SCTL_ARM then s.bookStop n 0 else s

/-- What a unit does when its effective enable goes to 1. -/
def State.unitOn (s : State) (u : Unit) : State :=
  let i := u.inst
  match u.kind with
  | .pod => s.podEnable i
  | .arenaQuad => forN 4 (fun k s => s.arenaToggled (4 * i + k)) s
  | .stage => s.stageEnable i
  | .reg => (s.checked u (if s.regOk then none else some 0x0501)).regGovern
  | .ppx => s.pilotStart
  | .cm => s.checked u (s.cmCheck i)
  | .chan => (s.chCheck i).chStart i
  | .cv => s.cvCheck i
  | .wg => (s.checked u (s.wgCheck i)).wgFollow i
  | .cn => s.canEnable i
  | .sq => s.sqEnable i
  | .srv => s.checked u (if s.on u srv_SVCFG_PAIREN && !(s.enabled uRly) then some 0x0C01 else none)
  | .rly => (s.checked u (if s.rlyOk then none else some 0x0C20)).set u rly_RLSTAT_WORDS (min 1023 s.rallyWords)
  | .thm => s.checked u (if s.thmCheckFails then some 0x0E01 else none)
  | .loss => forN 24 (fun k s => s.slotStart k) s
  | _ => s

/-- What a unit does when its effective enable falls. -/
def State.unitOff (s : State) (u : Unit) : State :=
  let i := u.inst
  match u.kind with
  | .pod => (s.podDisable i).podArena i
  | .arenaQuad => forN 4 (fun k s => s.arenaToggled (4 * i + k)) s
  | .stage => s.stageDisable i
  | .reg => s.regDisable
  | .cm => if s.get u cm_ASTAT_STATE = 6 || s.get u cm_ASTAT_STATE = 7 then s.cmAbortStart i 2 else (s.cmAbortStart i 2).cmLeaveRun i
  | .chan => (s.checkClear u).chValid i
  | .cv => (s.checkClear u).modCv i fun h => { h with due := [] }
  | .wg => (s.checkClear u).wgFollow i
  | .cn => (s.checkClear u).canStop i
  | .sq => (s.checkClear u).modSq i fun h => { h with run := none }
  | .scb => s.bookDisable i
  | .rly => (s.checkClear u).linkDown.set u rly_RLSTAT_TRAINED 0
  | .srv | .thm => s.checkClear u
  | _ => s

/-- What follows any change of an enable or a mode. -/
def State.settle (s : State) : State := ((s.cadFollow.carrierFollow.chopSettle.outputs.laneEnableChanged).lossFollow)

/-- UCTL.EN of a unit takes a value (R15): every unit of the subtree whose effective enable changes starts or ends, in the
order of the walk of R22. -/
def State.setEnable (s : State) (u : Unit) (on : Bool) : State :=
  let was := u.subtree.filter s.enabled
  let s := s.set u hdr_UCTL_EN (if on then 1 else 0)
  let s := forL u.subtree (fun v s =>
    let now := s.enabled v
    if now && !(was.contains v) then s.unitOn v
    else if !now && was.contains v then s.unitOff v
    else s) s
  s.settle

end Sys2Proof.Machine
end

