-- ==== Sys2Proof/Machine/Bind.lean ====
section
/-!
DEFINITION. The binding registers of the device (R25, R29, R30, R135, R136): what a write of one, or its reset, releases
and binds.
-/

namespace Sys2Proof.Machine

/-- A pod's binding is rejected: fault 0x0107 BIND, event only, and event BIND (R135, R136, R157). -/
def State.podBindFault (s : State) (p : Nat) : State := (s.fault (uPod p) 0x0107).raise (uPod p) 5

/-- After a write of INBINDi from `old` (R135). -/
def State.inBind (s : State) (p i : Nat) (old : Word) : State :=
  let u := uPod p
  let s := if old.getLsbD 31 then s.freeReader (bits old 0 12) else s
  if s.on u (pod_INBIND_EN i) then
    match s.bindReader (s.get u (pod_INBIND_SIG i)) (s.get u (pod_INBIND_TYPE i)) with
    | (s, true) => s
    | (s, false) => (s.set u (pod_INBIND_EN i) 0).podBindFault p
  else s

/-- The number of references of a stage (R236, R302, R326, R331, R334, R353). -/
def stageRefs (st : Nat) : Nat :=
  if st ≤ 1 then 8 else if st = 3 then 3 else if st ≤ 8 then 1 else 0

/-- After a write of OUTBINDk from `old` (R25, R136): a signal, or a stage reference, which is Q15 and has one writer. A
reference that has lost its writer reads 0 (R236). -/
def State.outBind (s : State) (p k : Nat) (old : Word) : State :=
  let u := uPod p
  let me := 8 * p + k + 1
  let w := s.getW (u.addr (0xC0 + 4 * k))
  let t := bits w 0 12
  let was := bits old 0 12
  let s := match bits old 30 2 with
    | 1 => s.freeWriter was 1 (me - 1)
    | 2 => if sget (fun _ => 0) s.refOwner was = me then { s with refOwner := sset (fun _ => 0) s.refOwner was 0 } else s
    | _ => s
  let reject := fun (s : State) => (s.set u (pod_OUTBIND_KIND k) 0).podBindFault p
  let s := match bits w 30 2 with
    | 0 => s
    | 1 =>
      (match s.bindWriter t 1 (me - 1) (s.get u (pod_OUTBIND_TYPE k)) with
       | (s, true) => s
       | (s, false) => reject s)
    | 2 =>
      if t % 256 < stageRefs (t / 256) && sget (fun _ => 0) s.refOwner t = 0 && !(s.on u (pod_OUTBIND_TYPE k)) then
        { s with refOwner := sset (fun _ => 0) s.refOwner t me }
      else reject s
    | _ => reject s
  if bits old 30 2 = 2 && sget (fun _ => 0) s.refOwner was = 0 then { s with refs := sset (fun _ => 0) s.refs was 0 }
  else s

/-- The type of a quantity of the link supervisor (R303), of the converter (R326) and of the thermal shell (R554); an index
that names no quantity matches no type. -/
def linkQtyType (w : Word) : Option Nat :=
  if pubQ w ≤ 2 then some 0 else if pubQ w = 3 || pubQ w = 15 then some 1 else none
def regQtyType (w : Word) : Option Nat :=
  if pubQ w ≤ 2 || pubQ w = 6 then some 0 else if pubQ w ≤ 7 || pubQ w = 15 then some 1 else none
def thermQtyType (w : Word) : Option Nat :=
  let q := bits w 16 7
  if q < 24 || (32 ≤ q && q < 56) || q = 64 then some 0 else if q = 65 then some 1 else none

/-- After a write of MAPA, MAPB or MAPC of an evaluator, at offset `o` of the TBK page, from `old` (R428). -/
def State.mapRebind (s : State) (o : Nat) (old : Word) : State :=
  let m := (o - 0x100) / 16
  let w := fun (k : Nat) => if o % 16 = 4 * k then old else s.getW (uTbk.addr (0x100 + 16 * m + 4 * k))
  s.mapWritten m ((w 0).getLsbD 31) (bits (w 1) 0 12) (bits (w 1) 16 12) (bits (w 2) 0 12)

/-- What a binding register releases and binds, once it has been written or reset from `old`. Every other register does
nothing here. -/
def State.rebind (s : State) (u : Unit) (o : Nat) (old : Word) : State :=
  let i := u.inst
  let k4 := fun (b : Nat) => (o - b) / 4
  match u.kind with
  | .pod =>
    if 0x80 ≤ o && o < 0xC0 then s.inBind i (k4 0x80) old
    else if 0xC0 ≤ o && o < 0xE0 then s.outBind i (k4 0xC0) old
    else s
  | .arenaQuad =>
    (match (List.range 4).find? fun j => (arq_APUB_VALEN j).off = o with
     | some j => s.apubBind (4 * i + j) old
     | none => s)
  | .stage =>
    if i ≤ 1 && 0x100 ≤ o && o < 0x120 then s.tpubWritten i (k4 0x100) old
    else if i = 8 && 0x100 ≤ o && o < 0x110 then s.pubBind uBrk o (fun w => 0x180 + pubQ w) linkQtyType old 0x0304
    else s
  | .reg => if 0x100 ≤ o && o < 0x110 then s.pubBind uReg o (fun w => 0x120 + pubQ w) regQtyType old 0x0304 else s
  | .obc => if 0x80 ≤ o && o < 0xA0 then s.opubWritten (k4 0x80) old else s
  | .act => if 0x80 ≤ o && o < 0xA0 then s.actPubWritten (k4 0x80) old else s
  | .chan => if 0xC0 ≤ o && o < 0xE0 then s.chPubWritten i (k4 0xC0) old else s
  | .cv =>
    if o = 0x84 || o = 0x8C then s.ureqWritten i ((o - 0x84) / 8) old
    else if 0x104 ≤ o && o < 0x204 && o % 8 = 4 then s.qslotWritten i ((o - 0x104) / 8) old
    else s
  | .sq => if 0x80 ≤ o && o < 0xA0 then s.sqsigWritten i (k4 0x80) old else s
  | .tbk => if 0x100 ≤ o && o < 0x180 && o % 16 < 12 then s.mapRebind o old else s
  | .sfk => if 0xA0 ≤ o && o < 0xA8 then s.sfpubWritten (k4 0xA0) old else s
  | .thm => if 0xC0 ≤ o && o < 0xE0 then s.pubBind uThm o (fun w => 0x800 + bits w 16 7) thermQtyType old 0x0304 else s
  | _ => s

end Sys2Proof.Machine
end

