-- ==== Sys2Proof/Machine/Resets.lean ====
section
/-!
DEFINITION. The unit reset (R16, R17, R89) and the configuration reset (R70, R584).
-/

namespace Sys2Proof.Machine

/-- The TBASE unit. -/
def uTbase : Unit := ⟨.tbase, 0⟩

/-! Unit reset. -/

/-- What a unit reset leaves of the register at a word address: the enable, the lock and the reset command of every page
(R89), and what R26, R437 and R584 keep: the mode in force, RSTSTAT and STRAPS; lock and calibration of the timebase; BOUNDCNT;
the width of a port; levels of balls, supplies and lanes that are as they are; CALF; SVSEQ; the active bank and BANKOK; the scrub
position; and the reference signature with the check of it, which last until the configuration reset (R578; DEDUCED, log entry 133). -/
def resetKeeps (a : Nat) : Word :=
  let o := a % 0x1000
  match unitAt (a / 0x1000) with
  | none => 0
  | some u =>
    if o = 0xC then 0x80000003 else
    match u.kind with
    | .sys => if o = 0xC0 || o = 0xF0 || o = 0xF4 then 0xFFFFFFFF else 0
    | .sigb => if o = sigb_BOUNDCNT_COUNT.off then 0xFFFFFFFF else 0
    | .tbase => if o = 0x44 then 5 else 0
    | .vmon => if o = 0x44 then 0xFFFFFFFF else if o = 0x40 then 1 else 0
    | .hp => if o = 0x40 then fieldMask hp_PCFG_QUAD.lo hp_PCFG_QUAD.w else if o = 0x44 then 3 else 0
    | .laneShell => if o = 0x80 then 0xFFFFFFFF else 0
    | .lane => if o = 8 then 0x00FF0000 else 0
    | .cv => if o = 0x50 then 0xFFFFFFFF else 0
    | .tbk => if o = 0x48 then 0x80000300 else 0
    | .srv => if o = 0x54 then 0xFFFFFFFF else if o = 0x50 then 0x1CF80000 else 0
    | .rly => if o = 0x58 then 0xE0000000 else 0
    | .ssv => if o = 0xA4 then 0xF8000000 else 0
    | .pscrub => if o = psc_CSSTAT_ARMED.off then 0xA0000000 else if o = psc_CSREF_CRC.off || o = psc_MISTAT_MEM.off then 0xFFFFFFFF else 0
    | .dgk => if o = dgk_DGSTAT_SUPPLY.off then fieldMask dgk_DGSTAT_SUPPLY.lo dgk_DGSTAT_SUPPLY.w else 0
    | _ => 0

/-- The word of a register after a unit reset from `w`; on a locked page every RWL field keeps its value (R89). -/
def unitResetWord (a : Nat) (locked : Bool) (w : Word) : Word :=
  let keep := (if locked then kindMask .rwl (fieldsAtAddr a) else 0) ||| resetKeeps a
  (resetWordAt a &&& ~~~keep) ||| (w &&& keep)

/-- The straps that registers of SRV and TBASE reset to (R49, R586). -/
def State.strapFields (s : State) : State :=
  let s := s.set uSrv srv_SVSTAT_PRI (s.get uSys sys_STRAPS_PRI)
  if s.on uTbase hdr_UCTL_LOCK then s else s.set uTbase tb_TBCFG_REFSRC (s.get uSys sys_STRAPS_REFCLK)

/-- What of a unit no register shows, at its reset. -/
def State.resetHidden (s : State) (u : Unit) : State :=
  let i := u.inst
  match u.kind with
  | .cad => s.cadStop i
  | .pod => { s.modPod i fun _ => {} with ready := s.ready.filter (· ≠ i), terms := sset (fun _ => 0) s.terms i 0 }
  | .lane => forN 128 (fun p s =>
      match (s.pod p).run with
      | some r => if r.lane = i then s.dropRun p else s
      | none => s) s
  | .arenaQuad => { forN 4 (fun j s => { s with arenaPrev := sset (fun _ => 0) s.arenaPrev (4 * i + j) 0 }) s with
      typeSeen := s.typeSeen.filter fun x => x / 32 ≠ i }
  | .stage =>
    let s := s.modStg i fun _ => {}
    let s := { s with trac := sset (fun _ => {}) s.trac i {} }
    if i = 8 then { s with link := { s.link with onAt := 0, offAt := none, switches := 0, pulseEnd := none, disTiming := false },
                           preOn := 0 } else s
  | .reg => { s with conv := {} }
  | .phase => s.modPhase i fun _ => {}
  | .ppx => { s with pilot := {} }
  | .cm => { s.modKn i fun _ => {} with trac := sset (fun _ => {}) s.trac (5 + i) {} }
  | .chan => s.modCh i fun h => { levels := h.levels }
  | .cv => s.modCv i fun _ => {}
  | .cn => { s with cans := sset (fun _ => {}) s.cans i {} }
  | .sq => s.modSq i fun _ => {}
  | .tbk => { s with mapDue := [] }
  | .srv => { s with pair := { s.pair with
      take := none, guardOver := false, withdrawn := false, offerV := none, release := none, cont := none, drill := 0, armBefore := 0, flt := false } }
  | .sfk => { s with sfk := {} }
  | .so => s.modSo i fun _ => {}
  | .loss => forN 24 (fun k s => s.slotStart k) s
  | .rfl => s.rainFresh
  | .led => s.cyclesFresh
  | .thm => { s with thermDue := none }
  | .scb => { s with books := sset (fun _ => {}) s.books i {} }
  | _ => s

/-- One unit of a reset: its registers go to their reset values, the bindings they held are released (R26, R89), and what no
register shows starts anew. -/
def State.resetUnit (s : State) (u : Unit) : State :=
  let locked := s.on u hdr_UCTL_LOCK
  let as := (s.regs.filter fun c => c.1 / 0x1000 = u.page).map Prod.fst
  let s := forL as (fun a s =>
    let w := s.getW a
    let w' := unitResetWord a locked w
    if w' = w then s else (s.setW a w').rebind u (a % 0x1000) w) s
  let s := (s.checkClear u).resetHidden u
  let s := match u.kind with
    | .pod => forN 40 (fun w s => if w < 32 && locked then s else s.clean (40 * u.inst + w)) s
    | .vmon => s.vcoreWarn
    | .stage => (if u.inst = 8 then (s.setQtyI 8 2 0x7FFF).setQtyI 8 3 0 else s).setProt u.inst
    | .reg => (((s.setQtyI 2 3 0).setQtyI 2 4 0).setQtyI 2 5 0 |>.setQtyI 2 7 1).regThresholds s.tick
    | .cm => s.cmReset u.inst
    | .cv => s.pairFollow (u.inst / 2)
    | .pair => s.pairFollow u.inst
    | .sfk => (s.sfState.setSfk 1 0).stoGone
    | .ppx => (((s.setObc 0 0 0).setObc 0 1 0).setObc 0 2 0).setObc 0 3 0
    | _ => s
  { s with outHold := sset (fun _ => 0) s.outHold u.page 0
           holds := s.holds.filter fun h => h.1 / 32 / 0x1000 ≠ u.page }

/-- A unit reset begins (R16): the unit and its descendants are held in reset. -/
def State.resetStart (s : State) (u : Unit) : State :=
  if s.on u hdr_UCTL_URST then s else
  let was := u.subtree.filter s.enabled
  (forL was (fun v s => s.unitOff v) (s.set u hdr_UCTL_URST 1)).settle

/-- A unit reset completes (R16, R89): the reset values stand, and an enabled unit climbs again from OFF. -/
def State.resetEnd (s : State) (u : Unit) : State :=
  if !(s.on u hdr_UCTL_URST) then s else
  let s := forL u.subtree (fun v s => (s.resetUnit v).set v hdr_UCTL_URST 0) s
  let s := s.strapFields
  (forL u.subtree (fun v s => if s.enabled v then s.unitOn v else s) s.authFollow).settle

/-- UNIT_RESET_COMPLETE. -/
def execUnitResetComplete (t page : Nat) (s : State) : Host.Outcome State Fault Refusal :=
  let s := s.at t
  match unitAt page with
  | some u => .next (s.resetEnd u)
  | none => .next s

/-- An access to a page whose reset is in progress takes effect once the reset has completed: the unit's own, and that of every
ancestor, the outermost first (R16, R17). -/
def State.awaitReset (s : State) (u : Unit) : State := forL u.ancestors.reverse (fun v s => s.resetEnd v) s

/-! The configuration reset. -/

/-- The sources whose balls are active whatever is enabled: the comparators report nothing while their groups are off (R414). -/
def State.switchSources (s : State) : List Src := s.srcActive.filter fun src => match src with
  | .cmp _ => false
  | _ => true

/-- The registers that the configuration reset keeps whole (R70, R584): RSTSTAT and STRAPS, the filtered VCORE reading, the scrub
position, the width and SPI mode in which a port works, CALF of each converter and SVSEQ. -/
def configKeeps (a : Nat) : Bool :=
  a = 0xF0 || a = 0xF4 || a = 0x3044 || a = uPscrub.addr psc_MISTAT_MEM.off || a = uSrv.addr 0x54 || a = (⟨.hp, 0⟩ : Unit).addr 0x44 || a = (⟨.hp, 1⟩ : Unit).addr 0x44 ||
    (List.range 8).any fun n => a = (uCv n).addr 0x50

/-- The codewords of table memory and the pool keep their contents (R70, R584), and pod state memory is zeroed (R574); a fault condition
of an uncorrectable codeword ends (R573). -/
def State.keepMemory (s s' : State) : State :=
  { s' with mem := s.mem
            flips := s.flips.filter fun c => cwTables ≤ c.1 / 37 }

/-- The configuration reset (R70, R584): every unit register, the signal board and all that follows them at their reset
state. Balls, supplies, comparators and what the partner has said are as they are. -/
def State.configReset (s : State) : State :=
  let s' : State := { State.reset with
    pending := s.pending
    tick := s.tick
    rc := s.rc
    dlAt := s.dlAt
    dlPrev := s.dlPrev
    dlStage := s.dlStage
    laneBad := (List.range 9).filter fun n => s.laneBad.contains n || s.get (uLane n) hdr_USTAT_STATE = 3
    ports := (List.range 2).foldl (fun m p =>
      sset (fun _ => {}) m p { sget (fun _ => ({} : PortH)) s.ports p with stored := none }) []
    regs := s.regs.filter fun c => configKeeps c.1
    freeCtr := s.freeCtr
    boot := s.boot
    porBoot := s.porBoot
    afterDis := s.afterDis
    srcActive := s.switchSources
    cmpRaw := s.cmpRaw
    link := { level := s.link.level }
    notReady := s.notReady
    vcore := s.vcore
    chans := (List.range 6).foldl (fun m c => sset (fun _ => {}) m c { levels := (s.ch c).levels }) []
    stoIn := s.stoIn
    stoSoft := s.stoSoft
    stoSoftAt := s.stoSoftAt
    tbWin := s.tbWin
    stoDiff := s.stoDiff
    stoDisc := s.stoDisc
    scrubNext := s.scrubNext
    scrubAt := s.scrubAt
    passStart := s.passStart
    passCorr := s.passCorr
    pair := { s.pair with
      sent := [], resync := true, units := [], capAt := 0, appliedAt := none, arnDiff := [], take := none, guardOver := false
      withdrawn := false, offerV := none
      release := none, cont := none, drill := 0, armBefore := 0, flt := false } }
  let s' := s.keepMemory s'
  let keep := fun (u : Unit) (f : Fld) (x : State) => x.set u f (s.get u f)
  let s' := keep uSys sys_MODESTAT_MODE s'
  let s' := keep uSys sys_MODESTAT_TRANS s'
  let s' := keep uTbase tb_TBSTAT_LOCK s'
  let s' := keep uTbase tb_TBSTAT_DLCAL s'
  let s' := keep uSrv srv_SVSTAT_SERVEI s'
  let s' := keep uDgk dgk_DGSTAT_SUPPLY s'
  let s' := keep uSsv ssv_STOSTAT_INA (keep uSsv ssv_STOSTAT_INB (keep uSsv ssv_STOSTAT_DISC s'))
  s'.strapFields.vcoreWarn

/-- The causes whose conditions persist over the configuration reset set again (R72): of those in force before it, STO,
STODISC, VCORE, SUPPLY and LOCK. -/
def State.persisting (s : State) (causes : Nat) : State :=
  forL [0, 1, 4, 5, 7] (fun b s => if causes.testBit b && !(s.causeGone b) then s.safety b 0 else s) s

end Sys2Proof.Machine
end

