-- ==== Sys2Proof/Machine/Modes.lean ====
section
/-!
DEFINITION. Entry to a mode (R69 to R73, R78, R80), the host's mode command and the end of a transition (R74 to R77).
-/

namespace Sys2Proof.Machine

/-! The serve and the link as the mode changes. -/

/-- The serve where no pair is enabled is held in RUN and DISCHARGE, and in SAFE-HOLD entered from them (R476, R479); with a
pair, entry to CONFIG or DORMANT gives it up (R480). -/
def State.tokenFollow (s : State) : State :=
  let s := if s.on uSrv srv_SVCFG_PAIREN then
      (if s.inMode .config || s.inMode .dormant then s.set uSrv srv_SVSTAT_TOKEN 0 else s)
    else if s.inMode .run || s.inMode .discharge then s.set uSrv srv_SVSTAT_TOKEN 1
    else if s.inMode .safeHold then s
    else s.set uSrv srv_SVSTAT_TOKEN 0
  s.authFollow

/-- The lanes are idle in CONFIG and CALIBRATE and gated in DORMANT D1 to D4 (R80, R481). -/
def State.linkMode (s : State) : State :=
  if s.inMode .config || s.inMode .calibrate || (s.inMode .dormant && 1 ≤ s.get uSys sys_MODESTAT_VARIANT) then
    s.linkDown.set uRly rly_RLSTAT_TRAINED 0
  else s

/-! Entry. -/

/-- Entry to a mode by an initiator: 0 host, 1 SSV, 2 pair, 3 reset (R69). Entry to CONFIG applies the configuration reset
(R70). -/
def State.enterMode (s : State) (m : Mode) (entry variant : Nat) : State :=
  let from_ := s.mode
  let ran := s.runsMode
  let causes := s.get uSsv ssv_SHCAUSE_CAUSE
  let ss1 := s.on uSsv ssv_STOCFG_MODE
  let s := if m = .config then s.configReset else s
  let s := s.setMode m.code entry variant
  let s := { s with fromReady := m = Mode.dormant && from_ = Mode.ready.code, authKeep := false
                    pair := { s.pair with withdrawn := false } }.drillMode
  let s := s.tokenFollow
  -- what the mode that was left did (R78, R269, R297)
  let s := if from_ = Mode.run.code then s.leaveRun else s
  let s := if from_ = Mode.run.code || from_ = Mode.safeHold.code then s.endModeTurnOff (from_ = Mode.safeHold.code) else s
  let s := if from_ = Mode.discharge.code || from_ = Mode.safeHold.code then s.dischargeLeave else s
  let s := if from_ = Mode.shadow.code && m ≠ .run then s.dropTake else s
  let s := if ran && !s.runsMode then
      (forN 4 (fun n s => s.canStop n) (s.dropAllRuns.rotationLeave.queueStop)).rainEmpty
    else s
  -- what the mode entered does
  let s := if !ran && s.runsMode then s.rotationEnter.queueStart else s
  let s := match m with
    | .run => forN 2 (fun st s => s.tracRunEntry st) s.seedAll
    | .ready =>
      let s := if from_ = Mode.dormant.code then forN 3 (fun g s => s.wgFollow g) s else s
      if from_ = Mode.calibrate.code || from_ = Mode.dormant.code then s.canReady.ledCheck else s
    | .shadow => s.modPair fun h => { h with resync := true }
    | .calibrate => s.cvCalAll.rainEmpty
    | .discharge => s.dischargeEntry
    | .dormant =>
      let s := forN 3 (fun g s => s.wgFollow g) s.booksDormant.rainEmpty
      if 2 ≤ variant then s.lockFall.integrityStop else s
    | .config => s.persisting causes
    | .safeHold => s
  let s := (s.sqModeEntered from_).linkMode
  let s := (s.tripCheckAll.regGovern).settle.msgFollow
  let a := s.on uSsv ssv_STOSTAT_INA
  let b := s.on uSsv ssv_STOSTAT_INB
  if m = .config && s.stoIn then s.stoFollow
  else if m = .config && ss1 && !(a && b) then s.stoLevels a b
  else s

/-! The host's command (R74). -/

/-- May a takeover by the host start (R494)? Not while the link is up and the partner shows TOKEN in RUN without FLT. -/
def State.hostTakeOk (s : State) : Bool :=
  let w := s.pair.msg
  !(s.on uRly rly_RLSTAT_UP && s.pair.heard && w.getLsbD 23 && bits w 24 4 = Mode.run.code && !(w.getLsbD 20))

/-- May the serve be handed over (R499)? ARMED in the partner's message stands for its TAKEOVER_ARM.REL. -/
def State.handOverOk (s : State) : Bool :=
  let w := s.pair.msg
  s.on uSrv srv_SVCFG_PAIREN && s.on uSrv srv_SVSTAT_TOKEN && s.on uRly rly_RLSTAT_UP && s.pair.heard &&
    bits w 24 4 = Mode.shadow.code && w.getLsbD 17 && w.getLsbD 16 && w.getLsbD 19

/-- Is a stage latched, or an SSV cause (R72)? -/
def State.anyLatch (s : State) : Bool :=
  s.get uSsv ssv_SHCAUSE_CAUSE ≠ 0 || (List.range 9).any fun st => s.glatch st

/-- The speed condition of R76: no TA or TB stage with ASC selected reports a speed above its threshold. -/
def State.speedOk (s : State) : Bool := !((List.range 2).any fun st => s.ascWanted st)

/-- The condition of a transition of the table of R71, as the cause of its refusal, 0 none; 1 ILLEGAL where the table has no
such transition. -/
def State.moveCause (s : State) (target after : Nat) : Nat :=
  let causes := s.get uSsv ssv_SHCAUSE_CAUSE ≠ 0
  match s.mode, target with
  | 1, 2 => if after ≠ 3 then 1 else if !(s.on uSys sys_LOCKALL_ALL) then 4 else if s.anyLatch then 5 else 0
  | 1, 0 => if causes then 5 else 0
  | 3, 4 => if s.on uSrv srv_SVCFG_PAIREN && !(s.on uSrv srv_SVSTAT_TOKEN) then 6 else 0
  | 3, 5 => if s.on uSrv srv_SVCFG_PAIREN && s.on uRly rly_RLSTAT_UP then 0 else 6
  | 3, 1 | 3, 0 => 0
  | 3, 7 => if after ≤ 1 then 0 else 1
  | 4, 3 => if s.speedOk then 0 else 7
  | 4, 5 => if s.handOverOk then 0 else 6
  | 4, 7 => if 1 < after then 1 else if s.speedOk then 0 else 7
  | 5, 4 => if s.hostTakeOk then 0 else 6
  | 5, 3 => 0
  | 6, 3 => if causes then 5 else if s.speedOk then 0 else 7
  | 6, 1 => 0
  | 6, 7 => if after ≤ 1 then 0 else 1
  | 0, 1 => 0
  | 0, 3 => if causes then 5 else if s.fromReady && s.get uSys sys_MODESTAT_VARIANT ≤ 3 then 0 else 11
  | _, _ => 1

/-- The first failing cause of a mode command, 0 none (R74, R586). -/
def State.modeCause (s : State) (target after frm : Nat) : Nat :=
  if frm ≠ s.mode then 2
  else if s.on uSys sys_MODESTAT_TRANS then 3
  else if s.on uSys sys_STRAPS_TMODE && target ≠ 1 then 1
  else s.moveCause target after

/-- The variant of DORMANT that the wake budget selects (R80). -/
def State.variant (s : State) : Nat :=
  let us := s.get uSys sys_WAKE_BUDGET_US
  if us < 50 then 0 else if us < 300 then 1 else if us < 3000 then 2 else if us < 20000 then 3 else 4

/-- V of a handover (R499): the first TA valley at least 600 ticks after sending; without a running carrier of TA, that
tick itself. -/
def State.handoverTick (s : State) : Nat :=
  let h := s.tr 0
  let e := s.tick + 600
  if s.carrierRuns 0 && h.period ≠ 0 then h.valley + (e - h.valley + h.period - 1) / h.period * h.period else e

/-- A handover starts (R499): OFFER names V in the partner's timebase, which is a free value while no message has given the
offset, and the holder is RELEASING. -/
def State.handover (s : State) : State :=
  let v := s.handoverTick
  let theirs := match s.pair.shift with
    | some d => unsigned 32 ((v : Int) - d)
    | none => (Config.freeWord s.freeCtr).toNat
  ({ s with freeCtr := s.freeCtr + 1 }.sendMsg 3 theirs).modPair fun h => { h with release := some v }

/-- A transition out of RUN to READY begins (R78): stages without a running carrier go low at once, and so do DCL, of which
every tick is a load point, and BRK. -/
def State.runEnds (s : State) : State :=
  let s := forN 9 (fun st s =>
    if st ≠ 2 && s.carrierRuns (s.lead st) then s else s.clearCmds st) s
  s.regLeaveRun.chopSettle

/-- The transition of an accepted command begins (R74, R77). CALIBRATE and DISCHARGE are in force at once, because their
transition lasts until the mode after them; a handover and a takeover follow R496 and R499. -/
def State.modeStart (s : State) (target after : Nat) : State :=
  let from_ := s.mode
  let s := { s.set uSys sys_MODESTAT_TRANS 1 with trans := some ⟨target, after, 0⟩, afterDis := after }
  match target with
  | 2 => s.enterMode .calibrate 0 0
  | 7 => s.enterMode .discharge 0 0
  | 3 => if from_ = Mode.run.code then s.runEnds else if from_ = Mode.shadow.code then s.dropTake else s
  | 5 => if from_ = Mode.run.code then s.handover else s
  | 4 => if from_ = Mode.shadow.code then s.modPair fun h => { h with take := some (4, s.tick, s.tick) } else s.tripCheckAll.chopSettle
  | _ => s

/-- A MODECMD with GO = 1, on the fields of the register (R74, R95). -/
def State.modeCommand (s : State) : State :=
  let target := s.get uSys sys_MODECMD_TARGET
  let after := s.get uSys sys_MODECMD_AFTER
  let c := s.modeCause target after (s.get uSys sys_MODECMD_FROM)
  let s := s.set uSys sys_MODECMD_GO 0
  if c = 0 then s.modeStart target after
  else ((s.cause uSys sys_MODERES_CAUSE c).cor uSys sys_MODERES_REFUSED 1).raise uSys 1

/-! The end of a transition (R77). -/

/-- The transition is complete: TRANS falls and DONE is recorded, where no safety reaction has pre-empted it (R75). -/
def State.transDone (s : State) : State :=
  if s.on uSys sys_MODESTAT_TRANS then
    { s.set uSys sys_MODESTAT_TRANS 0 with trans := none }.cor uSys sys_MODERES_DONE 1
  else s

/-- Memory after DORMANT D4, which lost it (R574). -/
def State.wakeMemory (s : State) : State := { s with mem := [], flips := [], uncorr := [] }

/-- The mode with a code. -/
def modeOf (c : Nat) : Mode :=
  match c with
  | 0 => .dormant
  | 1 => .config
  | 2 => .calibrate
  | 3 => .ready
  | 4 => .run
  | 5 => .shadow
  | 6 => .safeHold
  | _ => .discharge

/-- MODE_TRANSITION_COMPLETE: the mode of the command is entered. A discharge completes once the link is discharged (R298); a
wake from D2 to D4 needs lock (R82); CALIBRATE ends by its calibration, a handover and a takeover by their own instants. -/
def execModeTransitionComplete (t : Nat) (s : State) : Host.Outcome State Fault Refusal :=
  let s := s.at t
  match s.trans with
  | none => .next s
  | some x =>
    if s.inMode .calibrate || s.pair.take.isSome || s.pair.release.isSome then .next s
    else if s.inMode .discharge then
      if s.discharged then
        .next (s.enterMode (modeOf x.after) 0 (if x.after = 0 then s.variant else 0)).transDone
      else .next s
    else if s.inMode .dormant then
      if s.locked then
        let d4 := s.get uSys sys_MODESTAT_VARIANT = 4
        let s := if d4 then s.wakeMemory else s
        let s := s.enterMode (modeOf x.target) 0 0
        .next (if d4 then (s.set uTbase tb_TBSTAT_DLCAL 0).stoWake.transDone else s.transDone)
      else .next s
    else .next (s.enterMode (modeOf x.target) 0 (if x.target = 0 then s.variant else 0)).transDone

/-- CALIBRATION_COMPLETE: CALIBRATE ends once no converter calibrates any more (R71, R409); `pass` is the result of the
interpolators and the comparator offsets. -/
def execCalibrationComplete (t : Nat) (pass : Bool) (s : State) : Host.Outcome State Fault Refusal :=
  let s := s.at t
  if !(s.inMode .calibrate) || (List.range 8).any fun n => s.on (uCv n) cv_CVSTAT_CALIB then .next s
  else if pass && !s.calFailed then .next ((s.enterMode .ready 0 0).set uTbase tb_TBSTAT_DLCAL 1).transDone
  else
    let s := s.enterMode .config 0 0
    .next (s.preempt 8)

/-- DISCHARGE_TIMEOUT: 2 s after entry to DISCHARGE the link is not below 60 V (R73). -/
def execDischargeTimeout (t : Nat) (s : State) : Host.Outcome State Fault Refusal :=
  let s := s.at t
  if s.inMode .discharge && !s.discharged && s.due (s.link.disAt + ms 2000) then .next ((s.preempt 9).safety 14 0) else .next s

end Sys2Proof.Machine
end

