-- ==== Sys2Proof/Machine/Boot.lean ====
section
/-!
DEFINITION. The device resets and the boot (R581 to R588), and the PLL and the interpolators (R49 to R54).
-/

namespace Sys2Proof.Machine

/-! Device resets. -/

/-- RSTSTAT and STRAPS as a release loads them (R586, R587, R594): the cause is 1 POR, 2 PIN or 3 SW. The memories are not kept where
the boot of a power-on reset has not initialised them (DEDUCED, log entry 25). -/
def State.loadStraps (s : State) (cause : Nat) (refclk pri tmode : Bool) : State :=
  let s := (s.set uSys sys_RSTSTAT_CAUSE cause).set uSys sys_RSTSTAT_MEMKEPT (if s.porBoot then 0 else 1)
  let s := (s.set uSys sys_STRAPS_REFCLK (if refclk then 1 else 0)).set uSys sys_STRAPS_PRI (if pri then 1 else 0)
  (s.set uSys sys_STRAPS_TMODE (if tmode then 1 else 0)).strapFields

/-- A device reset (R583, R584): everything at its reset state, and every output with it; what the balls and supplies hold
from outside, and the contents of the memories, are as they are. TRANS reads 1 until the boot is over (R588). -/
def State.deviceReset (s : State) (boot : Boot) : State :=
  let s' : State := { State.reset with
    pending := s.pending
    freeCtr := s.freeCtr
    mem := s.mem
    flips := s.flips
    uncorr := s.uncorr
    srcActive := s.switchSources
    cmpRaw := s.cmpRaw
    link := { level := s.link.level }
    notReady := s.notReady
    vcore := s.vcore
    chans := (List.range 6).foldl (fun m c => sset (fun _ => {}) m c { levels := (s.ch c).levels }) []
    stoIn := s.stoIn
    porBoot := s.porBoot
    boot := boot }
  let keep := fun (u : Unit) (f : Fld) (x : State) => x.set u f (s.get u f)
  let s' := keep uSrv srv_SVSTAT_SERVEI (keep uDgk dgk_DGSTAT_SUPPLY s')
  let s' := keep uSsv ssv_STOSTAT_INA (keep uSsv ssv_STOSTAT_INB (keep uSsv ssv_STOSTAT_DISC s'))
  s'.set uSys sys_MODESTAT_TRANS 1

/-- POWER_ON_RESET: a supply has fallen below its POR threshold, and all have held their release levels for 1 ms; the straps
are those at the release (R581, R585, R586). -/
def execPowerOnReset (_t : Nat) (refclk pri tmode : Bool) (s : State) : Host.Outcome State Fault Refusal :=
  .next (({ s with porBoot := true }.deviceReset .reference).loadStraps 1 refclk pri tmode)

/-- The step at which the boot waits first: for the reference where that of a power-on reset has not run whole (R587; DEDUCED, log entry
25). -/
def State.bootStart (s : State) : Boot := if s.porBoot then .reference else .lock

/-- NRESET: the ball has been low past its filter (R581). -/
def execNreset (_t : Nat) (s : State) : Host.Outcome State Fault Refusal := .next (s.deviceReset .held)

/-- NRESET_RELEASE: the ball has been high for 10 µs (R581, R587). -/
def execNresetRelease (_t : Nat) (refclk pri tmode : Bool) (s : State) : Host.Outcome State Fault Refusal :=
  if s.boot = .held then .next ({ s with boot := s.bootStart }.loadStraps 2 refclk pri tmode) else .next s

/-- SOFTWARE_DEVICE_RESET: at the rise of nCS that ends the frame of the write (R582). -/
def execSoftwareDeviceReset (_t : Nat) (refclk pri tmode : Bool) (s : State) : Host.Outcome State Fault Refusal :=
  if s.boot = .held then .next s else .next ((s.deviceReset s.bootStart).loadStraps 3 refclk pri tmode)

/-! Boot (R587). -/

/-- REFERENCE_VALID: after a POR, the crystal or the clock on XIN is valid. `late`: more than 10 ms after the release; SSV then
holds cause LOCK once CONFIG is reached. -/
def execReferenceValid (_t : Nat) (late : Bool) (s : State) : Host.Outcome State Fault Refusal :=
  if s.boot = .reference then .next { s with boot := .lock, refLate := late } else .next s

/-- BOOT_COMPLETE: the memories are initialised, all three after a POR and pod state memory after another reset (R574, R587),
and the device reports CONFIG with ENTRY 3 and MODECHG. SSV holds cause LOCK where there is no lock, or where the reference was late; a supply out of range trips,
and a low STO input requests STO (log entry 13). -/
def execBootComplete (t : Nat) (s : State) : Host.Outcome State Fault Refusal :=
  let s := s.at t
  if s.boot ≠ .memory then .next s else
  let s := if s.on uSys sys_RSTSTAT_MEMKEPT then s.keepMemory s else s.wakeMemory
  let s := { s.set uSys sys_MODESTAT_TRANS 0 with boot := .done, porBoot := false }
  let s := (s.set uSys sys_MODESTAT_PREV 1).set uSys sys_MODESTAT_ENTRY 3
  let s := (s.set uSys sys_MODESTAMP_STAMP s.stamp).raise uSys 0
  let s := (if s.locked && !s.refLate then s else s.safety 7 0).suppliesAtBoot
  if s.stoIn then .next ({ s with stoIn := false }.stoLevels (s.on uSsv ssv_STOSTAT_INA) (s.on uSsv ssv_STOSTAT_INB))
  else .next s

/-! The PLL (R49, R50, R52, R82). -/

/-- PLL_LOCK: LOCK rises; TBCNT starts from 0 at the first lock after a device reset, and continues from its held value at
another. A gated PLL locks only in a wake (R82). What the RC oscillator timed goes on by the timebase (R52), and what follows lock
starts again (R231). -/
def execPllLock (_t : Nat) (s : State) : Host.Outcome State Fault Refusal :=
  if s.locked then .next s else
  match s.boot with
  | .held | .reference => .next s
  | .lock => .next { s.set uTbase tb_TBSTAT_LOCK 1 with boot := .memory, tick := 0 }
  | _ =>
    if s.deepDormant && s.trans.isNone then .next s else
    let back := fun a => a + s.tick - s.rc
    let s := forN 9 (fun st s => s.modStg st fun h => { h with start := back h.start }) s
    let s := forN 32 (fun k s => s.modSo k fun h => { h with testAt := back h.testAt, sampled := h.sampled.map back }) s
    let s := { s.set uTbase tb_TBSTAT_LOCK 1 with
      updated := (0, []), wrote := (0, []), stoSoftAt := back s.stoSoftAt, stoDiff := back s.stoDiff }
    .next (s.holdSet uTbase tb_TBSTAT_LOCKLOST).settle

/-- PLL_LOCK_LOST: LOCK falls and LOCKLOST is set; timebase instants stop, and SSV takes SAFE-HOLD with cause LOCK (R52).
During the boot SSV sets the cause once CONFIG is reached (R587). -/
def execPllLockLost (t : Nat) (s : State) : Host.Outcome State Fault Refusal :=
  let s := s.at t
  if !s.locked then .next s else
  let s := s.lockFall.cor uTbase tb_TBSTAT_LOCKLOST 1
  let s := s.scrubStop
  if s.boot = .done then .next ((s.safety 7 0).carrierFollow) else .next s

/-- INTERPOLATOR_RECALIBRATION: every 100 µs in every mode with lock but CALIBRATE, which calibrates them itself (R54), with
the delay-line stages per tick that it found; less than 100 µs after the last one none is made. Each stage takes it at its next load
point (`State.dlLoad`); the fractions of edge times do not depend on it. -/
def execInterpolatorRecalibration (t stages : Nat) (s : State) : Host.Outcome State Fault Refusal :=
  let s := s.at t
  let early := match s.dlAt with
    | some a => s.tick < a + us 100
    | none => false
  if s.locked && s.boot = .done && !(s.inMode .calibrate) && !early then
    let s := { s with dlPrev := s.get uTbase tb_DLSTAT_STAGES, dlAt := some s.tick }
    .next ((s.inc uTbase tb_DLSTAT_CALCNT).set uTbase tb_DLSTAT_STAGES stages)
  else .next s

end Sys2Proof.Machine
end

