-- ==== Sys2Proof/Machine/Pair.lean ====
section
/-!
DEFINITION. The redundant pair (R477 to R506): claims, messages, takeover, handover, contention and the swap drill.
-/

namespace Sys2Proof.Machine

/-! The serve. -/

/-- The device takes the serve (R478), with no cycle waiting (R563), and announces it (R484). -/
def State.takeServe (s : State) : State :=
  let seq := (max (s.get uSrv srv_SVSEQ_SEQ) (s.get uSrv srv_SVPSEQ_SEQ) + 1) % 2 ^ 32
  let s := ((s.set uSrv srv_SVSEQ_SEQ seq).set uSrv srv_SVSTAT_TOKEN 1).authFollow
  (s.cyclesFresh.sendMsg 2 s.stamp).modPair fun h => { h with tookAt := s.tick }

/-- The device gives the serve up: AUTH and SERVE_OUT fall. -/
def State.giveServe (s : State) : State :=
  ({ s with authKeep := false }.set uSrv srv_SVSTAT_TOKEN 0).authFollow.msgFollow

/-- SVCMD.CLAIM (R479). -/
def State.serveClaim (s : State) : State :=
  let refuse := fun c => (s.cause uSrv srv_SVRES_CAUSE c).cor uSrv srv_SVRES_REFUSED 1
  if !(s.inMode .ready) then refuse 1
  else if !(s.on uRly rly_RLSTAT_UP && s.on uRly rly_RLSTAT_PRXOK) then refuse 2
  else if s.pair.heard && s.pair.msg.getLsbD 23 then refuse 3
  else s.takeServe.cor uSrv srv_SVRES_DONE 1

/-! The link. -/

/-- RALLY_LINK_TRAINED (R481): training completes with a measured one-way latency in 1/32 tick. -/
def execRallyLinkTrained (t lat : Nat) (s : State) : Host.Outcome State Fault Refusal :=
  let s := s.at t
  let u := uRly
  if !(s.on u rly_RLCFG_EN) || !(s.enabled u) || !s.runsMode then .next s else
  let s := ((s.set u rly_RLLAT_LAT lat).set u rly_RLSTAT_TRAINED 1).set u rly_RLSTAT_UP 1
  let s := s.modPair fun h => { h with
    lastWord := s.tick, silent := false, resync := true, hbAt := s.tick + atLeast1 (s.get u rly_RLHB_HBPER) }
  .next ((s.raise u 0).sendMsg 1 s.stamp)

/-- RALLY_LINK_DOWN (R510): the receiver loses its training, or becomes erroneous while trained. -/
def execRallyLinkDown (t : Nat) (lost : Bool) (s : State) : Host.Outcome State Fault Refusal :=
  let s := (s.at t).linkDown
  .next (if lost then s.set uRly rly_RLSTAT_TRAINED 0 else s.msgFollow)

/-! Triggers (R494, R495). -/

/-- Do the conditions of R495 hold for an autonomous trigger? -/
def State.armed (s : State) (n : Nat) : Bool :=
  s.on uSrv srv_TAKEOVER_ARM_ARM &&
    (match n with
     | 1 => s.on uSrv srv_TAKEOVER_ARM_HB
     | 2 => s.on uSrv srv_TAKEOVER_ARM_FLT
     | _ => s.on uSrv srv_TAKEOVER_ARM_REL) &&
    s.inMode .shadow && s.trans.isNone && !(s.on uSrv srv_SVSTAT_PRICONF) && s.get uSsv ssv_SHCAUSE_CAUSE = 0

/-- A trigger that a condition stops: DROPPED where ARM is 1. -/
def State.unarmed (s : State) : State := if s.on uSrv srv_TAKEOVER_ARM_ARM then s.raise uSrv 1 else s

/-- Trigger 1 or 2 is recognised in SHADOW: its takeover starts, or the trigger is dropped; of two triggers of one takeover
the lower number is recorded (R503). -/
def State.trigger (s : State) (n instant : Nat) : State :=
  match s.pair.take with
  | some (m, r, i) => s.modPair fun h => { h with take := some (min m n, r, i) }
  | none =>
    if s.pair.offerV.isSome then s
    else if s.armed n then s.modPair fun h => { h with take := some (n, s.tick, instant), guardOver := false }
    else s.unarmed

/-- PARTNER_SILENT (R484): no valid word for HBTO ticks. The trigger instant is the arrival of the last word. -/
def execPartnerSilent (t : Nat) (s : State) : Host.Outcome State Fault Refusal :=
  let s := s.at t
  if !s.runsMode || !(s.on uRly rly_RLCFG_EN) || s.pair.silent || !(s.pair.heard || s.on uRly rly_RLSTAT_TRAINED) ||
      !(s.due (s.pair.lastWord + s.get uRly rly_RLHB_HBTO)) then .next s else
  let s := (s.modPair fun h => { h with silent := true }).raise uSrv 5
  .next (if s.inMode .shadow then s.trigger 1 s.pair.lastWord else s)

/-! Messages received (R478, R483, R485, R502). -/

/-- The priorities compared (R502): equal straps set PRICONF, with its event and fault 0x0C12, event only. -/
def State.priCompare (s : State) : State :=
  if s.get uSrv srv_SVSTAT_PRI = s.get uSrv srv_SVSTAT_PPRI then
    if s.on uSrv srv_SVSTAT_PRICONF then s
    else ((s.set uSrv srv_SVSTAT_PRICONF 1).raise uSrv 9).fault uSrv 0x0C12
  else s.set uSrv srv_SVSTAT_PRICONF 0

/-- The words of a message of type `type`, where its CRC is good. -/
def goodMsg (type : Nat) (w0 w1 w2 w3 : Word) : Bool := bits w0 28 4 = type && crc32 ([w0, w1, w2].flatMap wordBytes) = w3

/-- What every valid message does: the partner's state and number, and the offset of the two timebases from the tick of its
sending and the latency. Word 0 shows SERVE_OUT low as SERVE_IN low. -/
def State.hear (s : State) (type : Nat) (w0 w1 w2 : Word) : State :=
  let u := uSrv
  let lat := (s.get uRly rly_RLLAT_LAT + 16) / 32
  let s := s.modPair fun h => { h with
    lastWord := s.tick, silent := false, msg := w0, heard := true
    shift := if type = 3 then h.shift else some (unsigned 32 ((s.stamp : Int) - lat - w2.toNat))
    claimAt := if type = 2 || w0.getLsbD 23 then some (s.tick, w1.toNat) else h.claimAt }
  let s := s.set u srv_SVPSEQ_SEQ w1.toNat
  let s := if s.on u srv_SVSTAT_TOKEN then s else s.set u srv_SVSEQ_SEQ w1.toNat
  let s := (s.set u srv_SVSTAT_PPRI (bits w0 18 1)).set u srv_SVSTAT_PMODE (bits w0 24 4)
  let s := s.set uRly rly_RLSTAT_PRXOK (bits w0 19 1)
  let s := if w0.getLsbD 21 then s else s.set u srv_SVSTAT_SERVEI 0
  let s := s.priCompare
  -- trigger 2 and the cancelling of a takeover (R494, R496)
  if !(s.inMode .shadow) then s
  else if w0.getLsbD 20 && w0.getLsbD 23 then (s.raise u 4).trigger 2 s.tick
  else if type = 1 && w0.getLsbD 23 && s.pair.take.isSome && !s.pair.guardOver then
    let host := match s.pair.take with
      | some (4, _, _) => true
      | _ => false
    let s := s.dropTake
    if host then s.preempt 6 else s
  else s

/-- A message that fails its CRC is discarded (R483). -/
def State.msgDrop (s : State) : State := s.inc uRly rly_RLCRC_COUNT

/-- Does the receiver take messages? -/
def State.hears (s : State) : Bool := s.on uRly rly_RLSTAT_TRAINED && s.on uRly rly_RLCFG_EN && s.enabled uRly

/-- HB_MESSAGE. -/
def execHbMessage (t : Nat) (w0 w1 w2 w3 : Word) (s : State) : Host.Outcome State Fault Refusal :=
  let s := s.at t
  if !s.hears then .next s
  else if goodMsg 1 w0 w1 w2 w3 then .next (s.hear 1 w0 w1 w2) else .next s.msgDrop

/-- CLAIM_MESSAGE: claims that cross in READY (R479). -/
def execClaimMessage (t : Nat) (w0 w1 w2 w3 : Word) (s : State) : Host.Outcome State Fault Refusal :=
  let s := s.at t
  if !s.hears then .next s
  else if !(goodMsg 2 w0 w1 w2 w3) then .next s.msgDrop
  else
    let s := s.hear 2 w0 w1 w2
    let own := s.get uSrv srv_SVSEQ_SEQ
    if s.inMode .ready && s.on uSrv srv_SVSTAT_TOKEN &&
        (own < w1.toNat || (own = w1.toNat && !(s.on uSrv srv_SVSTAT_PRI))) then
      .next ((s.giveServe.set uSrv srv_SVSEQ_SEQ w1.toNat).raise uSrv 3)
    else .next s

/-! Contention (R501). -/

/-- Contention begins at a tick. -/
def State.contend (s : State) (c0 : Nat) : State :=
  if s.pair.cont.isSome then s else
  let s := (s.modPair fun h => { h with cont := some c0 }).set uSrv srv_SVSTAT_CONT 1
  (s.inc uSrv srv_CONTCNT_COUNT).raise uSrv 2

/-- Contention is over. -/
def State.contEnd (s : State) : State := (s.modPair fun h => { h with cont := none }).set uSrv srv_SVSTAT_CONT 0

/-- The device withdraws (R501): from RUN it enters SHADOW, and in DISCHARGE its balls stay low. -/
def State.withdraw (s : State) : State :=
  let s := (s.contEnd.giveServe).raise uSrv 3
  if s.inMode .run then s.enterMode .shadow 2 0
  else if s.inMode .discharge then
    let s := s.dischargeLeave.modPair fun h => { h with withdrawn := true }
    (s.clearCmds 2).clearCmds 8
  else s

/-! Takeover (R496 to R498). -/

/-- The UNITS record of the frame in use, at entry to RUN (R497). -/
def State.useUnits (s : State) : State :=
  match s.pair.units with
  | [w0, w1, w2, w3] =>
    let s := forN 9 (fun st s => if w0.getLsbD (16 + st) && s.lead st = st then s.stageOff st else s) s
    let p := bits w0 8 3
    let s := if p = 4 && w0.getLsbD 5 && w0.getLsbD 4 then
        ((s.set uBrk brk_LSTAT_PRESTATE 4).set uBrk brk_LSTAT_NEG 1).set uBrk brk_LSTAT_POS 1
      else if 1 ≤ p && p ≤ 3 then
        (((s.set uBrk brk_LSTAT_NEG 0).set uBrk brk_LSTAT_POS 0).set uBrk brk_LSTAT_PRESTATE p).preAbort 7
      else s
    let s := if w1.getLsbD 3 && (bits w1 0 3 = 1 || bits w1 0 3 = 2) then
        { s.set uReg reg_RSTAT_HOSTREQ 1 with conv := { s.conv with hostDir := bits w1 4 1 } }.regGovern
      else s
    let s := forN 3 (fun n s =>
      let c := bits w2 (4 * n) 3
      if 1 ≤ c && c ≤ 3 then (s.cmCatch n false).modKn n fun h => { h with before := c, restart := true } else s) s
    let s := forN 8 (fun k s =>
      if w3.getLsbD k && (s.get uRly rly_RLSOMASK_SO).testBit k then s.set (uSo k) so_SOCTL_ON 1 else s) s
    s.outputs
  | _ => s

/-- A frame in use that names no frame: TKAGE is measured from the capture tick of the last applied frame. -/
def State.takeAge (s : State) (instant : Nat) : Nat :=
  match s.pair.appliedAt with
  | some _ => instant - s.pair.capAt
  | none => (Config.freeWord s.freeCtr).toNat

/-- TAKEOVER_GUARD_END: 3,960 ticks after the recognition (R496). -/
def execTakeoverGuardEnd (t : Nat) (s : State) : Host.Outcome State Fault Refusal :=
  let s := s.at t
  match s.pair.take with
  | some (_, r, _) => if s.due (r + 3960) then .next (s.modPair fun h => { h with guardOver := true }) else .next s
  | none => .next s

/-- The first valley at or after tick `e` has come, of TA or of the lowest-numbered stage whose carrier runs, or that tick itself where
no carrier runs (R496). DCL and BRK have none (R485). -/
def State.takeNow (s : State) (e : Nat) : Bool :=
  match [0, 1, 3, 4, 5, 6, 7].find? fun st => s.carrierRuns st && s.lead st = st with
  | some st =>
    let h := s.tr st
    s.locked && ((h.period ≠ 0 && e ≤ h.valley) || (!h.nextPeak && h.next.any fun d => e ≤ d && d ≤ s.tick))
  | none => s.due e

/-- TAKEOVER_ENTRY: the first valley after the guard (R496). A frame that was never applied leaves TKAGE without a stated
value: it is free. -/
def execTakeoverEntry (t : Nat) (s : State) : Host.Outcome State Fault Refusal :=
  let s := s.at t
  match s.pair.take with
  | none => .next s
  | some (n, r, i) =>
    if !(s.inMode .shadow) || !s.pair.guardOver || !(s.takeNow (r + 3960)) then .next s else
    let age := s.takeAge i
    let s := { s with freeCtr := s.freeCtr + 1 }.modPair fun h => { h with take := none, guardOver := false }
    let s := s.set uSrv srv_SVSTAT_TOKEN 1
    let s := (s.enterMode .run (if n = 4 then 0 else 2) 0).takeServe.useUnits
    let s := (s.raise uSrv 0).inc uSrv srv_TKCNT_COUNT
    let s := ((s.set uSrv srv_TKSTAT_TRIG n).set uSrv srv_TKSTAMP_STAMP i).set uSrv srv_TKDUR_TICKS (s.tick - r)
    let s := s.set uSrv srv_TKAGE_TICKS age
    let s := if n = 4 then s.transDone else s
    let s := if s.pair.drill = 2 then s.drillEnd srv_SVRES_REFUSED 7 else s
    .next (if s.on uSrv srv_SVSTAT_SERVEI then s.contend s.tick else s)

/-! Handover (R499, R500). -/

/-- OFFER_MESSAGE: the primed partner enters RUN and takes the serve at V; trigger 3 needs its arms (R495). -/
def execOfferMessage (t : Nat) (w0 w1 w2 w3 : Word) (s : State) : Host.Outcome State Fault Refusal :=
  let s := s.at t
  if !s.hears then .next s
  else if !(goodMsg 3 w0 w1 w2 w3) then .next s.msgDrop
  else
    let ready := s.primed
    let s := s.hear 3 w0 w1 w2
    if !(s.inMode .shadow) || s.pair.take.isSome then .next s
    else if s.armed 3 && ready then
      let v := s.tick + unsigned 32 ((w2.toNat : Int) - s.stamp)
      .next ((((s.modPair fun h => { h with offerV := some v }).enterMode .run 2 0)).useUnits)
    else .next s.unarmed

/-- HANDOVER_TAKE: at its tick V the standby takes the serve. For the holder of a drill it is the second handover (R506). -/
def execHandoverTake (t : Nat) (s : State) : Host.Outcome State Fault Refusal :=
  let s := s.at t
  match s.pair.offerV with
  | none => .next s
  | some v =>
    if !(s.inMode .run) || !(s.due v) then .next s else
    let s := (s.modPair fun h => { h with offerV := none }).takeServe
    .next (if s.pair.drill = 2 then (s.drillEnd srv_SVRES_DONE 0).msgFollow else s)

/-- The releaser lets go (R499): AUTH falls, the serve is given up, and HANDOVER is raised. The ticks of the let are four
samples and up to 50 ns, a free value within its bound. -/
def State.letGo (s : State) : State :=
  let let_ := 3 + (Config.freeWord s.freeCtr).toNat % 21
  let s := ({ s with freeCtr := s.freeCtr + 1 }.giveServe).raise uSrv 6
  (s.modPair fun h => { h with release := none }).set uSrv srv_LETLAST_TICKS let_

/-- SERVE_IN_RISE: SERVE_IN has been high at four consecutive samples. A releaser lets go, and a device in SAFE-HOLD with AUTH
high acts as one (R499); for another holder with AUTH high contention began at the first of them (R501). -/
def execServeInRise (t : Nat) (s : State) : Host.Outcome State Fault Refusal :=
  let s := (s.at t).set uSrv srv_SVSTAT_SERVEI 1
  if s.pair.release.isSome then
    let d := s.pair.drill
    let s := s.letGo.enterMode .shadow (if d = 0 then 0 else 2) 0
    if d = 1 then .next (s.modPair fun h => { h with drill := 2 })
    else if d = 3 then
      let s := s.modPair fun h => { h with drill := 0, passedAt := some s.tick }
      .next (s.raise uSrv 7)
    else .next s.transDone
  else if s.inMode .safeHold && s.on uSrv srv_SVSTAT_AUTH then .next s.letGo
  else if s.on uSrv srv_SVSTAT_AUTH && s.on uSrv srv_SVSTAT_TOKEN then .next (s.contend (s.tick - 3))
  else .next s

/-- HANDOVER_DEADLINE: SERVE_IN is not high by V + 40 (R499, R506). -/
def execHandoverDeadline (t : Nat) (s : State) : Host.Outcome State Fault Refusal :=
  let s := s.at t
  match s.pair.release with
  | none => .next s
  | some v =>
    if !(s.due (v + 40)) then .next s else
    let d := s.pair.drill
    let s := s.modPair fun h => { h with release := none }
    if d = 1 then .next (s.drillEnd srv_SVRES_ABORTED 6).msgFollow
    else if d = 3 then .next ((s.modPair fun h => { h with drill := 0 }).faultR uSrv 0x0C11 1)
    else .next (s.preempt 6)

/-- A running carrier takes a valley on tick `v`: where its own valleys lie more than 2 ticks off, the period in progress begins there
(R485). The spec does not say how fast the carrier follows: it does so at once (DESIGN CHOICE, log entry 131). -/
def State.rephase (s : State) (st v : Nat) : State :=
  let h := s.tr st
  let off := (((v : Int) - h.valley) % (h.len : Int)).toNat
  if h.len = 0 || off ≤ 2 || h.len ≤ off + 2 then s
  else if s.tick < v + h.len / 2 then
    s.modTr st fun h => { h with valley := v, next := some (v + h.len / 2), nextPeak := true }
  else s.modTr st fun h => { h with valley := v, next := some (v + h.len), nextPeak := false }

/-- CARRIER_SYNC_RECEIVE: in SHADOW the device's own running carrier takes the partner's valley, `delay` 1/32 ticks before the
sync slot, less the latency (R485). DCL and BRK have no carrier of their own. -/
def execCarrierSyncReceive (t st delay : Nat) (s : State) : Host.Outcome State Fault Refusal :=
  let s := s.at t
  let st := st % 9
  if s.inMode .shadow && s.on uRly rly_RLSTAT_TRAINED && st ≠ 2 && s.lead st = st && s.carrierRuns st then
    .next (s.rephase st (s.tick - (delay + s.get uRly rly_RLLAT_LAT + 16) / 32))
  else .next s

/-! Contention, decided (R501). -/

/-- The tick of a decision: contention, and `d` ticks since it began. -/
def State.contAt (s : State) (d : Nat) : Bool :=
  match s.pair.cont with
  | some c => s.due (c + d)
  | none => false

/-- Does the device withdraw at the first decision? -/
def State.losesClaim (s : State) : Bool :=
  let pri := s.on uSrv srv_SVSTAT_PRI
  let own := s.get uSrv srv_SVSEQ_SEQ
  match s.pair.claimAt, s.pair.cont with
  | some (a, q), some c =>
    if q = s.get uSrv srv_SVPSEQ_SEQ && c ≤ a + s.get uRly rly_RLHB_HBPER then own < q || (own = q && !pri) else !pri
  | _, _ => !pri

/-- CONTENTION_DECISION: at c0 + 40; `high` says whether SERVE_IN has been high at every sample. -/
def execContentionDecision (t : Nat) (high : Bool) (s : State) : Host.Outcome State Fault Refusal :=
  let s := s.at t
  if !(s.contAt 40) then .next s
  else if !high then .next (s.contEnd.set uSrv srv_SVSTAT_SERVEI 0)
  else .next (if s.losesClaim then s.withdraw else s)

/-- CONTENTION_BACKSTOP: at c0 + 72. -/
def execContentionBackstop (t : Nat) (high : Bool) (s : State) : Host.Outcome State Fault Refusal :=
  let s := s.at t
  if !(s.contAt 72) then .next s
  else if !high then .next (s.contEnd.set uSrv srv_SVSTAT_SERVEI 0)
  else .next (if s.on uSrv srv_SVSTAT_PRI && !(s.on uSrv srv_SVSTAT_PRICONF) then s else s.withdraw)

/-- CONTENTION_LIMIT: at c0 + 400. -/
def execContentionLimit (t : Nat) (high : Bool) (s : State) : Host.Outcome State Fault Refusal :=
  let s := s.at t
  if !(s.contAt 400) then .next s
  else if !high then .next (s.contEnd.set uSrv srv_SVSTAT_SERVEI 0)
  else .next (((s.withdraw.set uSrv srv_SVSTAT_PRICONF 1).raise uSrv 9).fault uSrv 0x0C12)

/-- READBACK_FAILURE (R477): both balls fall, the serve is given up, and RBFAIL takes SEL0. -/
def execReadbackFailure (t : Nat) (s : State) : Host.Outcome State Fault Refusal :=
  let s := s.at t
  let s := s.giveServe.contEnd.modPair fun h => { h with flt := true }
  .next ((s.raise uSrv 8).faultR uSrv 0x0C10 0).msgFollow

/-! The swap drill (R505, R506). -/

/-- SVCMD.DRILL. -/
def State.swapDrill (s : State) : State :=
  let refuse := fun c => (s.cause uSrv srv_SVRES_CAUSE c).cor uSrv srv_SVRES_REFUSED 1
  let w := s.pair.msg
  let fast := (List.range 2).any fun st => s.get uSrv srv_SVCFG_DRSPD < (s.geti (uStage st) trac_TSPD_SPEED).natAbs
  if !(s.inMode .run) || !(s.on uSrv srv_SVSTAT_TOKEN) || s.trans.isSome then refuse 1
  else if !(s.on uRly rly_RLSTAT_UP && s.on uRly rly_RLSTAT_PRXOK) then refuse 2
  else if !(s.pair.heard && bits w 24 4 = Mode.shadow.code && w.getLsbD 17 && w.getLsbD 16) then refuse 3
  else if fast then refuse 4
  else
    let arm := s.getW (uSrv.addr srv_TAKEOVER_ARM_ARM.off)
    let s := (s.modPair fun h => { h with drill := 1, armBefore := arm }).set uSrv srv_SVCMD_DRILL 1
    (s.setW (uSrv.addr srv_TAKEOVER_ARM_ARM.off) 15).msgFollow.handover

/-- DRILL_TEST_END, at the tested partner: DRTIME ms after it took the serve it hands it back, or a test has failed, and it records
DRILLFAIL under SEL1 and declares FLT. -/
def execDrillTestEnd (t : Nat) (pass : Bool) (s : State) : Host.Outcome State Fault Refusal :=
  let s := s.at t
  if !(s.inMode .run) || !(s.on uSrv srv_SVSTAT_TOKEN) || s.pair.drill ≠ 0 || s.pair.release.isSome then .next s
  else if !pass then .next ((s.modPair fun h => { h with flt := true }).faultR uSrv 0x0C11 1).msgFollow
  else if s.due (s.pair.tookAt + ms (atLeast1 (s.get uSrv srv_SVCFG_DRTIME))) then
    .next ((s.modPair fun h => { h with drill := 3 }).handover)
  else .next s

/-- SVCMD.DRILL written; one that reads 1 already starts nothing (R95). -/
def State.swapDrillCmd (s : State) : State := if s.on uSrv srv_SVCMD_DRILL then s else s.swapDrill

end Sys2Proof.Machine
end

