-- ==== Sys2Proof/Machine/Reads.lean ====
section
/-!
DEFINITION. The words that reads of unit registers return where State holds their causes and not the words: the common header
(R88, R14), the directories (R21), the vector and source summaries (R124, R125), and the live status of the subject chapters.
-/

namespace Sys2Proof.Machine

/-- A word with fields replaced. -/
def putAll (w : Word) (l : List (Fld × Nat)) : Word := l.foldl (fun w p => p.1.put w p.2) w

/-- The number whose bits below `n` a test gives. -/
def bitMap (n : Nat) (f : Nat → Bool) : Nat := (List.range n).foldl (fun m i => if f i then m + 2 ^ i else m) 0

/-- A bit as a number. -/
def bitOf (b : Bool) : Nat := if b then 1 else 0

/-! The header. -/

/-- UID (R88). -/
def Unit.uid (u : Unit) : Word :=
  BitVec.ofNat 32 (bitOf u.kind.isShell * 2 ^ 31 + u.kind.family * 2 ^ 26 + u.kind.code * 2 ^ 20 + u.inst * 2 ^ 8 + 0xB0)

/-- UDIR (R88). -/
def Unit.udir (u : Unit) : Word :=
  let p := match u.parent with
    | some v => v.page
    | none => 0
  BitVec.ofNat 32 (u.kind.level * 2 ^ 29 + p * 2 ^ 12 + u.children.length)

/-- An entry of a directory of units (R21). -/
def dirWord (l : List Unit) (n : Nat) : Word :=
  match l[n]? with
  | some u => BitVec.ofNat 32 (2 ^ 31 + u.page * 2 ^ 12)
  | none => 0

/-- Lacks an enabled unit the pool region that it needs (R38, R412)? -/
def State.lacksRegion (s : State) (u : Unit) : Bool :=
  match u.kind with
  | .scb => (s.region (0x30 + u.inst)).isNone
  | .cn => (s.region (0x20 + u.inst)).isNone
  | .cv => (s.region (0x10 + u.inst)).isNone &&
      (List.range 32).any fun k => s.on u (cv_QSLOTA_EN k) && s.on u (cv_QSLOTA_REC k)
  | .rly => (s.region 0x40).isNone
  | .led => s.ledRegion.isNone
  | _ => false

/-- Is an enabled unit calibrating or locking: a converter in its calibration (R409), or the timebase without lock or while the
interpolators calibrate (R52, R54)? -/
def State.starting (s : State) (u : Unit) : Bool :=
  match u.kind with
  | .cv => s.on u cv_CVSTAT_CALIB
  | .tbase => !s.locked || s.inMode .calibrate
  | _ => false

/-- Are the outputs of an enabled unit inhibited while its inputs and its state are valid (R13): the balls of a leg, a phase or a
commutation kernel by the mode or by a turn-off (R79, R267), a safe output by the mode, STO or its fault (R79, R514, R533), the
transmitter of a CAN controller by the mode (R79)? -/
def State.inhibited (s : State) (u : Unit) : Bool :=
  let balls := fun (st : Nat) => !(s.ballsAllowed st) || s.gstate (s.lead st) ≠ 0 || s.sto
  let i := u.inst
  match u.kind with
  | .leg => balls (i / 8)
  | .phase => balls 2
  | .cm => balls (5 + i)
  | .so => !(s.soAllowed i) || (s.sto && s.on u so_SOCFG_STO) || s.on u so_SOSTAT_FLT
  | .cn => !s.canMode
  | _ => false

/-- The own level of an enabled unit (R13, R14; log entry 9): STARTING with a failed check, without its pool region or while it
calibrates or locks; MEASURING while its outputs are inhibited; else ACTIVE. -/
def State.ownLevel (s : State) (u : Unit) : Nat :=
  if s.failedCheck.contains u.page || s.lacksRegion u || s.starting u then 1
  else if s.inhibited u then 2
  else 3

/-- The readiness of a unit whose descendants are at most `n` levels down (R14). -/
def State.readyN (s : State) : Nat → Unit → Nat
  | 0, u => if s.enabled u then s.ownLevel u else 0
  | n + 1, u =>
    if !(s.enabled u) then 0
    else if !u.kind.isShell then s.ownLevel u
    else
      match (u.children.filter s.enabled).map (s.readyN n) with
      | [] => 0
      | l => l.foldl min (s.ownLevel u)

/-- USTAT.READY. -/
def State.readiness (s : State) (u : Unit) : Nat := s.readyN 4 u

/-- USTAT.FSUM: the fault of the unit or of any descendant, enabled or not (R14). -/
def State.fsum (s : State) (u : Unit) : Bool := u.subtree.any fun v => s.on v hdr_USTAT_OWNF

/-! The router. -/

/-- VSUM of a vector (R125, R129). -/
def State.vsum (s : State) (v : Nat) : Word :=
  match s.pendingSources.filter fun p => s.vecOf p.2 = v with
  | [] => 0
  | p :: l => BitVec.ofNat 32 (2 ^ 31 + (l.length + 1) * 2 ^ 16 + p.1)

/-- VECPEND of 32 vectors from a first one (R125). -/
def State.vecPend (s : State) (v0 : Nat) : Word :=
  let l := s.pendingSources.map fun p => s.vecOf p.2
  BitVec.ofNat 32 (bitMap 32 fun v => l.contains (v0 + v))

/-- SRCMAP of two sources (R124, R129). -/
def srcMap (m : Nat) : Word :=
  let half := fun (n : Nat) => match unitOfSource n with
    | some u => 2 ^ 15 + u.page
    | none => 0
  BitVec.ofNat 32 (half (2 * m + 1) * 2 ^ 16 + half (2 * m))

/-! Status of the subject chapters. -/

/-- GSTAT of a stage (R281); in SIX, TB's is TA's (R261). -/
def State.gstatWord (s : State) (st : Nat) : Word :=
  let g := s.lead st
  putAll (s.getW ((uStage g).addr 0x240)) [(stg_GSTAT_ACTIVE, bitOf (s.srcNow g)), (stg_GSTAT_RETRIES, (s.grantsNow g).length)]

/-- Is a per-switch return active now? -/
def State.returnOn (s : State) (st k : Nat) : Bool := s.srcActive.contains (.sw st k)

/-- LSTAT of a leg (R282). A leg of BRK has one switch, its high side. -/
def State.lstatWord (s : State) (i : Nat) : Word :=
  let st := i / 8
  let leg := i % 8
  let h := if st = 8 then leg else 2 * leg
  let low := st ≠ 8
  putAll 0 [(leg_LSTAT_BLANKL, bitOf (low && s.blanked st (h + 1))), (leg_LSTAT_BLANKH, bitOf (s.blanked st h)),
    (leg_LSTAT_RDY, bitOf (!(hasReady st leg && s.notReady.contains i))),
    (leg_LSTAT_FRL, bitOf (low && s.returnOn st (h + 1))), (leg_LSTAT_FRH, bitOf (s.returnOn st h)),
    (leg_LSTAT_CMDL, bitOf (low && s.ball st (h + 1))), (leg_LSTAT_CMDH, bitOf (s.ball st h))]

/-- A register of a stage page. In SIX the status of TB's position supervisor and of its protection reads TA's, and TB's MACH
always does (R228, R261). -/
def State.stageWord (s : State) (st o : Nat) (w : Word) : Word :=
  let ta := s.getW ((uStage 0).addr o)
  if o = 0x240 then s.gstatWord st
  else if st = 1 && o = 0x80 then trac_TCFG_MACH.put w (trac_TCFG_MACH.get ta)
  else if st = 1 && s.six && (o = 0x120 || o = 0x128 || o = 0x12C || (0x280 ≤ o && o < 0x2C0)) then ta
  else if st = 8 && o = brk_LSTAT_CHOP.off then brk_LSTAT_CHOP.put w (bitOf s.chopping)
  else if st = 8 && o = brk_LONTIME_TICKS.off then BitVec.ofNat 32 (w.toNat + s.chopTicks s.tick)
  else w

/-- SVSTAT with STATE and PRIMED (R475, R476, R493, R506). -/
def State.svstatWord (s : State) (w : Word) : Word :=
  let tok := s.on uSrv srv_SVSTAT_TOKEN
  let st := if s.pair.drill ≠ 0 then 6
    else if s.pair.take.isSome then 3
    else if s.pair.release.isSome then 4
    else if s.inMode .safeHold && s.on uSrv srv_SVSTAT_AUTH then 5
    else if s.inMode .shadow then 1
    else if tok then 2 else 0
  putAll w [(srv_SVSTAT_PRIMED, bitOf s.primed), (srv_SVSTAT_STATE, st)]

/-- DRELAPSE (R507): seconds since this device last passed as the tested partner. -/
def State.drelapse (s : State) : Nat :=
  match s.pair.passedAt with
  | none => 0xFFFFFFFF
  | some a => min 0xFFFFFFFF ((s.tick - a) / 400000000)

/-- The blocks that no valid entry holds (R34). -/
def State.freeBlocks (s : State) : Nat :=
  4096 - ((List.range 64).filter fun n => s.on uPalloc (palloc_ALLOCB_VALID n)).foldl
    (fun b n => b + s.get uPalloc (palloc_ALLOCA_SIZEM1 n) + 1) 0

/-- The four bits of an arena in WINSUM (R206). -/
def State.winBits (s : State) (a : Nat) : Nat :=
  s.get (uQuad a) (arq_ASTAT_WIN (a % 4)) % 8 + 8 * s.get (uQuad a) (arq_ASTAT_EMPTY (a % 4))

/-- WINSUM of eight arenas from a first one. -/
def State.winSum (s : State) (a0 : Nat) : Word :=
  BitVec.ofNat 32 ((List.range 8).foldl (fun m i => m + s.winBits (a0 + i) * 16 ^ i) 0)

/-- TRKSTAT (R199, R207). -/
def State.trkWord (s : State) (p : Nat) (w : Word) : Word :=
  match s.podEntry p with
  | some (a, c) => putAll w [(pod_TRKSTAT_MEMBER, 1), (pod_TRKSTAT_ARENA, a), (pod_TRKSTAT_COMP, c)]
  | none => putAll w [(pod_TRKSTAT_MEMBER, 0), (pod_TRKSTAT_ARENA, 0), (pod_TRKSTAT_COMP, 0)]

/-- SOSUM (R548). -/
def State.soSum (s : State) : Word :=
  putAll 0 [(sos_SOSUM_FAULT, bitMap 8 fun k => s.on (uSo k) so_SOSTAT_FLT),
    (sos_SOSUM_TEST, bitMap 8 fun k => (s.so k).phase ≠ 0), (sos_SOSUM_ON, bitMap 8 fun k => s.on (uSo k) so_SOSTAT_CMD)]

/-- GSUM (R283). -/
def State.gsum (s : State) : Word :=
  putAll 0 [(gcu_GSUM_LATCH, bitMap 9 s.glatch), (gcu_GSUM_OFF, bitMap 9 fun st => s.gstate st ≠ 0)]

/-- The word of a unit's own register at an offset below 0x800, from what State stores there. -/
def State.liveWord (s : State) (u : Unit) (o : Nat) (w : Word) : Word :=
  let i := u.inst
  match u.kind with
  | .sys => if 0x80 ≤ o && o < 0xC0 then dirWord rootUnits ((o - 0x80) / 4) else w
  | .cad => if o = 0x44 && s.cadRuns i && (s.cad i).slaved then BitVec.ofNat 32 ((s.cadInterval i).getD 0) else w
  | .router =>
    if o = 0x40 then s.vecPend 0 else if o = 0x44 then s.vecPend 32
    else if 0x200 ≤ o && o < 0x300 then s.vsum ((o - 0x200) / 4)
    else if 0x400 ≤ o then srcMap ((o - 0x400) / 4) else w
  | .pod => if o = 0x150 then s.trkWord i w else w
  | .arenaShell => if o = 0x80 then s.winSum 0 else if o = 0x84 then s.winSum 8 else w
  | .stage => s.stageWord i o w
  | .leg => if o = 0x40 then s.lstatWord i else w
  | .gcu => if o = 0x80 then s.gsum else w
  | .chan => if o = 0xB0 then fb_CHSTAT_EMUHOLD.put w (bitOf (s.emuHold i)) else w
  | .sos => if o = 0x8C then s.soSum else w
  | .srv => if o = 0x50 then s.svstatWord w else if o = 0x78 then BitVec.ofNat 32 s.drelapse else w
  | .palloc => if o = 0x44 then BitVec.ofNat 32 s.freeBlocks else w
  | _ => w

/-! Wide values (R107). -/

/-- A ledger count read in two words of the record of a slot (R561); 0 without a region. -/
def State.ledCount (s : State) (slot word : Nat) : Nat :=
  match s.ledRegion with
  | none => 0
  | some b =>
    let a := recAddr b slot + 4 * word
    let w := fun (a : Nat) => if s.cwGood (cwOfAddr a) then s.memWord a else 0
    wide64 (w a) (w (a + 4))

/-- The wide value whose LO word is at an address: TBCNT (R50), and LDAM and LCYC of the ledger slots (R561). The alias of a LO word
names no wide value (DESIGN CHOICE, log entry 128). -/
def State.wideAt (s : State) (a : Nat) : Option Nat :=
  if a = 0x1048 then some (s.tick % 2 ^ 64)
  else if 0x323100 ≤ a && a < 0x323280 && a % 8 = 0 then
    some (s.ledCount ((a - 0x323100) / 16) (if a % 16 = 0 then 2 else 4))
  else none

/-- Is test access on (R86)? -/
def State.testAccess (s : State) : Bool := s.on uSys sys_STRAPS_TMODE

/-- Do direct reads of wide values return 0 (R110)? -/
def State.wideZero (s : State) : Bool :=
  s.inMode .config || s.inMode .calibrate || s.inMode .safeHold || s.testAccess

/-- The word of a wide value at an address, if it holds one: LO at A, HI at A + 4; 0 in the modes of R110. -/
def State.wideWord (s : State) (a : Nat) : Option Word :=
  match s.wideAt a, s.wideAt (a - 4) with
  | some v, _ => some (if s.wideZero then 0 else BitVec.ofNat 32 v)
  | none, some v => some (if s.wideZero then 0 else BitVec.ofNat 32 (v / 2 ^ 32))
  | none, none => none

/-! A whole register. -/

/-- The word that a read of a unit's register at an offset below 0x800 returns (R88, R94, R96). -/
def State.regWord (s : State) (u : Unit) (o : Nat) : Word :=
  let w := s.getW (u.addr o)
  if o = 0 then u.uid
  else if o = 4 then u.udir
  else if o = 8 then putAll w [(hdr_USTAT_FSUM, bitOf (s.fsum u)), (hdr_USTAT_READY, s.readiness u)]
  else if o < 0x40 then w
  else if o < 0x80 && u.kind.isShell then dirWord u.children ((o - 0x40) / 4)
  else
    match s.wideWord (u.addr o) with
    | some v => v
    | none => extend (u.fieldsAt o) (s.liveWord u o w)

end Sys2Proof.Machine
end

