-- ==== Sys2Proof/Machine/Access.lean ====
section
/-!
DEFINITION. Accesses of one word (R85 to R112): decoding, service, reads with their side effects, writes by field kind, lock and
byte enables, what a written register sets off, and the commands that a CMD field issues. H-Link port 0 and 1 and, as port 2, the
actions of the sequencers (R432) make them.
-/

namespace Sys2Proof.Machine

/-! Ports and decoding. -/

/-- What of a port no register shows. -/
def State.port (s : State) (p : Nat) : PortH := sget (fun _ => {}) s.ports p

/-- The state with that of a port changed. -/
def State.modPort (s : State) (p : Nat) (f : PortH → PortH) : State :=
  { s with ports := sset (fun _ => {}) s.ports p (f (s.port p)) }

def uHp (p : Nat) : Unit := ⟨.hp, p % 2⟩

/-- What an address names (R85, R86): a register of a unit's page or of the mailbox page, bit 11 not decoded (R96), a signal's value
or directory entry (R27), a word of table memory or of the pool, or a test page. -/
inductive Target where
  | reg (u : Unit) (o : Nat)
  | mbx (o : Nat)
  | sig (n : Nat)
  | dir (n : Nat)
  | table
  | pool
  | test
deriving DecidableEq, Repr

/-- The decoding of an address; none where it is unmapped but for test access. -/
def targetOf (a : Nat) : Option Target :=
  if 0x1000000 ≤ a then none
  else if 0x354000 ≤ a && a < 0x358000 then some (.sig ((a - 0x354000) / 4))
  else if 0x358000 ≤ a && a < 0x35C000 then some (.dir ((a - 0x358000) / 4))
  else if 0x400000 ≤ a && a < 0x480000 then some .table
  else if 0x800000 ≤ a && a < 0xC00000 then some .pool
  else if a / 0x1000 = 0xF00 then some (.mbx (a % 0x800))
  else if 0xF01000 ≤ a then some .test
  else
    match unitAt (a / 0x1000) with
    | some u => some (.reg u (a % 0x800))
    | none => none

/-- The decoding in the present state: the test pages are mapped only under test access (R86). -/
def State.target (s : State) (a : Nat) : Option Target :=
  match targetOf a with
  | some .test => if s.testAccess then some .test else none
  | x => x

/-- The deepest variant of DORMANT in which a unit's page is served (R81). -/
def Unit.servedTo (u : Unit) : Nat :=
  match u.kind with
  | .sys | .tbase | .vmon | .router => 4
  | .cadShell | .cad | .pod => 1
  | .sigb => 3
  | k =>
    if k.family = 1 || k.family = 12 then 4
    else if k.family = 15 then 1
    else if k.family = 7 || k.family = 8 || k.family = 9 || k.family = 11 then 0
    else 3

/-- The same for an access. -/
def Target.servedTo : Target → Nat
  | .reg u _ => u.servedTo
  | .mbx _ | .test => 4
  | .sig _ | .dir _ => 3
  | .table | .pool => 1

/-- Is an access served (R81, R588)? Until the boot is over only the SYS page and the mailbox are. -/
def State.served (s : State) (x : Target) : Bool :=
  if s.boot ≠ .done then
    match x with
    | .reg u _ => u.kind = .sys
    | .mbx _ => true
    | _ => false
  else !(s.inMode .dormant) || (s.get uSys sys_MODESTAT_VARIANT).ble x.servedTo

/-! Locking (R97, R100). -/

/-- A page and the page of every descendant are locked (R97). -/
def State.lockUnit (s : State) (u : Unit) : State := forL u.subtree (fun v s => s.set v hdr_UCTL_LOCK 1) s

/-- An access meets LOCKALL in progress (R100, R101): which of the two is ordered first is open. -/
def State.lockMeets (s : State) (u : Unit) : State :=
  if s.lockBusy && !(s.on u hdr_UCTL_LOCK) then
    if (Config.freeWord s.freeCtr).getLsbD 0 then s.fresh.set u hdr_UCTL_LOCK 1 else s.fresh
  else s

/-- Is a unit's page locked? -/
def State.isLocked (s : State) (u : Unit) : Bool := s.on u hdr_UCTL_LOCK

/-! Clearing faults (R90). -/

/-- Is the cause of a unit's fault still present (R90)? -/
def State.causeStands (s : State) (u : Unit) : Bool :=
  let i := u.inst
  s.failedCheck.contains u.page ||
  match u.kind with
  | .pod => (s.pod i).reacted || s.on u pod_FESTAT_FOLLOW || (s.pod i).unfit
  | .lane => s.get u hdr_USTAT_STATE = 3
  | .laneShell => 1 < ((List.range 9).filter fun n => s.get (uLane n) hdr_USTAT_STATE = 3).length
  | .stage => i = 8 && s.on u brk_LSTAT_BRKFAIL
  | .reg => s.get u reg_RSTAT_STATE = 5 && s.regRequest ≠ 0
  | .sess => s.on u sess_SCTL_GRANT
  | .pair => s.on u pr_PSTAT_MISM
  | .cn => s.cnState i = 4 || s.cnState i = 5
  | .sq => s.on u sq_SQSTAT_STOPPED
  | .so => s.soPresent i
  | .sfk => s.sfk.viol ≠ 0 || s.sfk.disc ≠ 0 || s.sfk.srcBad
  | .dgk => s.tbBad ≠ 0 || s.get u dgk_DGSTAT_SUPPLY ≠ 0 || s.lossNow ≠ 0
  | .vmon => !(s.causeGone 4)
  | .pscrub => s.uncorr ≠ [] || s.sigBad
  | _ => false

/-- FCLR at the BRK shell (R275, R291): the latch clears first, and BRKFAIL once its cause has gone; OWNF stands while either does. -/
def State.brkFclr (s : State) : State :=
  if s.failedCheck.contains uBrk.page then s else
  let own := s.get uBrk hdr_USTAT_OWNF
  let s := (s.stageFclr 8).brkClear
  if s.on uBrk brk_LSTAT_BRKFAIL then s.set uBrk hdr_USTAT_OWNF own else s

/-- FCLR at one unit: OWNF clears where the cause has gone, with what the unit's chapter adds (R275, R291, R318, R358, R387, R506,
R533). A fault of the same tick leaves OWNF at 1 (R101). -/
def State.fclrOne (s : State) (u : Unit) : State :=
  let i := u.inst
  if s.noted (0x2000000 + u.page) then s else
  if u = uBrk then s.brkFclr else
  if s.causeStands u then s else
  match u.kind with
  | .stage =>
    let s' := s.stageFclr i
    if 5 ≤ i && i ≤ 7 && s.glatch i && !(s'.glatch i) then s'.cmUnlatch (i - 5) else s'
  | .reg =>
    let s := s.set u hdr_USTAT_OWNF 0
    if s.get u reg_RSTAT_STATE = 5 then s.regSetState 0 else s
  | .cm => s.cmFclr i
  | .chan => s.chFclr i
  | .so => (s.set u hdr_USTAT_OWNF 0).soFclr i
  | .srv => ((s.set u hdr_USTAT_OWNF 0).modPair fun h => { h with flt := false }).msgFollow
  | _ => s.set u hdr_USTAT_OWNF 0

/-- UCTL.FCLR: the unit and each descendant in turn (R90). -/
def State.fclr (s : State) (u : Unit) : State :=
  let s := forL u.subtree (fun v s => s.fclrOne v) s
  { s with outHold := s.outHold.filter fun h => !(u.subtree.any fun v => v.page = h.1 && !(s.on v hdr_USTAT_OWNF)) }

/-! Reads. -/

/-- The codeword of pod state memory that a register lies in (R569). -/
def Unit.codeword (u : Unit) (o : Nat) : Option Nat := if u.kind = .pod then cwOfPod u.inst o else none

/-- A COR register has been read: exactly the bits returned clear, but not in BRV-5210 status mode (R94, R98). -/
def State.corRead (s : State) (u : Unit) (o : Nat) : State :=
  let m := kindMask .cor (u.fieldsAt o)
  if m = 0 || s.stmode then s else s.setW (u.addr o) (s.getW (u.addr o) &&& ~~~m)

/-- A read of a unit's register: its word, and whether it is served (R94, R572). -/
def State.readReg (s : State) (u : Unit) (o : Nat) : (Word × Bool) × State :=
  let s := (s.awaitReset u).lockMeets u
  let (ok, s) := match u.codeword o with
    | some c => s.decode c
    | none => (true, s)
  if ok then
    let w := s.regWord u o
    ((w, true), s.corRead u o)
  else ((0, false), s)

/-- A read of what an address names. -/
def State.readTarget (s : State) (x : Target) (a : Nat) : (Word × Bool) × State :=
  match x with
  | .reg u o => s.readReg u o
  | .mbx o => ((s.getW (0xF00000 + o), true), s)
  | .sig n => let s := s.sigParity n; ((s.sig n, true), s)
  | .dir n => ((s.getW (dirAddr n), true), s)
  | .table | .pool =>
    let (ok, s) := s.decode (cwOfAddr a)
    ((if ok then s.memWord a else 0, ok), s)
  | .test => ((0, false), s)

/-- The HI word that a read of its LO word latches for the reading frame: of a wide value (R107), or of an accumulator (R155). -/
def State.hiOf (s : State) (a : Nat) : Option Word :=
  match targetOf a with
  | some (.reg u o) =>
    if (s.wideAt (u.addr o)).isSome || (u.kind = .pod && 0x300 ≤ o && o < 0x380 && o % 8 = 0) then some (s.regWord u (o + 4))
    else none
  | _ => none

/-- A read of one word through a port: the word and its outcome (0 good, 1 REFUSED, 4 ADDR), with ACCERR (R106). -/
def State.hostRead (s : State) (p a : Nat) : (Word × Nat) × State :=
  match s.target a with
  | none => ((0, 4), s.accErr p a 2)
  | some x =>
    if !(s.served x) then ((0, 1), s.accErr p a 3) else
    let lat := (s.port p).latch
    let ((w, ok), s) := s.readTarget x a
    let w := match lat with
      | some (b, v) => if b = a then v else w
      | none => w
    let s := s.modPort p fun h => { h with latch := (s.hiOf a).map fun v => (a + 4, v) }
    if ok then ((w, 0), s) else ((0, 1), s.accErr p a 3)

/-! Writes: the bits that take the written value. -/

/-- The mask of the enabled bytes (R103). -/
def beMask (be : Nat) : Word := (List.range 4).foldl (fun m k => if be.testBit k then m ||| fieldMask (8 * k) 8 else m) 0

/-- The register is hardware-updated RW (R101): GAIN, NODE and ACC words of a pod, request words, CHPOSOFS, KCTL and KPOS, CALF and
CVRDPTR. -/
def Unit.hwUpdated (u : Unit) (o : Nat) : Bool :=
  match u.kind with
  | .pod => (0xE0 ≤ o && o < 0x100) || (0x200 ≤ o && o < 0x380)
  | .arenaQuad => 0x40 ≤ (o - 0x100) % 0x80 && (o - 0x100) % 0x80 < 0x60
  | .chan => o = 0x94
  | .ck => o = 0x40 || o = 0x44
  | .cv => o = 0x50 || o = 0x68
  | _ => false

/-- The step by which a counter that hardware stepped on this tick is past the written value (R101, R368, R392). -/
def State.cntStep (s : State) (u : Unit) : Int :=
  match u.kind with
  | .dec => if (s.ch u.inst).down then -1 else 1
  | .cm => if s.cmDir u.inst then -1 else 1
  | _ => 1

/-- The fields of a register that a write may change: TB's MACH is read-only (R228). -/
def Unit.writable (u : Unit) (o : Nat) : Word :=
  if u = uStage 1 && o = 0x80 then 0xFFFFFFFE else 0xFFFFFFFF

/-- The mask of the RW fields of a register and, where its page is not locked, of its RWL fields. -/
def State.rwMask (s : State) (u : Unit) (o : Nat) : Word :=
  let fs := u.fieldsAt o
  (kindMask .rw fs ||| if s.isLocked u then 0 else kindMask .rwl fs) &&& u.writable o

/-- RW, RWL and CNT fields take the enabled bytes of a written word (R94, R101, R103). -/
def State.storeReg (s : State) (u : Unit) (o : Nat) (w em : Word) : State :=
  let fs := u.fieldsAt o
  let a := u.addr o
  let rw := s.rwMask u o &&& em
  let cnt := kindMask .cnt fs &&& em
  let old := s.getW a
  let put := fun (x : Word) => (x &&& ~~~(rw ||| cnt)) ||| (w &&& (rw ||| cnt))
  -- a count of this tick counts once, after the write, whichever was first
  let v := match fs.find? fun f => f.kind = .cnt with
    | some f =>
      if cnt ≠ 0 && s.noted a then
        let g : Fld := ⟨o, f.lo, f.w⟩
        let v := put (g.put old (unsigned f.w (g.get old - s.cntStep u)))
        g.put v (unsigned f.w (g.get v + s.cntStep u))
      else put old
    | none => put old
  let s := if rw ≠ 0 && u.hwUpdated o && s.noted a then s.lostUpd u else s
  { s.setW a v with wrote := noteAt s.now a s.wrote }

/-! Writes that a chapter refuses. -/

/-- A write that is refused whatever its value: program, binding and state words of an enabled pod (R154), the configuration of an
armed scorebook (R223), a requested transmit buffer (R462). -/
def State.writeRefused (s : State) (u : Unit) (o : Nat) : Bool :=
  match u.kind with
  | .pod => s.enabled u && (o = 0x58 || (0x70 ≤ o && o < 0xE0) || (0x200 ≤ o && o < 0x380) || 0x400 ≤ o)
  | .scb => s.on u scb_SCTL_ARM && ((0x40 ≤ o && o < 0x58) || (0x80 ≤ o && o < 0xC0))
  | .cn => 0x100 ≤ o && o < 0x280 && s.on u (cn_TXCMD_REQ ((o - 0x100) / 0x80)) &&
      (let r := (o - 0x100) % 0x80
       r = 0 || r = 4 || 0x40 ≤ r)
  | _ => false

/-! What a written register sets off. -/

/-- One fixed bit of a register as written and not as before. -/
def changed (f : Fld) (old new : Word) : Bool := f.get old ≠ f.get new

/-- Every COR field that is set starts its hold (R98): each event bit has one of its own. -/
def State.holdAll (s : State) : State :=
  forL (s.regs.map (·.1)) (fun a s =>
    match unitAt (a / 0x1000) with
    | none => s
    | some u =>
      let o := a % 0x1000
      if o = 0x10 then forN 32 (fun b s => s.holdSet u ⟨0x10, b, 1⟩) s
      else forL ((u.fieldsAt o).filter (·.kind = .cor)) (fun f s => s.holdSet u ⟨o, f.lo, f.w⟩) s) s

/-- After a write of CFG: BRV-5210 status mode begins with a hold for every COR field that is set, and ends without holds (R98). -/
def State.stmodeWritten (s : State) (was : Bool) : State :=
  if s.stmode = was then s else if s.stmode then s.holdAll else { s with holds := [] }

/-- What follows a write of a unit's register, once its fields hold the written values; `old` is the word before. Bindings first
(R29), then what each chapter ties to the register. -/
def State.afterWrite (s : State) (u : Unit) (o : Nat) (old : Word) : State :=
  let i := u.inst
  let s := s.rebind u o old
  let new := s.getW (u.addr o)
  match u.kind with
  | .sys => if o = sys_CFG_STMODE.off then s.stmodeWritten (sys_CFG_STMODE.get old ≠ 0) else s
  | .srv => if o = 0x44 then s.msgFollow else s
  | .vmon => if o = 0x48 then (s.set u vmon_VCWARN_MV (clamp 705 800 (s.get u vmon_VCWARN_MV))).vcoreWarn else s
  | .hp => if o = 0x40 then s.modPort i fun h => { h with stored := none } else s
  | .pod => if o = 0x180 && !(s.on u pod_FECFG_EN) then s.followClear i else s
  | .arenaQuad =>
    let j := (o - 0x100) / 0x80
    let a := 4 * i + j
    let r := (o - 0x100) % 0x80
    if o < 0x100 then s
    else if r = 0 then (if changed (arq_ACFG_EN j) old new then s.arenaToggled a else s)
    else if 0x20 ≤ r && r < 0x40 then s.acompWritten a ((r - 0x20) / 4) old
    else if 0x40 ≤ r && r < 0x60 then s.decide a
    else s
  | .stage =>
    if o = 0x80 && i = 0 then s.machWritten.settle
    else if o = 0x84 && i ≤ 1 then (s.tcarWritten i).settle
    else if o = 0x84 && (i = 3 || i = 4) then (s.ocarWritten i).settle
    else if o = 0xBC && i = 8 then s.outputs
    else if i = 8 && (o = brk_LCFG_EN.off || o = brk_LCHOP_EN.off || o = brk_LCHOPT_MINON.off) then s.chopSettle
    else if o = 0x210 || o = 0x214 then s.tripCheck (s.lead i)
    else s
  | .reg => if o = 0x84 || o = 0x88 || o = 0xB4 || o = 0xB8 then s.regUpdate else s
  | .ppx => if o = 0x40 || o = 0x44 then s.outputs else s
  | .cm => if o = 0x44 then s.settle else if o = 0x74 then s.cmFrz i else s
  | .sess => if o = 0x40 || o = 0x44 || o = 0x48 || o = 0x4C then s.outputs else s
  | .chan => if o = 0x80 then s.chCheck i else s
  | .dec => if o = 0x40 then s.drawPreset i else s
  | .ck =>
    if (o = 0x40 && old.getLsbD 0 = false && new.getLsbD 0) || (o = 0x44 && s.on u ck_KCTL_ARM) then s.compareArmed i else s
  | .adc => if 0x100 ≤ o && changed ⟨o, 0, 32⟩ old new then s.gainWritten ((o - 0x100) / 4) else s
  | .cv =>
    if o = 0x68 then s.rdptrWritten i
    else if 0x104 ≤ o && o < 0x204 && o % 8 = 4 && changed (cv_QSLOTB_FK ((o - 0x104) / 8)) old new then
      s.modCv i fun h => { h with filt := serase h.filt ((o - 0x104) / 8) }
    else s
  | .so => if o = 0x40 || o = 0x44 then s.outputs else s
  | .ssv => if o = 0xA0 then s.stoLevels (s.on u ssv_STOSTAT_INA) (s.on u ssv_STOSTAT_INB) else s
  | .dgk => s.lossFollow
  | .loss =>
    let k := (o - 0x100) / 0x20
    if 0x100 ≤ o && (o - 0x100) % 0x20 = 0 && !(old.getLsbD 31) && new.getLsbD 31 then s.slotStart k else s
  | _ => s

/-! Commands (R94, R95). -/

/-- Does a write issue a CMD field: does an enabled byte of it hold a 1? -/
def issued (f : Fld) (w em : Word) : Bool := f.get (w &&& em) ≠ 0

/-- Does a write hold 0 for a CMD field in enabled bytes? -/
def dropped (f : Fld) (w em : Word) : Bool := f.get em ≠ 0 && f.get (w &&& em) = 0

/-- A one-word command with an abort. -/
def State.cmd (s : State) (f : Fld) (w em : Word) (go stop : State → State) : State :=
  if issued f w em then go s else if dropped f w em then stop s else s

/-- SYNCSTART and SYNCSTOP (R59). -/
def State.syncStart (s : State) (mask : Nat) : State :=
  forN 16 (fun n s => if mask.testBit n then s.cadStart n (s.tick + 1) else s) s
def State.syncStop (s : State) (mask : Nat) : State :=
  forN 16 (fun n s => if mask.testBit n && s.cadRuns n then s.cadStop n else s) s

/-- The commands of a written register other than UCTL, on the values that its page now holds (R95). -/
def State.commands (s : State) (u : Unit) (o : Nat) (w em : Word) : State :=
  let i := u.inst
  let no := fun (s : State) => s
  match u.kind with
  | .sys => if o = 0xC4 then s.cmd sys_MODECMD_GO w em State.modeCommand no else s
  | .cadShell =>
    if o = 0x80 then s.syncStart (cadsh_SYNCSTART_MASK.get (w &&& em))
    else if o = 0x84 then s.syncStop (cadsh_SYNCSTOP_MASK.get (w &&& em)) else s
  | .laneShell => if o = 0x88 then s.cmd lnsh_LBISTCMD_GO w em State.lbistStart no else s
  | .lane =>
    if o = 0x10C then s.cmd ln_MGCTL_CLR w em (fun s => s.gaugeClear i) no else s
  | .pod => if o = 0x10C then s.cmd pod_RAMPCTL_SEED w em (fun s => s.seedAsk i) no else s
  | .scb =>
    if o = 0x58 then
      let s := s.cmd scb_SCTL_ARM w em (fun s => s.arm i) fun s => s.disarm i
      s.cmd scb_SCTL_TRIG w em (fun s => s.bookTrig i) no
    else s
  | .stage =>
    if o = 0xF0 && i ≤ 1 then s.cmd trac_TPCTL_RESEL w em (fun s => s.set u trac_TPCTL_RESEL 1) no
    else if o = 0xC0 && i = 8 then s.cmd brk_LPRECMD_GO w em State.preGo State.preGoClear
    else if o = 0xC8 && i = 8 then s.cmd brk_LCONTCMD_OPEN w em State.contactorOpen no
    else s
  | .reg =>
    if o = 0xC0 then
      let s := s.cmd reg_RCTL_START w em State.regStart State.regStartClear
      s.cmd reg_RCTL_STOP w em State.regHostStop no
    else s
  | .cm =>
    if o = 0x80 then
      let s := s.cmd cm_ACTL_START w em (fun s => s.cmStart i) fun s => s.cmStartClear i
      s.cmd cm_ACTL_STOP w em (fun s => s.cmStop i) no
    else s
  | .chan =>
    if o = 0xAC then
      let s := s.cmd fb_CHCTL_ALIGN w em (fun s => s.chAlign i) no
      s.cmd fb_CHCTL_ZARM w em (fun s => s.set u fb_CHCTL_ZARM 1) no
    else s
  | .cv =>
    if o = 0x44 then
      let s := s.cmd cv_CVCTL_CAL w em (fun s => s.cvCal i) no
      let s := s.cmd cv_CVCTL_REL w em (fun s => s.cvRel i) no
      let s := s.cmd cv_CVCTL_RESTORE w em (fun s => s.cvRestore i) no
      let s := s.cmd cv_CVCTL_UTRIG0 w em (fun s => s.hostUrgent i 0) no
      s.cmd cv_CVCTL_UTRIG1 w em (fun s => s.hostUrgent i 1) no
    else s
  | .sq => if o = 0x4C then s.cmd sq_SQCTL_RESTART w em (fun s => s.sqRestart i) no else s
  | .tbk =>
    if o = 0x40 then
      let s := s.cmd tbk_TBCTL_CHECK w em State.bankCheckCmd no
      s.cmd tbk_TBCTL_SWITCH w em State.bankSwitchCmd State.bankSwitchAbort
    else s
  | .cn =>
    if o = 0x50 then s.cmd cn_CNCTL_RECOVER w em (fun s => s.cnRecover i) no
    else if o = 0x60 then s.cmd cn_CNRXACK_GO w em (fun s => s.canAck i) no
    else if 0x10C ≤ o && o < 0x280 && (o - 0x10C) % 0x80 = 0 then
      s.cmd (cn_TXCMD_REQ ((o - 0x10C) / 0x80)) w em (fun s => s.txRequest i ((o - 0x10C) / 0x80))
        fun s => s.txHostAbort i ((o - 0x10C) / 0x80)
    else s
  | .srv =>
    if o = 0x48 then
      let s := s.cmd srv_SVCMD_CLAIM w em State.serveClaim no
      s.cmd srv_SVCMD_DRILL w em State.swapDrillCmd no
    else s
  | .ssv =>
    if o = 0x8C then (s.cmd ssv_SHCMD_CLR w em State.causesClear no).cmd ssv_SHCMD_REQ w em (fun s => s.safety 15 0) no else s
  | .sos => if o = 0x84 then s.cmd sos_SOTCMD_TESTALL w em State.testAll no else s
  | _ => s

/-! Registers with a rule of their own. -/

/-- UCTL (R15, R16, R90, R97): the enable first, then the lock and the commands (R95). -/
def State.uctlWrite (s : State) (u : Unit) (w em : Word) : State :=
  let s := { s with wrote := noteAt s.now (u.addr 0xC) s.wrote }
  let s := if em.getLsbD 0 && s.on u hdr_UCTL_EN ≠ w.getLsbD 0 then s.setEnable u (w.getLsbD 0) else s
  let s := if issued hdr_UCTL_LOCK w em then s.lockUnit u else s
  let s := if issued hdr_UCTL_FCLR w em then s.fclr u else s
  if issued hdr_UCTL_URST w em then s.resetStart u else s

/-- The largest region of a client in blocks (R35); 0 for a code that is no client. -/
def maxBlocks (c : Nat) : Nat :=
  if 0x10 ≤ c && c ≤ 0x17 then 1024
  else if 0x20 ≤ c && c ≤ 0x23 then 64
  else if 0x30 ≤ c && c ≤ 0x37 then 256
  else if c = 0x40 then 128
  else if c = 0x50 then 512 else 0

/-- The first failing cause of committing entry `n` (R36), as ALLOCERR codes them: 1 MODE, 5 CLIENT, 2 RANGE, 3 OVERLAP,
4 DUPCLIENT; 0 none. -/
def State.allocCause (s : State) (n : Nat) : Nat :=
  let u := uPalloc
  let b := s.get u (palloc_ALLOCA_BASE n)
  let m := s.get u (palloc_ALLOCA_SIZEM1 n)
  let c := s.get u (palloc_ALLOCB_CLIENT n)
  let others := (List.range 64).filter fun k => k ≠ n && s.on u (palloc_ALLOCB_VALID k)
  if !(s.inMode .config) then 1
  else if maxBlocks c < m + 1 then 5
  else if 4095 < b + m then 2
  else if others.any fun k => s.get u (palloc_ALLOCA_BASE k) ≤ b + m &&
      b ≤ s.get u (palloc_ALLOCA_BASE k) + s.get u (palloc_ALLOCA_SIZEM1 k) then 3
  else if others.any fun k => s.get u (palloc_ALLOCB_CLIENT k) = c then 4
  else 0

/-- A write of ALLOCB of entry `n` (R36). -/
def State.allocbWrite (s : State) (n : Nat) (w em : Word) : State :=
  let u := uPalloc
  let valid := s.on u (palloc_ALLOCB_VALID n)
  let s := if valid || em.getLsbD 0 = false then s else s.set u (palloc_ALLOCB_CLIENT n) (w.toNat % 256)
  if em.getLsbD 31 = false then s
  else if valid then
    (if !(w.getLsbD 31) && s.inMode .config then s.set u (palloc_ALLOCB_VALID n) 0 else s)
  else if !(w.getLsbD 31) then s
  else
    let c := s.allocCause n
    if c = 0 then s.set u (palloc_ALLOCB_VALID n) 1
    else
      let s := (s.first u palloc_ALLOCERR_ERR palloc_ALLOCERR_CAUSE c).first u palloc_ALLOCERR_ERR palloc_ALLOCERR_ENTRY n
      s.cor u palloc_ALLOCERR_ERR 1

/-- A write of SRCPEND: a delivery of the same tick leaves its bit at 1 (R101, R124, R128), and a ball whose last source it clears is
noted for a delivery that meets the clear. -/
def State.srcpendWrite (s : State) (k : Nat) (w em : Word) : State :=
  let late := BitVec.ofNat 32 (bitMap 32 fun j => s.noted (0x1000000 + 32 * k + j))
  let a := uRouter.addr (0x100 + 4 * k)
  let s' := s.setW a (s.getW a &&& ~~~(w &&& em &&& ~~~late))
  forN 2 (fun x s' => if s.ballWanted x && !(s'.ballWanted x) then s'.note (0x3000000 + x) else s') s'

/-- A write of one register by field kind, lock and byte enables (R94 to R103): the outcome is 0 good, 1 REFUSED or 2 LOCKWR. -/
def State.writeReg (s : State) (u : Unit) (o : Nat) (w : Word) (be : Nat) (full : Bool) : Nat × State :=
  let s := (s.awaitReset u).lockMeets u
  let em := beMask be
  let old := s.getW (u.addr o)
  if o = 0xC then (0, s.uctlWrite u w em)
  else if u.kind = .sfk && o = 0x80 then
    (match s.sfcmdWrite (mergeBytes old w be) with
     | (s, ok) => (if ok then 0 else 1, s))
  else if s.writeRefused u o then (1, s)
  else
    let (ok, s) := match u.codeword o with
      | some c => if full then (true, s.clean c) else s.decode c
      | none => (true, s)
    if !ok then (1, s) else
    let lockwr := s.isLocked u && kindMask .rwl (u.fieldsAt o) &&& em ≠ 0
    let s :=
      if u.kind = .cad && o = 0x44 then s.cadPeriodWrite u.inst (mergeBytes old w be).toNat
      else if u.kind = .palloc && 0x100 ≤ o && o < 0x300 then
        let n := (o - 0x100) / 8
        if o % 8 = 4 then s.allocbWrite n w em
        else if s.on u (palloc_ALLOCB_VALID n) then s else s.storeReg u o w em
      else if u.kind = .router && 0x100 ≤ o && o < 0x140 then s.srcpendWrite ((o - 0x100) / 4) w em
      else if u.kind = .sys && o = 0xE4 then
        (if issued sys_LOCKALL_ALL w em && !(s.on u sys_LOCKALL_ALL) then { s with lockBusy := true } else s)
      else if u.kind = .sys && o = 0xF8 then
        (if sys_RSTCMD_KEY.get (w &&& em) = 0x5A3C && issued sys_RSTCMD_DEV w em then { s with swReset := true } else s)
      else
        let s := if u = uBrk && o = brk_LONTIME_TICKS.off then s.chopCounted else s
        ((s.storeReg u o w em).afterWrite u o old).commands u o w em
    (if lockwr then 2 else 0, s)

/-- A write of MBX_SEL (R111, R112): VALID clears, both words read 0, and the selected value is captured. -/
def State.mbxWrite (s : State) (p o : Nat) (w : Word) (be : Nat) : State :=
  if o ≠ 0 then s else
  let v := mergeBytes (s.getW 0xF00000) w be &&& fieldMask 2 22
  let s := (s.setW 0xF00000 v).setW 0xF00004 (if p = 1 then 0x100 else 0)
  let s := (s.setW 0xF00008 0).setW 0xF0000C 0
  { s with mbxCap := some (s.wideAt v.toNat) }

/-- A host write of a signal's value (R26, R27, R32): only the host's own signals take it. -/
def State.sigWrite (s : State) (n : Nat) (w : Word) (be : Nat) : Nat × State :=
  if s.dir n dir_WCLASS = 6 then (0, s.writeSig n (mergeBytes (s.sig n) w be))
  else (1, s.sigErr n 3)

/-- A host claim of a signal, and its release (R28 to R30). A claim that the one-writer check rejects leaves HOSTW 0 and records SIGERR; no
unit binds here, so no unit fault is recorded, and the write answers good status (DESIGN CHOICE, log entry 127). -/
def State.hostClaim (s : State) (n : Nat) (on : Bool) : State :=
  if on then
    match s.bindWriter n 6 0 (s.dir n dir_TYPE) with
    | (s, ok) => s.setDir n dir_HOSTW (if ok then 1 else 0)
  else (s.freeWriter n 6 0).setDir n dir_HOSTW 0

/-- A write of a directory entry (R28). -/
def State.dirWrite (s : State) (n : Nat) (w : Word) (be : Nat) : Nat × State :=
  let s := s.lockMeets uSigb
  if !(be.testBit 0) then (0, s)
  else if s.isLocked uSigb then (2, s)
  else if !(s.inMode .config) then (0, s)
  else
    let ty := bitOf (w.getLsbD 0)
    if ty ≠ s.dir n dir_TYPE && (s.dir n dir_WCLASS ≠ 0 || s.dir n dir_RDRCNT ≠ 0) then (1, s)
    else (0, (s.setDir n dir_TYPE ty).hostClaim n (w.getLsbD 1))

/-- A host write of a word of the pool or of table memory; `full` where the frame replaces the word's whole data group (R37, R39,
R572). -/
def State.memWrite (s : State) (a : Nat) (w : Word) (be : Nat) (full : Bool) : Bool × State :=
  let c := cwOfAddr a
  let (ok, s) := if full then (true, s.clean c) else s.decode c
  if ok then (true, s.setMemWord a w be) else (false, s)

/-- A host write of a word of the pool (R37). -/
def State.poolWrite (s : State) (a : Nat) (w : Word) (be : Nat) (full : Bool) : Nat × State :=
  if !(s.inMode .config) then (1, s) else
  match s.memWrite a w be full with
  | (true, s) => (0, s)
  | (false, s) => (1, s)

/-- A host write of a word of table memory (R39, R437). -/
def State.tableWrite (s : State) (a : Nat) (w : Word) (be : Nat) (full : Bool) : Nat × State :=
  let b := (a - tableBase) / 0x40000
  if !(s.inMode .config) && b = s.activeBank then (1, s) else
  match s.memWrite a w be full with
  | (true, s) => (0, s.bankWritten b)
  | (false, s) => (1, s)

/-- A write of what an address names. -/
def State.writeTarget (s : State) (p : Nat) (x : Target) (a : Nat) (w : Word) (be : Nat) (full : Bool) : Nat × State :=
  match x with
  | .reg u o => s.writeReg u o w be full
  | .mbx o => (0, s.mbxWrite p o w be)
  | .sig n => s.sigWrite n w be
  | .dir n => s.dirWrite n w be
  | .table => s.tableWrite a w be full
  | .pool => s.poolWrite a w be full
  | .test => (1, s)

/-- A write of one word through a port: its outcome (0 good, 1 REFUSED, 2 LOCKWR, 4 ADDR), with ACCERR (R106). A word without an
enabled byte has no effect (R103). -/
def State.hostWrite (s : State) (p a : Nat) (w : Word) (be : Nat) (full : Bool) : Nat × State :=
  match s.target a with
  | none => (4, s.accErr p a 2)
  | some x =>
    if be % 16 = 0 then (0, s)
    else if !(s.served x) then (1, s.accErr p a 3)
    else
      match s.writeTarget p x a w be full with
      | (0, s) => (0, s)
      | (1, s) => (1, s.accErr p a 3)
      | (c, s) => (c, s.accErr p a 4)

end Sys2Proof.Machine
end

