-- ==== Sys2Proof/Machine/Frames.lean ====
section
/-!
DEFINITION. H-Link frames (R104, R113 to R123): their words, checks and responses. A burst is not atomic: its words are ordered in
as many steps as the sender grants it, and other commands can fall between them.
-/

namespace Sys2Proof.Machine

/-- The OPCODE byte (R116). -/
def Op.code : Op → Nat
  | .read => 1
  | .write => 2
  | .writem => 3
  | .nop => 15
  | .undef c => c % 256

/-- The words of a frame's range: LEN + 1. -/
def requestWords (f : HFrame) : Nat := f.len % 256 + 1

/-- `n` words of a payload. -/
def takeWords (n : Nat) (l : List Word) : List Word := (List.range n).map fun i => l.getD i 0

/-- The enable words of a WRITEM frame (R116). -/
def enableWords (f : HFrame) : Nat := (requestWords f + 7) / 8

/-- The header's eight bytes (R115). -/
def headerBytes (op : Op) (f : HFrame) : List Byte :=
  [BitVec.ofNat 8 op.code, BitVec.ofNat 8 f.len] ++ wordBytes (BitVec.ofNat 32 f.addr) ++
    [BitVec.ofNat 8 f.seq, BitVec.ofNat 8 f.be]

/-- The CRC of a request (R117). -/
def requestCrc (op : Op) (f : HFrame) (payload : List Word) : Word := crc32 (headerBytes op f ++ payload.flatMap wordBytes)

/-- The words that a frame names: none for NOP and undefined opcodes (R116). -/
def frameRange (op : Op) (f : HFrame) : List Nat :=
  match op with
  | .nop | .undef _ => []
  | _ => (List.range (requestWords f)).map fun i => f.addr % 2 ^ 32 + 4 * i

/-- The byte enables of word `i` of a frame (R116). -/
def frameBe (op : Op) (f : HFrame) (payload : List Word) (i : Nat) : Nat :=
  match op with
  | .write => f.be % 16
  | .writem => bits (payload.getD (i / 8) 0) (4 * (i % 8)) 4
  | _ => 0

/-- The checks after the CRC, in order: the status code (R118). -/
def State.frameCode (s : State) (op : Op) (f : HFrame) : Nat :=
  let undef := match op with
    | .undef _ => true
    | _ => false
  if undef || f.be % 256 / 16 ≠ 0 then 2
  else if op = .nop && f.len % 256 ≠ 0 then 3
  else if op ≠ .nop && f.addr % 4 ≠ 0 then 4
  else if (frameRange op f).any fun a => (s.target a).isNone then 5
  else 0

/-- The data group that an address lies in: its first address, its number of words and the byte enables that cover its data (R569). -/
def groupOf (a : Nat) : Option (Nat × Nat × Nat) :=
  match targetOf a with
  | some .table | some .pool => some (a - a % 32, 8, 15)
  | some (.reg u o) =>
    if u.kind = .pod && 0x400 ≤ o then some (a - a % 32, 8, 15)
    else if u.kind = .pod && 0x200 ≤ o && o < 0x300 then some (a - a % 64, 16, 3)
    else if u.kind = .pod && 0x300 ≤ o && o < 0x380 then some (a - a % 32, 8, 15)
    else none
  | _ => none

/-- Does a frame replace the whole data group of its word `i` (R37, R572)? -/
def frameFull (op : Op) (f : HFrame) (payload : List Word) (i : Nat) : Bool :=
  let a0 := f.addr % 2 ^ 32
  match groupOf (a0 + 4 * i) with
  | none => false
  | some (b, n, be) =>
    a0.ble b && (List.range n).all fun k =>
      let j := (b - a0) / 4 + k
      j.blt (requestWords f) && (frameBe op f payload j &&& be) = be

/-- One more word: its value and its outcome (0 good, 1 REFUSED, 2 LOCKWR). -/
def FrameRun.add (r : FrameRun) (i : Nat) (w : Word) (c : Nat) : FrameRun :=
  { words := w :: r.words
    first := if c ≠ 0 && r.first.isNone then some i else r.first
    refused := r.refused || c = 1
    lockwr := r.lockwr || c = 2 }

/-- Word `i` of a burst is ordered (R104, R118). -/
def State.burstWord (s : State) (b : Burst) (i : Nat) : Burst × State :=
  let p := b.frame.port % 2
  let a := b.frame.addr % 2 ^ 32 + 4 * i
  match b.op with
  | .read =>
    let ((w, c), s) := s.hostRead p a
    ({ b with next := i + 1, run := b.run.add i w c }, s)
  | .write | .writem =>
    let skip := if b.op = .writem then enableWords b.frame else 0
    let (c, s) := s.hostWrite p a (b.payload.getD (skip + i) 0) (frameBe b.op b.frame b.payload i) (frameFull b.op b.frame b.payload i)
    ({ b with next := i + 1, run := b.run.add i 0 c }, s)
  | _ => (b, s)

/-- The next `n` words of a burst, in ascending order. -/
def State.burstWords (s : State) (b : Burst) : Nat → Burst × State
  | 0 => (b, s)
  | n + 1 =>
    let (b, s) := s.burstWord b b.next
    s.burstWords b n

/-- EVP (R119): some source is pending, and so is the vector it is routed to (R124). -/
def State.evp (s : State) : Bool := (List.range 16).any fun k => s.getW (uRouter.addr (0x100 + 4 * k)) ≠ 0

/-- The status word (R119). -/
def State.statusWord (s : State) (f : HFrame) (code : Nat) (r : FrameRun) : Word :=
  BitVec.ofNat 32 (2 ^ 31 * bitOf s.evp + 2 ^ 25 * bitOf r.lockwr + 2 ^ 24 * bitOf r.refused +
    2 ^ 16 * r.first.getD 0 + 2 ^ 8 * code + f.seq % 256)

/-- The response as it is sent: start byte, status word, data words, CRC, each word least significant byte first (R117, R119). -/
def response (status : Word) (data : List Word) : List Byte :=
  let body := wordBytes status ++ data.flatMap wordBytes
  0xA5#8 :: body ++ wordBytes (crc32 body)

/-- A response goes out, but for one whose nCS rose first (R122). -/
def State.respond (s : State) (f : HFrame) (l : List Byte) : State :=
  s.modPort f.port fun h => { h with resp := if f.cut then [] else l, latch := none, burst := none }

/-- The frame that wrote RSTCMD has ended (R582): its response has been sent, and the device resets, with the straps as they were
sampled last (log entry 60). -/
def State.frameEnd (s : State) : State :=
  if s.swReset then
    let s' := (s.deviceReset s.bootStart).loadStraps 3 (s.on uSys sys_STRAPS_REFCLK) (s.on uSys sys_STRAPS_PRI) s.testAccess
    forN 2 (fun p s' => s'.modPort p fun h => { h with resp := (s.port p).resp }) s'
  else s

/-- The words that a frame orders: none for NOP (R116). -/
def burstSize (b : Burst) : Nat := (frameRange b.op b.frame).length

/-- A burst whose last word is ordered: the response, the store for a replay (R118, R121), and the end of the frame. -/
def State.burstDone (s : State) (b : Burst) : State :=
  let f := b.frame
  let p := f.port % 2
  let s := s.inc (uHp p) hp_FRAMES_COUNT
  let l := response (s.statusWord f 0 b.run) (if b.op = .read then b.run.words.reverse else [])
  let s := s.respond { f with port := p } l
  let s := if f.seq % 256 = 0 then s else s.modPort p fun h => { h with stored := some (f.seq % 256, f.crc, l) }
  s.frameEnd

/-- A burst goes on by `part` words, or by all that remain where `part` is 0 (R104). -/
def State.burstGo (s : State) (b : Burst) (part : Nat) : State :=
  let left := burstSize b - b.next
  let (b, s) := s.burstWords b (if part = 0 then left else min part left)
  if burstSize b ≤ b.next then s.burstDone b
  else s.modPort b.frame.port fun h => { h with burst := some b }

/-- A port has one frame at a time: what remains of a burst in progress comes before the port's next frame. -/
def State.burstFinish (s : State) (p : Nat) : State :=
  match (s.port p).burst with
  | some b => s.burstGo b 0
  | none => s

/-- A port at the start of a frame: its width and its SPI mode (R113, R114, R123). -/
def State.frameStart (s : State) (f : HFrame) : State :=
  let u := uHp f.port
  let s := (s.set u hp_PSTAT_QUADACT (s.get u hp_PCFG_QUAD)).set u hp_PSTAT_SPIMODE (bitOf f.mode3)
  s.modPort (f.port % 2) fun h => { h with latch := none }

/-- The frame is rejected with a status code and has no side effect (R118, R123); ALIGN and ADDR are recorded with the frame's
address (R106). -/
def State.reject (s : State) (f : HFrame) (code : Nat) : State :=
  let u := uHp f.port
  let s := if code = 4 then s.accErr (f.port % 2) (f.addr % 2 ^ 32) 1 else if code = 5 then s.accErr (f.port % 2) (f.addr % 2 ^ 32) 2 else s
  let s := if code = 1 then (s.inc u hp_CRCCNT_COUNT).raise u 0 else (s.inc u hp_REJCNT_COUNT).raise u 1
  s.respond { f with port := f.port % 2 } (response (s.statusWord f code {}) [])

/-- The burst of a frame at its start. -/
def burstOf (op : Op) (f : HFrame) (payload : List Word) : Burst :=
  { op := op, frame := { f with part := 0, port := f.port % 2 }, payload := payload, next := 0, run := {} }

/-- A complete request (R118, R121, R122). -/
def State.frameNew (s : State) (op : Op) (f : HFrame) (payload : List Word) : Host.Outcome State Fault Refusal :=
  let p := f.port % 2
  let s := (s.burstFinish p).frameStart f
  if requestCrc op f payload ≠ f.crc then .next (s.reject f 1)
  else
    match (s.port p).stored.filter fun x => f.seq % 256 ≠ 0 && x.1 = f.seq % 256 && x.2.1 = f.crc with
    | some x => .next ((s.inc (uHp p) hp_REPLAYCNT_COUNT).respond { f with port := p } x.2.2)
    | none =>
      let c := s.frameCode op f
      if c ≠ 0 then .next (s.reject f c)
      else if s.served .test && (frameRange op f).any fun a => s.target a = some .test then .refused .testPages
      else .next (s.burstGo (burstOf op f payload) f.part)

/-- A frame on a port: a new request, or the next words of its burst in progress (R104). A device held in reset answers nothing;
test pages, where mapped and served, stop the model (R86). -/
def State.hlink (s : State) (op : Op) (f : HFrame) (payload : List Word) : Host.Outcome State Fault Refusal :=
  if s.boot = .held then .next s else
  let p := f.port % 2
  match (s.port p).burst with
  | some b =>
    let b' := burstOf op f payload
    if b.op = op && b.frame = b'.frame && b.payload = payload then .next (s.burstGo b f.part) else s.frameNew op f payload
  | none => s.frameNew op f payload

end Sys2Proof.Machine
end

