-- ==== Sys2Proof/Machine/Rows.lean ====
section
/-!
DEFINITION. The rows that are one access of a host port: a single-word frame each (R103 to R106), and the ends of what such accesses
start.
-/

namespace Sys2Proof.Machine

/-! Rows for one access. -/

/-- A port at the start of a frame of one word: what remains of its burst comes first, and the frame has latched no HI word (R107). -/
def State.portOpen (s : State) (p : Nat) : State :=
  if s.boot = .held then s else (s.burstFinish p).modPort p fun h => { h with latch := none }

/-- One write of a port as a frame of one word. -/
def State.oneWrite (s : State) (port a : Nat) (w : Word) (be : Nat) : Host.Outcome State Fault Refusal :=
  let p := port % 2
  let s := s.portOpen p
  if s.boot = .held then .next s
  else if a % 4 ≠ 0 then .next ((s.accErr p a 1).modPort p fun h => { h with stat := 3 })
  else if s.target a = some .test && s.served .test then .refused .testPages
  else
    let (c, s) := s.hostWrite p a w be false
    .next ((s.modPort p fun h => { h with stat := c }).frameEnd)

/-- One read of a port. -/
def State.oneRead (s : State) (port a : Nat) : Host.Outcome State Fault Refusal :=
  let p := port % 2
  let s := s.portOpen p
  if s.boot = .held then .next s
  else if a % 4 ≠ 0 then .next ((s.accErr p a 1).modPort p fun h => { h with word := 0, stat := 3 })
  else if s.target a = some .test && s.served .test then .refused .testPages
  else
    let ((w, c), s) := s.hostRead p a
    .next (s.modPort p fun h => { h with word := w, stat := c, latch := none })

/-- REGISTER_WRITE: port, address, word and byte enables. -/
def execRegisterWrite (t port a : Nat) (w : Word) (be : Nat) (s : State) : Host.Outcome State Fault Refusal :=
  (s.at t).oneWrite port a w be

/-- COR_READ: the read of a register at an address. -/
def execCorRead (t port a : Nat) (s : State) : Host.Outcome State Fault Refusal := (s.at t).oneRead port a

/-- WIDE_VALUE_LO_READ: a read frame of a wide value in the host's own order, its LO word at an address and then HI (R107): the read of
LO latches HI, and the second word of the frame, which is still to be ordered, reads what was latched. -/
def execWideValueLoRead (t port a : Nat) (s : State) : Host.Outcome State Fault Refusal :=
  let s := (s.at t)
  let p := port % 2
  if s.boot = .held then .next s
  else if a % 4 ≠ 0 || (s.target a).isNone || (s.target (a + 4)).isNone || s.target a = some .test then s.oneRead port a
  else
    let f : HFrame := { port := p, len := 1, addr := a, seq := 0, be := 0, crc := 0, mode3 := false, cut := false }
    .next ((s.portOpen p).burstGo (burstOf .read f []) 1)

/-- FAULT_CLEAR: UCTL.FCLR of the unit at a page, with its EN as it is. -/
def execFaultClear (t port page : Nat) (s : State) : Host.Outcome State Fault Refusal :=
  let s := s.at t
  let en := match unitAt page with
    | some u => s.get u hdr_UCTL_EN
    | none => 0
  s.oneWrite port (page * 0x1000 + 0xC) (BitVec.ofNat 32 (4 + en)) 1

/-- PAGE_LOCK: UCTL.LOCK of the unit at a page. -/
def execPageLock (t port page : Nat) (s : State) : Host.Outcome State Fault Refusal :=
  (s.at t).oneWrite port (page * 0x1000 + 0xC) 0x80000000#32 8

/-- LOCKALL: LOCKALL.ALL is written 1. -/
def execLockall (t port : Nat) (s : State) : Host.Outcome State Fault Refusal := (s.at t).oneWrite port 0xE4 1 1

/-- LOCKALL_COMPLETE (R100): the last page is locked; the signature reference is taken (R578) and the safety configuration is
checked (R521, R530). -/
def execLockallComplete (t : Nat) (s : State) : Host.Outcome State Fault Refusal :=
  let s := s.at t
  if !(s.lockBusy) then .next s else
  let s := forL rootUnits (fun u s => s.lockUnit u) { s with lockBusy := false }
  .next ((s.set uSys sys_LOCKALL_ALL 1).sigArm.lockChecks)

/-- MBX_SEL_WRITE. -/
def execMbxSelWrite (t port : Nat) (w : Word) (be : Nat) (s : State) : Host.Outcome State Fault Refusal :=
  (s.at t).oneWrite port 0xF00000 w be

/-- MAILBOX_CAPTURE_DONE (R112). -/
def execMailboxCaptureDone (t : Nat) (s : State) : Host.Outcome State Fault Refusal :=
  let s := s.at t
  match s.mbxCap with
  | none => .next s
  | some v =>
    let n := v.getD 0
    let s := (s.setW 0xF00008 (BitVec.ofNat 32 n)).setW 0xF0000C (BitVec.ofNat 32 (n / 2 ^ 32))
    let st := putAll (s.getW 0xF00004) [(mbx_MBX_VALID_BAD, bitOf v.isNone), (mbx_MBX_VALID_VALID, 1)]
    .next { s.setW 0xF00004 st with mbxCap := none }

/-- SIGNAL_HOST_WRITE of signal `n`. -/
def execSignalHostWrite (t port n : Nat) (w : Word) (be : Nat) (s : State) : Host.Outcome State Fault Refusal :=
  (s.at t).oneWrite port (sigAddr n) w be

/-- SIGNAL_DIRECTORY_WRITE of signal `n`. -/
def execSignalDirectoryWrite (t port n : Nat) (w : Word) (be : Nat) (s : State) : Host.Outcome State Fault Refusal :=
  (s.at t).oneWrite port (dirAddr n) w be

/-- SIGNAL_BINDING_WRITE: a binding register at an address. -/
def execSignalBindingWrite (t port a : Nat) (w : Word) (be : Nat) (s : State) : Host.Outcome State Fault Refusal :=
  (s.at t).oneWrite port a w be

/-- POOL_ALLOCATION_COMMIT: ALLOCB of entry `n`. -/
def execPoolAllocationCommit (t port n : Nat) (w : Word) (be : Nat) (s : State) : Host.Outcome State Fault Refusal :=
  (s.at t).oneWrite port (uPalloc.addr (0x104 + 8 * (n % 64))) w be

/-- POOL_HOST_WRITE of the word at a byte offset of the pool. -/
def execPoolHostWrite (t port off : Nat) (w : Word) (be : Nat) (s : State) : Host.Outcome State Fault Refusal :=
  (s.at t).oneWrite port (poolBase + 4 * (off / 4 % 0x100000)) w be

/-- TABLE_MEMORY_WRITE of the word at a byte offset of table memory. -/
def execTableMemoryWrite (t port off : Nat) (w : Word) (be : Nat) (s : State) : Host.Outcome State Fault Refusal :=
  (s.at t).oneWrite port (tableBase + 4 * (off / 4 % 0x20000)) w be

/-- ACOMP_WRITE: competitor entry `c` of arena `a`. -/
def execAcompWrite (t port a c : Nat) (w : Word) (be : Nat) (s : State) : Host.Outcome State Fault Refusal :=
  (s.at t).oneWrite port ((uQuad (a % 16)).addr (0x120 + 0x80 * (a % 4) + 4 * (c % 8))) w be

/-- AREQ_HOST_WRITE: request word `c` of arena `a`. -/
def execAreqHostWrite (t port a c : Nat) (w : Word) (be : Nat) (s : State) : Host.Outcome State Fault Refusal :=
  (s.at t).oneWrite port ((uQuad (a % 16)).addr (0x140 + 0x80 * (a % 4) + 4 * (c % 8))) w be

/-- MACH_WRITE: TA.TCFG. -/
def execMachWrite (t port : Nat) (w : Word) (be : Nat) (s : State) : Host.Outcome State Fault Refusal :=
  (s.at t).oneWrite port ((uStage 0).addr 0x80) w be

/-- CARRIER_PERIOD_WRITE: TCAR of stage `st`, TA or TB. -/
def execCarrierPeriodWrite (t port st : Nat) (w : Word) (be : Nat) (s : State) : Host.Outcome State Fault Refusal :=
  (s.at t).oneWrite port ((uStage (st % 2)).addr 0x84) w be

/-- CHANNEL_CONFIG_WRITE: CHCFG of channel `c`. -/
def execChannelConfigWrite (t port c : Nat) (w : Word) (be : Nat) (s : State) : Host.Outcome State Fault Refusal :=
  (s.at t).oneWrite port ((uChan (c % 6)).addr 0x80) w be

/-- DRAW_PRESET: DRAW of channel `c`. -/
def execDrawPreset (t port c : Nat) (w : Word) (be : Nat) (s : State) : Host.Outcome State Fault Refusal :=
  (s.at t).oneWrite port ((uDec (c % 6)).addr 0x40) w be

/-- COMPARE_ARM: KPOS (`pos`) or KCTL of compare kernel `i`. -/
def execCompareArm (t port i : Nat) (pos : Bool) (w : Word) (be : Nat) (s : State) : Host.Outcome State Fault Refusal :=
  (s.at t).oneWrite port ((uCk (i % 24)).addr (if pos then 0x44 else 0x40)) w be

/-- RDPTR_WRITE: CVRDPTR of converter `n`. -/
def execRdptrWrite (t port n : Nat) (w : Word) (be : Nat) (s : State) : Host.Outcome State Fault Refusal :=
  (s.at t).oneWrite port ((uCv (n % 8)).addr 0x68) w be

/-- SRCPEND_CLEAR: SRCPEND of sources 32k to 32k + 31. -/
def execSrcpendClear (t port k : Nat) (w : Word) (be : Nat) (s : State) : Host.Outcome State Fault Refusal :=
  (s.at t).oneWrite port (uRouter.addr (0x100 + 4 * (k % 16))) w be

/-- EVENT_BALL_PULSE_END: the high pulse of nEVTx is over (R127). -/
def execEventBallPulseEnd (t x : Nat) (s : State) : Host.Outcome State Fault Refusal :=
  let s := s.at t
  .next { s with pulse := if s.pulse.testBit x then s.pulse - 2 ^ x else s.pulse }

/-- SFCMD_WRITE of word `w` (R527). -/
def execSfcmdWrite (t port : Nat) (w : Word) (be : Nat) (s : State) : Host.Outcome State Fault Refusal :=
  (s.at t).oneWrite port (uSfk.addr 0x80) w be

/-- Is the cause of a COR field present (R98)? Beside a unit's faults, the loss of lock (R52) and the trips of VCORE (R66)
last. -/
def State.corStands (s : State) (u : Unit) (f : Fld) : Bool :=
  match u.kind with
  | .tbase => f = tb_TBSTAT_LOCKLOST && !s.locked && !s.deepDormant
  | .vmon => (f = vmon_VCSTAT_UVTRIP && s.vcore < 700) || (f = vmon_VCSTAT_OVTRIP && 860 < s.vcore) ||
      (f.off = 0x1C && s.causeStands u)
  | _ => f.off = 0x1C && s.causeStands u

/-- STATUS_HOLD_END (R98): the COR field at bit `lo` of the register at offset `o` of a page was last present 100,000 ticks ago,
and reads 0 again, where BRV-5210 status mode is on. What still has its cause is still present. -/
def execStatusHoldEnd (t page o lo : Nat) (s : State) : Host.Outcome State Fault Refusal :=
  let s := s.at t
  match unitAt page with
  | none => .next s
  | some u =>
    match (u.fieldsAt o).find? fun f => f.lo ≤ lo && lo < f.lo + f.w && f.kind = .cor with
    | none => .next s
    | some f =>
      -- each event bit has a hold of its own; another COR field is held whole
      let g : Fld := if o = 0x10 then ⟨o, lo, 1⟩ else ⟨o, f.lo, f.w⟩
      let h := sget (fun _ => 0) s.holds (holdKey u g)
      if h = 0 || !s.stmode || !(s.due (h - 1 + 100000)) then .next s
      else if s.corStands u g then .next (s.hold u g)
      else .next { s.set u g 0 with holds := sset (fun _ => 0) s.holds (holdKey u g) 0 }

end Sys2Proof.Machine
end

