-- ==== Sys2Proof/Machine/HostRows.lean ====
section
/-!
DEFINITION. The rows that are a host's write of one register and name no port: each has the effect that the write has (R95), under
the same conditions of service (R17, R81, R106).
-/

namespace Sys2Proof.Machine

/-- A host's write of the register at offset `o` of a unit's page, with the effect `f`. A device held in reset takes none; a page that
is not served refuses it, and ACCERR records a free value for the port, which the row does not give (log entry 8); and it waits for a
reset that is in progress over the page (R17). -/
def State.hostRow (s : State) (u : Unit) (o : Nat) (f : State → State) : Host.Outcome State Fault Refusal :=
  if s.boot = .held then .next s
  else if s.served (.reg u o) then .next (f (s.awaitReset u))
  else .next (s.accErr 2 (u.addr o) 3)

/-- The same for the unit whose page has a number; a page that is no unit's is not mapped (R106). -/
def State.hostPage (s : State) (page o : Nat) (f : Unit → State → State) : Host.Outcome State Fault Refusal :=
  match unitAt page with
  | some u => s.hostRow u o (f u)
  | none => if s.boot = .held then .next s else .next (s.accErr 2 (page * 0x1000 + o) 2)

/-- UNIT_ENABLE: UCTL.EN of the unit at a page is written (R15). -/
def execUnitEnable (t page : Nat) (on : Bool) (s : State) : Host.Outcome State Fault Refusal :=
  (s.at t).hostPage page 0xC fun u s => if s.on u hdr_UCTL_EN = on then s else s.setEnable u on

/-- UNIT_RESET: UCTL.URST of the unit at a page (R16). -/
def execUnitReset (t page : Nat) (s : State) : Host.Outcome State Fault Refusal :=
  (s.at t).hostPage page 0xC fun u s => s.resetStart u

/-- MODECMD: MODECMD is written with GO = 1 (R74). -/
def execModecmd (t target after frm : Nat) (s : State) : Host.Outcome State Fault Refusal :=
  (s.at t).hostRow uSys 0xC4 fun s =>
    (((s.set uSys sys_MODECMD_TARGET target).set uSys sys_MODECMD_AFTER after).set uSys sys_MODECMD_FROM frm).modeCommand

/-- SYNCSTART: the selected generators start together on the first tick after the write (R59). -/
def execSyncstart (t mask : Nat) (s : State) : Host.Outcome State Fault Refusal :=
  (s.at t).hostRow uCadSh 0x80 fun s => s.syncStart mask

/-- SYNCSTOP: the selected generators stop (R59). -/
def execSyncstop (t mask : Nat) (s : State) : Host.Outcome State Fault Refusal :=
  (s.at t).hostRow uCadSh 0x84 fun s => s.syncStop mask

/-- CADENCE_PERIOD_WRITE (R57). -/
def execCadencePeriodWrite (t n v : Nat) (s : State) : Host.Outcome State Fault Refusal :=
  (s.at t).hostRow (uCad (n % 16)) 0x44 fun s => s.cadPeriodWrite (n % 16) v

/-- MARGIN_GAUGE_CLEAR: MGCTL.CLR of a lane (R65). -/
def execMarginGaugeClear (t n : Nat) (s : State) : Host.Outcome State Fault Refusal :=
  (s.at t).hostRow (uLane (n % 9)) 0x10C fun s => s.gaugeClear (n % 9)

/-- LBIST_START: LBISTCMD.GO (R178). -/
def execLbistStart (t : Nat) (s : State) : Host.Outcome State Fault Refusal :=
  (s.at t).hostRow uLaneSh 0x88 State.lbistStart

/-- RAMP_SEED: RAMPCTL.SEED (R183). -/
def execRampSeed (t p : Nat) (s : State) : Host.Outcome State Fault Refusal :=
  (s.at t).hostRow (uPod (p % 128)) 0x10C fun s => s.seedAsk (p % 128)

/-- SCOREBOOK_ARM: SCTL.ARM (R223). -/
def execScorebookArm (t n : Nat) (s : State) : Host.Outcome State Fault Refusal :=
  (s.at t).hostRow (uScb (n % 8)) 0x58 fun s => s.arm (n % 8)

/-- SCOREBOOK_ABORT: ARM written 0 (R226). -/
def execScorebookAbort (t n : Nat) (s : State) : Host.Outcome State Fault Refusal :=
  (s.at t).hostRow (uScb (n % 8)) 0x58 fun s => s.disarm (n % 8)

/-- SCOREBOOK_TRIG: SCTL.TRIG (R225). -/
def execScorebookTrig (t n : Nat) (s : State) : Host.Outcome State Fault Refusal :=
  (s.at t).hostRow (uScb (n % 8)) 0x58 fun s => s.bookTrig (n % 8)

/-- RESEL: TPCTL.RESEL, which acts at the next selection instant (R243). -/
def execResel (t st : Nat) (s : State) : Host.Outcome State Fault Refusal :=
  (s.at t).hostRow (uStage (st % 2)) 0xF0 fun s => s.set (uStage (st % 2)) trac_TPCTL_RESEL 1

/-- PRECHARGE_GO: LPRECMD.GO (R294). -/
def execPrechargeGo (t : Nat) (s : State) : Host.Outcome State Fault Refusal :=
  (s.at t).hostRow uBrk 0xC0 State.preGo

/-- PRECHARGE_ABORT: GO written 0 (R296). -/
def execPrechargeAbort (t : Nat) (s : State) : Host.Outcome State Fault Refusal :=
  (s.at t).hostRow uBrk 0xC0 State.preGoClear

/-- CONTACTOR_OPEN: LCONTCMD.OPEN (R293). -/
def execContactorOpen (t : Nat) (s : State) : Host.Outcome State Fault Refusal :=
  (s.at t).hostRow uBrk 0xC8 State.contactorOpen

/-- REG_START: RCTL with START = 1 and a direction (R314). -/
def execRegStart (t dir : Nat) (s : State) : Host.Outcome State Fault Refusal :=
  (s.at t).hostRow uReg 0xC0 fun s => (s.set uReg reg_RCTL_DIR dir).regStart

/-- REG_STOP: RCTL.STOP (R314). -/
def execRegStop (t : Nat) (s : State) : Host.Outcome State Fault Refusal :=
  (s.at t).hostRow uReg 0xC0 State.regHostStop

/-- REG_START_ABORT: START written 0 (R314). -/
def execRegStartAbort (t : Nat) (s : State) : Host.Outcome State Fault Refusal :=
  (s.at t).hostRow uReg 0xC0 State.regStartClear

/-- OEXP_ARM_WRITE: OEXP.ARM (R342). -/
def execOexpArmWrite (t : Nat) (arm : Bool) (s : State) : Host.Outcome State Fault Refusal :=
  (s.at t).hostRow uSess 0x4C fun s => (s.set uSess sess_OEXP_ARM (bitOf arm)).outputs

/-- AC_START: ACTL with START = 1 and a direction (R359). -/
def execAcStart (t n : Nat) (dir : Bool) (s : State) : Host.Outcome State Fault Refusal :=
  (s.at t).hostRow (uCm (n % 3)) 0x80 fun s => (s.set (uCm (n % 3)) cm_ACTL_DIR (bitOf dir)).cmStart (n % 3)

/-- AC_START_ABORT: START written 0 (R359). -/
def execAcStartAbort (t n : Nat) (s : State) : Host.Outcome State Fault Refusal :=
  (s.at t).hostRow (uCm (n % 3)) 0x80 fun s => s.cmStartClear (n % 3)

/-- AC_STOP: ACTL.STOP (R360). -/
def execAcStop (t n : Nat) (s : State) : Host.Outcome State Fault Refusal :=
  (s.at t).hostRow (uCm (n % 3)) 0x80 fun s => s.cmStop (n % 3)

/-- ZARM: CHCTL.ZARM arms a homing (R378). -/
def execZarm (t c : Nat) (s : State) : Host.Outcome State Fault Refusal :=
  (s.at t).hostRow (uChan (c % 6)) 0xAC fun s => s.set (uChan (c % 6)) fb_CHCTL_ZARM 1

/-- CHANNEL_ALIGN: CHCTL.ALIGN (R392). -/
def execChannelAlign (t c : Nat) (s : State) : Host.Outcome State Fault Refusal :=
  (s.at t).hostRow (uChan (c % 6)) 0xAC fun s => s.chAlign (c % 6)

/-- URGENT_HOST_TRIGGER: CVCTL.UTRIG0 or UTRIG1 (R407). -/
def execUrgentHostTrigger (t n e : Nat) (s : State) : Host.Outcome State Fault Refusal :=
  (s.at t).hostRow (uCv (n % 8)) 0x44 fun s => s.hostUrgent (n % 8) (e % 2)

/-- CONVERTER_CAL: CVCTL.CAL (R409). -/
def execConverterCal (t n : Nat) (s : State) : Host.Outcome State Fault Refusal :=
  (s.at t).hostRow (uCv (n % 8)) 0x44 fun s => s.cvCal (n % 8)

/-- BANK_CHECK of bank `bank`: TBCTL with CBANK and CHECK (R436). -/
def execBankCheck (t bank : Nat) (s : State) : Host.Outcome State Fault Refusal :=
  (s.at t).hostRow uTbk 0x40 fun s => (s.set uTbk tbk_TBCTL_CBANK bank).bankCheckCmd

/-- BANK_SWITCH at cadence `cad`: TBCTL with CAD and SWITCH (R438). -/
def execBankSwitch (t cad : Nat) (s : State) : Host.Outcome State Fault Refusal :=
  (s.at t).hostRow uTbk 0x40 fun s => (s.set uTbk tbk_TBCTL_CAD cad).bankSwitchCmd

/-- BANK_SWITCH_ABORT: SWITCH written 0 (R438). -/
def execBankSwitchAbort (t : Nat) (s : State) : Host.Outcome State Fault Refusal :=
  (s.at t).hostRow uTbk 0x40 State.bankSwitchAbort

/-- SEQUENCER_RESTART: SQCTL.RESTART (R440). -/
def execSequencerRestart (t n : Nat) (s : State) : Host.Outcome State Fault Refusal :=
  (s.at t).hostRow (uSq (n % 32)) 0x4C fun s => s.sqRestart (n % 32)

/-- CAN_RX_ACK: CNRXACK with GO, `obj` and `seq` (R460). -/
def execCanRxAck (t n obj seq : Nat) (s : State) : Host.Outcome State Fault Refusal :=
  (s.at t).hostRow (uCn (n % 4)) 0x60 fun s =>
    ((s.set (uCn (n % 4)) cn_CNRXACK_OBJ obj).set (uCn (n % 4)) cn_CNRXACK_SEQ seq).canAck (n % 4)

/-- CAN_TX_REQUEST of buffer `b` (R462). -/
def execCanTxRequest (t n b : Nat) (s : State) : Host.Outcome State Fault Refusal :=
  (s.at t).hostRow (uCn (n % 4)) (0x10C + 0x80 * (b % 3)) fun s => s.txRequest (n % 4) (b % 3)

/-- CAN_TX_ABORT of buffer `b` (R464). -/
def execCanTxAbort (t n b : Nat) (s : State) : Host.Outcome State Fault Refusal :=
  (s.at t).hostRow (uCn (n % 4)) (0x10C + 0x80 * (b % 3)) fun s => s.txHostAbort (n % 4) (b % 3)

/-- CAN_RECOVER: CNCTL.RECOVER (R467). -/
def execCanRecover (t n : Nat) (s : State) : Host.Outcome State Fault Refusal :=
  (s.at t).hostRow (uCn (n % 4)) 0x50 fun s => s.cnRecover (n % 4)

/-- SERVE_CLAIM: SVCMD.CLAIM (R480). -/
def execServeClaim (t : Nat) (s : State) : Host.Outcome State Fault Refusal :=
  (s.at t).hostRow uSrv 0x48 State.serveClaim

/-- SWAP_DRILL: SVCMD.DRILL (R506). -/
def execSwapDrill (t : Nat) (s : State) : Host.Outcome State Fault Refusal :=
  (s.at t).hostRow uSrv 0x48 State.swapDrillCmd

/-- SHCMD_REQUEST: SHCMD.REQ (R512). -/
def execShcmdRequest (t : Nat) (s : State) : Host.Outcome State Fault Refusal :=
  (s.at t).hostRow uSsv 0x8C fun s => s.safety 15 0

/-- SHCMD_CLEAR: SHCMD.CLR (R516). -/
def execShcmdClear (t : Nat) (s : State) : Host.Outcome State Fault Refusal :=
  (s.at t).hostRow uSsv 0x8C State.causesClear

/-- TESTALL: SOTCMD.TESTALL (R534). -/
def execTestall (t : Nat) (s : State) : Host.Outcome State Fault Refusal :=
  (s.at t).hostRow uSos 0x84 State.testAll

/-- SAFE_OUTPUT_COMMAND_CHANGE: SOCTL.ON of output `k` is written, and the output follows its command (R531). -/
def execSafeOutputCommandChange (t k : Nat) (on : Bool) (s : State) : Host.Outcome State Fault Refusal :=
  (s.at t).hostRow (uSo (k % 8)) 0x44 fun s => (s.set (uSo (k % 8)) so_SOCTL_ON (bitOf on)).outputs

/-- CONVERTER_RELEASE: REL is written, or a release that waits comes to its tick (R410). -/
def execConverterRelease (t n : Nat) (s : State) : Host.Outcome State Fault Refusal :=
  let s := s.at t
  let n := n % 8
  if s.on (uCv n) cv_CVCTL_REL then .next (s.cvReleaseTry n) else s.hostRow (uCv n) 0x44 fun s => s.cvRel n

/-- CONVERTER_RESTORE: RESTORE is written, or a restore that waits comes to its tick (R411). -/
def execConverterRestore (t n : Nat) (s : State) : Host.Outcome State Fault Refusal :=
  let s := s.at t
  let n := n % 8
  if s.on (uCv n) cv_CVCTL_RESTORE then .next (s.cvRestoreTry n) else s.hostRow (uCv n) 0x44 fun s => s.cvRestore n

end Sys2Proof.Machine
end

