-- ==== Sys2Proof/Machine/HostLink.lean ====
section
/-!
DEFINITION. The rows that are H-Link frames (R113 to R123).
-/

namespace Sys2Proof.Machine

/-- READ (R116). -/
def execRead (t : Nat) (f : HFrame) (s : State) : Host.Outcome State Fault Refusal := (s.at t).hlink .read f []

/-- WRITE with its data words (R116). -/
def execWrite (t : Nat) (f : HFrame) (data : List Word) (s : State) : Host.Outcome State Fault Refusal :=
  (s.at t).hlink .write f (takeWords (requestWords f) data)

/-- WRITEM with its enable words and its data words (R116). -/
def execWritem (t : Nat) (f : HFrame) (enables data : List Word) (s : State) : Host.Outcome State Fault Refusal :=
  (s.at t).hlink .writem f (takeWords (enableWords f) enables ++ takeWords (requestWords f) data)

/-- NOP (R116). -/
def execNop (t : Nat) (f : HFrame) (s : State) : Host.Outcome State Fault Refusal := (s.at t).hlink .nop f []

/-- UNDEFINED_OPCODE: a frame whose OPCODE byte R116 does not define; its CRC follows the header (R116, R118). -/
def execUndefinedOpcode (t : Nat) (f : HFrame) (opcode : Nat) (s : State) : Host.Outcome State Fault Refusal :=
  (s.at t).hlink (.undef opcode) f []

/-- FRAME_ABORT: nCS rises before the request CRC is complete (R122). -/
def execFrameAbort (t port : Nat) (s : State) : Host.Outcome State Fault Refusal :=
  let s := s.at t
  if s.boot = .held then .next s
  else
    let s := s.burstFinish (port % 2)
    .next ((s.inc (uHp port) hp_ABORTCNT_COUNT).raise (uHp port) 2)

end Sys2Proof.Machine
end

