-- ==== Sys2Proof/Machine/SeqAct.lean ====
section
/-!
DEFINITION. The actions of a sequencer that make an access: WREG and POD (R432, R444). They are port 2 of the access rules.
-/

namespace Sys2Proof.Machine

/-- Is a WREG to an address denied (R444)? -/
def wregDenied (a : Nat) : Bool :=
  match targetOf a with
  | some (.reg u o) =>
    let k := u.kind.family
    k = 0 || k = 1 || k = 10 || k = 11 || k = 12 || (u.kind = .sess && o = 0x4C)
  | some _ => true
  | none => false

/-- WREG (R432, R444). -/
def State.sqWreg (s : State) (n : Nat) (a0 a1 : Word) (idx : Nat) : State :=
  let a := bits a0 0 22 * 4
  if wregDenied a || 0xF01000 ≤ a then s.sqFail n idx 1 else
  match s.hostWrite 2 a a1 (bits a0 24 4) false with
  | (0, s) => s
  | (_, s) => s.sqFail n idx 2

/-- POD (R432): the pod's UCTL.EN is written, with the ordering of WREG. -/
def State.sqPod (s : State) (a0 : Word) : State :=
  (s.hostWrite 2 ((uPod (bits a0 0 7)).addr 0xC) (BitVec.ofNat 32 (bits a0 8 1)) 1 false).2

/-- Action WREG of sequencer `n`. -/
def execWreg (t n : Nat) (s : State) : Host.Outcome State Fault Refusal :=
  let s := s.at t
  let n := n % 32
  match s.sqAction n 1 with
  | some (a0, a1, k) => .next ((s.sqWreg n a0 a1 k).sqNext n)
  | none => .next s

/-- Action POD of sequencer `n`. -/
def execPodAction (t n : Nat) (s : State) : Host.Outcome State Fault Refusal :=
  let s := s.at t
  let n := n % 32
  match s.sqAction n 3 with
  | some (a0, _, _) => .next ((s.sqPod a0).sqNext n)
  | none => .next s

end Sys2Proof.Machine
end

