-- ==== Sys2Proof/Machine/Dispatch.lean ====
section
/-!
DEFINITION. Dispatch: one arm per command, each a direct call of its meaning.
-/

namespace Sys2Proof.Machine

open Sys2Proof

/-- The effect of a command on everything but the queue. -/
def exec (i : Instr) (s : State) : Host.Outcome State Fault Refusal :=
  match i with
  | .powerOnReset t refclk pri tmode => Sys2Proof.Machine.execPowerOnReset t refclk pri tmode s
  | .nreset t => Sys2Proof.Machine.execNreset t s
  | .softwareDeviceReset t refclk pri tmode => Sys2Proof.Machine.execSoftwareDeviceReset t refclk pri tmode s
  | .referenceValid t late => Sys2Proof.Machine.execReferenceValid t late s
  | .bootComplete t => Sys2Proof.Machine.execBootComplete t s
  | .pllLock t => Sys2Proof.Machine.execPllLock t s
  | .pllLockLost t => Sys2Proof.Machine.execPllLockLost t s
  | .interpolatorRecalibration t stages => Sys2Proof.Machine.execInterpolatorRecalibration t stages s
  | .vcoreCrossing t mv => Sys2Proof.Machine.execVcoreCrossing t mv s
  | .vcmeasSample t mv => Sys2Proof.Machine.execVcmeasSample t mv s
  | .supplyTrip t idx => Sys2Proof.Machine.execSupplyTrip t idx s
  | .timebaseMonitorWindow t count => Sys2Proof.Machine.execTimebaseMonitorWindow t count s
  | .modecmd t target after frm => Sys2Proof.Machine.execModecmd t target after frm s
  | .calibrationComplete t pass => Sys2Proof.Machine.execCalibrationComplete t pass s
  | .modeTransitionComplete t => Sys2Proof.Machine.execModeTransitionComplete t s
  | .dischargeTimeout t => Sys2Proof.Machine.execDischargeTimeout t s
  | .registerWrite t port a w be => Sys2Proof.Machine.execRegisterWrite t port a w be s
  | .corRead t port a => Sys2Proof.Machine.execCorRead t port a s
  | .wideValueLoRead t port a => Sys2Proof.Machine.execWideValueLoRead t port a s
  | .unitEnable t page on => Sys2Proof.Machine.execUnitEnable t page on s
  | .unitReset t page => Sys2Proof.Machine.execUnitReset t page s
  | .unitResetComplete t page => Sys2Proof.Machine.execUnitResetComplete t page s
  | .faultClear t port page => Sys2Proof.Machine.execFaultClear t port page s
  | .pageLock t port page => Sys2Proof.Machine.execPageLock t port page s
  | .lockall t port => Sys2Proof.Machine.execLockall t port s
  | .lockallComplete t => Sys2Proof.Machine.execLockallComplete t s
  | .mbxSelWrite t port w be => Sys2Proof.Machine.execMbxSelWrite t port w be s
  | .mailboxCaptureDone t => Sys2Proof.Machine.execMailboxCaptureDone t s
  | .signalHostWrite t port n w be => Sys2Proof.Machine.execSignalHostWrite t port n w be s
  | .signalDirectoryWrite t port n w be => Sys2Proof.Machine.execSignalDirectoryWrite t port n w be s
  | .signalBindingWrite t port a w be => Sys2Proof.Machine.execSignalBindingWrite t port a w be s
  | .poolAllocationCommit t port n w be => Sys2Proof.Machine.execPoolAllocationCommit t port n w be s
  | .poolHostWrite t port off w be => Sys2Proof.Machine.execPoolHostWrite t port off w be s
  | .tableMemoryWrite t port off w be => Sys2Proof.Machine.execTableMemoryWrite t port off w be s
  | .read t f => Sys2Proof.Machine.execRead t f s
  | .write t f data => Sys2Proof.Machine.execWrite t f data s
  | .writem t f enables data => Sys2Proof.Machine.execWritem t f enables data s
  | .nop t f => Sys2Proof.Machine.execNop t f s
  | .undefinedOpcode t f opcode => Sys2Proof.Machine.execUndefinedOpcode t f opcode s
  | .frameAbort t port => Sys2Proof.Machine.execFrameAbort t port s
  | .eventBallPulseEnd t x => Sys2Proof.Machine.execEventBallPulseEnd t x s
  | .srcpendClear t port k w be => Sys2Proof.Machine.execSrcpendClear t port k w be s
  | .cadenceEvent t n => Sys2Proof.Machine.execCadenceEvent t n s
  | .syncstart t mask => Sys2Proof.Machine.execSyncstart t mask s
  | .syncstop t mask => Sys2Proof.Machine.execSyncstop t mask s
  | .cadencePeriodWrite t n v => Sys2Proof.Machine.execCadencePeriodWrite t n v s
  | .marginGaugeClear t n => Sys2Proof.Machine.execMarginGaugeClear t n s
  | .podCapture t p => Sys2Proof.Machine.execPodCapture t p s
  | .podDispatch t n => Sys2Proof.Machine.execPodDispatch t n s
  | .ld t p => Sys2Proof.Machine.execLd t p s
  | .st t p => Sys2Proof.Machine.execSt t p s
  | .mpy t p => Sys2Proof.Machine.execMpy t p s
  | .mac t p => Sys2Proof.Machine.execMac t p s
  | .msu t p => Sys2Proof.Machine.execMsu t p s
  | .add t p => Sys2Proof.Machine.execAdd t p s
  | .sub t p => Sys2Proof.Machine.execSub t p s
  | .neg t p => Sys2Proof.Machine.execNeg t p s
  | .abs t p => Sys2Proof.Machine.execAbs t p s
  | .shl t p => Sys2Proof.Machine.execShl t p s
  | .shr t p => Sys2Proof.Machine.execShr t p s
  | .sat t p => Sys2Proof.Machine.execSat t p s
  | .min t p => Sys2Proof.Machine.execMin t p s
  | .max t p => Sys2Proof.Machine.execMax t p s
  | .lim t p => Sys2Proof.Machine.execLim t p s
  | .sel t p => Sys2Proof.Machine.execSel t p s
  | .cmp t p => Sys2Proof.Machine.execCmp t p s
  | .skip t p => Sys2Proof.Machine.execSkip t p s
  | .integ t p => Sys2Proof.Machine.execInteg t p s
  | .diff t p => Sys2Proof.Machine.execDiff t p s
  | .lut t p => Sys2Proof.Machine.execLut t p s
  | .sincos t p => Sys2Proof.Machine.execSincos t p s
  | .clarke t p => Sys2Proof.Machine.execClarke t p s
  | .park t p => Sys2Proof.Machine.execPark t p s
  | .ipark t p => Sys2Proof.Machine.execIpark t p s
  | .vsd t p => Sys2Proof.Machine.execVsd t p s
  | .outOp t p => Sys2Proof.Machine.execOutOp t p s
  | .endRun t p => Sys2Proof.Machine.execEndRun t p s
  | .podApply t p => Sys2Proof.Machine.execPodApply t p s
  | .rotationTick t => Sys2Proof.Machine.execRotationTick t s
  | .laneTestDone t pass step => Sys2Proof.Machine.execLaneTestDone t pass step s
  | .lbistStart t => Sys2Proof.Machine.execLbistStart t s
  | .lbistDone t fail => Sys2Proof.Machine.execLbistDone t fail s
  | .rampSeed t p => Sys2Proof.Machine.execRampSeed t p s
  | .acompWrite t port a c w be => Sys2Proof.Machine.execAcompWrite t port a c w be s
  | .areqHostWrite t port a c w be => Sys2Proof.Machine.execAreqHostWrite t port a c w be s
  | .arenaDecision t a => Sys2Proof.Machine.execArenaDecision t a s
  | .scorebookArm t n => Sys2Proof.Machine.execScorebookArm t n s
  | .scorebookAbort t n => Sys2Proof.Machine.execScorebookAbort t n s
  | .scorebookTrig t n => Sys2Proof.Machine.execScorebookTrig t n s
  | .scorebookSample t n busy => Sys2Proof.Machine.execScorebookSample t n busy s
  | .machWrite t port w be => Sys2Proof.Machine.execMachWrite t port w be s
  | .carrierPeriodWrite t port st w be => Sys2Proof.Machine.execCarrierPeriodWrite t port st w be s
  | .tractionLoadPoint t st peak => Sys2Proof.Machine.execTractionLoadPoint t st peak s
  | .selectionInstant t st => Sys2Proof.Machine.execSelectionInstant t st s
  | .relockTimeout t st => Sys2Proof.Machine.execRelockTimeout t st s
  | .resel t st => Sys2Proof.Machine.execResel t st s
  | .ascCurrentSignChange t st => Sys2Proof.Machine.execAscCurrentSignChange t st s
  | .tspdTimeout t st => Sys2Proof.Machine.execTspdTimeout t st s
  | .protectionSourceActive t src stays => Sys2Proof.Machine.execProtectionSourceActive t src stays s
  | .blankingEnd t st k active => Sys2Proof.Machine.execBlankingEnd t st k active s
  | .softStepEnd t st => Sys2Proof.Machine.execSoftStepEnd t st s
  | .ascStart t st => Sys2Proof.Machine.execAscStart t st s
  | .retryCheck t st gone => Sys2Proof.Machine.execRetryCheck t st gone s
  | .stageResume t st gone => Sys2Proof.Machine.execStageResume t st gone s
  | .bootstrapRefresh t st leg p => Sys2Proof.Machine.execBootstrapRefresh t st leg p s
  | .driverReadyFall t st leg => Sys2Proof.Machine.execDriverReadyFall t st leg s
  | .readyHoldEnd t st leg => Sys2Proof.Machine.execReadyHoldEnd t st leg s
  | .linkSupervisionInstant t => Sys2Proof.Machine.execLinkSupervisionInstant t s
  | .chopperComparatorCrossing t level => Sys2Proof.Machine.execChopperComparatorCrossing t level s
  | .chopperMinTimeEnd t => Sys2Proof.Machine.execChopperMinTimeEnd t s
  | .prechargeGo t => Sys2Proof.Machine.execPrechargeGo t s
  | .prechargeAbort t => Sys2Proof.Machine.execPrechargeAbort t s
  | .contactorOpen t => Sys2Proof.Machine.execContactorOpen t s
  | .prechargeCloseTimer t => Sys2Proof.Machine.execPrechargeCloseTimer t s
  | .prechargeTimeout t => Sys2Proof.Machine.execPrechargeTimeout t s
  | .dischargeOpenWaitEnd t => Sys2Proof.Machine.execDischargeOpenWaitEnd t s
  | .dischargePulse t => Sys2Proof.Machine.execDischargePulse t s
  | .dischargePulseEnd t => Sys2Proof.Machine.execDischargePulseEnd t s
  | .phaseValleyCrossing t n => Sys2Proof.Machine.execPhaseValleyCrossing t n s
  | .phasePeakCrossing t n => Sys2Proof.Machine.execPhasePeakCrossing t n s
  | .phaseMinOnEnd t n => Sys2Proof.Machine.execPhaseMinOnEnd t n s
  | .interleaveWindowOpen t n => Sys2Proof.Machine.execInterleaveWindowOpen t n s
  | .shedDwellExpiry t => Sys2Proof.Machine.execShedDwellExpiry t s
  | .ovtCrossing t above => Sys2Proof.Machine.execOvtCrossing t above s
  | .regStart t dir => Sys2Proof.Machine.execRegStart t dir s
  | .regStop t => Sys2Proof.Machine.execRegStop t s
  | .regStartAbort t => Sys2Proof.Machine.execRegStartAbort t s
  | .vsupSupervisionInstant t => Sys2Proof.Machine.execVsupSupervisionInstant t s
  | .regRetryWaitEnd t => Sys2Proof.Machine.execRegRetryWaitEnd t s
  | .stopRundownEnd t => Sys2Proof.Machine.execStopRundownEnd t s
  | .regDisTimeout t => Sys2Proof.Machine.execRegDisTimeout t s
  | .obaLoadPoint t peak => Sys2Proof.Machine.execObaLoadPoint t peak s
  | .obdLoadPoint t peak => Sys2Proof.Machine.execObdLoadPoint t peak s
  | .pilotEdge t rising => Sys2Proof.Machine.execPilotEdge t rising s
  | .pilotLevelSample t high mv => Sys2Proof.Machine.execPilotLevelSample t high mv s
  | .pilotSteadyEvaluation t mv => Sys2Proof.Machine.execPilotSteadyEvaluation t mv s
  | .proximityMeasurement t ohms => Sys2Proof.Machine.execProximityMeasurement t ohms s
  | .oexpArmWrite t arm => Sys2Proof.Machine.execOexpArmWrite t arm s
  | .acLoadPoint t n => Sys2Proof.Machine.execAcLoadPoint t n s
  | .acStart t n dir => Sys2Proof.Machine.execAcStart t n dir s
  | .acStartAbort t n => Sys2Proof.Machine.execAcStartAbort t n s
  | .acStop t n => Sys2Proof.Machine.execAcStop t n s
  | .alignEnd t n => Sys2Proof.Machine.execAlignEnd t n s
  | .rampCommutation t n => Sys2Proof.Machine.execRampCommutation t n s
  | .zeroCrossArm t n => Sys2Proof.Machine.execZeroCrossArm t n s
  | .zeroCrossing t n k rising stamp => Sys2Proof.Machine.execZeroCrossing t n k rising stamp s
  | .commutation t n => Sys2Proof.Machine.execCommutation t n s
  | .crossingDeadline t n => Sys2Proof.Machine.execCrossingDeadline t n s
  | .catchEnd t n => Sys2Proof.Machine.execCatchEnd t n s
  | .brakeEnd t n => Sys2Proof.Machine.execBrakeEnd t n s
  | .hallEdge t n => Sys2Proof.Machine.execHallEdge t n s
  | .quadStep t c a b stamp => Sys2Proof.Machine.execQuadStep t c a b stamp s
  | .wireFault t c j => Sys2Proof.Machine.execWireFault t c j s
  | .zEdge t c stamp => Sys2Proof.Machine.execZEdge t c stamp s
  | .hallStateChange t c code => Sys2Proof.Machine.execHallStateChange t c code s
  | .zarm t c => Sys2Proof.Machine.execZarm t c s
  | .channelAlign t c => Sys2Proof.Machine.execChannelAlign t c s
  | .channelConfigWrite t port c w be => Sys2Proof.Machine.execChannelConfigWrite t port c w be s
  | .drawPreset t port c w be => Sys2Proof.Machine.execDrawPreset t port c w be s
  | .compareArm t port idx pos w be => Sys2Proof.Machine.execCompareArm t port idx pos w be s
  | .ssiFrameStart t c => Sys2Proof.Machine.execSsiFrameStart t c s
  | .ssiFrameEnd t c raw => Sys2Proof.Machine.execSsiFrameEnd t c raw s
  | .feedbackLatch t c => Sys2Proof.Machine.execFeedbackLatch t c s
  | .emulationStep t c => Sys2Proof.Machine.execEmulationStep t c s
  | .converterSample t n => Sys2Proof.Machine.execConverterSample t n s
  | .conversionComplete t n raw => Sys2Proof.Machine.execConversionComplete t n raw s
  | .windowComparatorActive t n level => Sys2Proof.Machine.execWindowComparatorActive t n level s
  | .urgentHostTrigger t n e => Sys2Proof.Machine.execUrgentHostTrigger t n e s
  | .converterCal t n => Sys2Proof.Machine.execConverterCal t n s
  | .converterCalDone t n gain ofs => Sys2Proof.Machine.execConverterCalDone t n gain ofs s
  | .converterRelease t n => Sys2Proof.Machine.execConverterRelease t n s
  | .converterRestore t n => Sys2Proof.Machine.execConverterRestore t n s
  | .rdptrWrite t port n w be => Sys2Proof.Machine.execRdptrWrite t port n w be s
  | .bankCheck t bank => Sys2Proof.Machine.execBankCheck t bank s
  | .bankCheckDone t => Sys2Proof.Machine.execBankCheckDone t s
  | .bankSwitch t cad => Sys2Proof.Machine.execBankSwitch t cad s
  | .bankSwitchAbort t => Sys2Proof.Machine.execBankSwitchAbort t s
  | .bankSwitchBoundary t => Sys2Proof.Machine.execBankSwitchBoundary t s
  | .mapEvaluation t m => Sys2Proof.Machine.execMapEvaluation t m s
  | .sequencerStep t n => Sys2Proof.Machine.execSequencerStep t n s
  | .sequencerRestart t n => Sys2Proof.Machine.execSequencerRestart t n s
  | .wreg t n => Sys2Proof.Machine.execWreg t n s
  | .setsig t n => Sys2Proof.Machine.execSetsig t n s
  | .podAction t n => Sys2Proof.Machine.execPodAction t n s
  | .areqAction t n => Sys2Proof.Machine.execAreqAction t n s
  | .emit t n => Sys2Proof.Machine.execEmit t n s
  | .cantx t n => Sys2Proof.Machine.execCantx t n s
  | .canFrameAccepted t n frame sof => Sys2Proof.Machine.execCanFrameAccepted t n frame sof s
  | .canRemoteFrame t n => Sys2Proof.Machine.execCanRemoteFrame t n s
  | .canRxAck t n obj seq => Sys2Proof.Machine.execCanRxAck t n obj seq s
  | .canTxRequest t n b => Sys2Proof.Machine.execCanTxRequest t n b s
  | .canTxAbort t n b => Sys2Proof.Machine.execCanTxAbort t n b s
  | .canSelectionInstant t n => Sys2Proof.Machine.execCanSelectionInstant t n s
  | .canTxSuccess t n sof tdcv => Sys2Proof.Machine.execCanTxSuccess t n sof tdcv s
  | .canTxAttemptFail t n cause tdcv => Sys2Proof.Machine.execCanTxAttemptFail t n cause tdcv s
  | .canError t n cause tx data exc => Sys2Proof.Machine.execCanError t n cause tx data exc s
  | .canRecover t n => Sys2Proof.Machine.execCanRecover t n s
  | .busOffRecoveryDone t n => Sys2Proof.Machine.execBusOffRecoveryDone t n s
  | .canIntegrationDone t n => Sys2Proof.Machine.execCanIntegrationDone t n s
  | .serveClaim t => Sys2Proof.Machine.execServeClaim t s
  | .swapDrill t => Sys2Proof.Machine.execSwapDrill t s
  | .drillTestEnd t pass => Sys2Proof.Machine.execDrillTestEnd t pass s
  | .rallyLinkTrained t lat => Sys2Proof.Machine.execRallyLinkTrained t lat s
  | .rallyLinkDown t lost => Sys2Proof.Machine.execRallyLinkDown t lost s
  | .hbSend t => Sys2Proof.Machine.execHbSend t s
  | .hbMessage t w0 w1 w2 w3 => Sys2Proof.Machine.execHbMessage t w0 w1 w2 w3 s
  | .claimMessage t w0 w1 w2 w3 => Sys2Proof.Machine.execClaimMessage t w0 w1 w2 w3 s
  | .offerMessage t w0 w1 w2 w3 => Sys2Proof.Machine.execOfferMessage t w0 w1 w2 w3 s
  | .partnerSilent t => Sys2Proof.Machine.execPartnerSilent t s
  | .carrierSyncReceive t st delay => Sys2Proof.Machine.execCarrierSyncReceive t st delay s
  | .rallyFrameReceive t w => Sys2Proof.Machine.execRallyFrameReceive t w s
  | .takeoverGuardEnd t => Sys2Proof.Machine.execTakeoverGuardEnd t s
  | .takeoverEntry t => Sys2Proof.Machine.execTakeoverEntry t s
  | .handoverTake t => Sys2Proof.Machine.execHandoverTake t s
  | .serveInRise t => Sys2Proof.Machine.execServeInRise t s
  | .handoverDeadline t => Sys2Proof.Machine.execHandoverDeadline t s
  | .contentionDecision t high => Sys2Proof.Machine.execContentionDecision t high s
  | .contentionBackstop t high => Sys2Proof.Machine.execContentionBackstop t high s
  | .contentionLimit t high => Sys2Proof.Machine.execContentionLimit t high s
  | .readbackFailure t => Sys2Proof.Machine.execReadbackFailure t s
  | .stoInputChange t a b => Sys2Proof.Machine.execStoInputChange t a b s
  | .stoSoftRelease t => Sys2Proof.Machine.execStoSoftRelease t s
  | .stoDiscrepancy t => Sys2Proof.Machine.execStoDiscrepancy t s
  | .shcmdRequest t => Sys2Proof.Machine.execShcmdRequest t s
  | .shcmdClear t => Sys2Proof.Machine.execShcmdClear t s
  | .safetySample t => Sys2Proof.Machine.execSafetySample t s
  | .safetyEvaluation t => Sys2Proof.Machine.execSafetyEvaluation t s
  | .sfcmdWrite t port w be => Sys2Proof.Machine.execSfcmdWrite t port w be s
  | .slsDecelEnd t => Sys2Proof.Machine.execSlsDecelEnd t s
  | .ss1Timeout t => Sys2Proof.Machine.execSs1Timeout t s
  | .safeOutputCommandChange t k on => Sys2Proof.Machine.execSafeOutputCommandChange t k on s
  | .safeOutputReadbackSample t k rbh rbl => Sys2Proof.Machine.execSafeOutputReadbackSample t k rbh rbl s
  | .safeOutputTestDue t k => Sys2Proof.Machine.execSafeOutputTestDue t k s
  | .safeOutputTestTimeout t k => Sys2Proof.Machine.execSafeOutputTestTimeout t k s
  | .testall t => Sys2Proof.Machine.execTestall t s
  | .diagnosticLossTimeout t b => Sys2Proof.Machine.execDiagnosticLossTimeout t b s
  | .lossInstant t slot h n => Sys2Proof.Machine.execLossInstant t slot h n s
  | .thermalInstant t => Sys2Proof.Machine.execThermalInstant t s
  | .scrubRead t => Sys2Proof.Machine.execScrubRead t s
  | .signatureCheck t => Sys2Proof.Machine.execSignatureCheck t s
  | .signatureCheckDone t => Sys2Proof.Machine.execSignatureCheckDone t s
  | .nresetRelease t refclk pri tmode => Sys2Proof.Machine.execNresetRelease t refclk pri tmode s
  | .driverReadyRise t st leg => Sys2Proof.Machine.execDriverReadyRise t st leg s
  | .phaseZeroCurrent t n => Sys2Proof.Machine.execPhaseZeroCurrent t n s
  | .phaseMinOffEnd t n => Sys2Proof.Machine.execPhaseMinOffEnd t n s
  | .wireFaultEnd t c j => Sys2Proof.Machine.execWireFaultEnd t c j s
  | .supplyReturn t idx => Sys2Proof.Machine.execSupplyReturn t idx s
  | .canProtocolException t n => Sys2Proof.Machine.execCanProtocolException t n s
  | .safeOutputOverload t k => Sys2Proof.Machine.execSafeOutputOverload t k s
  | .statusHoldEnd t page o lo => Sys2Proof.Machine.execStatusHoldEnd t page o lo s

end Sys2Proof.Machine
end

