-- ==== Sys2Proof/Safety.lean ====
section
/-!
DEFINITION. What claims call safe: the stored form of a state, and a step that goes on; and the words that claims share.
-/

namespace Sys2Proof.Machine

/-- The stored form that every step keeps: memory and registers in their canonical forms. -/
def State.Inv (s : State) : Prop := Memory.wf s.mem = true ∧ scanon resetWordAt s.regs = true

/-- A step that goes on to a next state. -/
def goesOn (o : Host.Outcome State Fault Refusal) : Prop := ∃ t, o = .next t

/-- Does an event of a unit stand in its EVSTAT (R93)? -/
abbrev State.evBit (s : State) (u : Unit) (b : Nat) : Bool := (s.getW (u.addr 0x10)).getLsbD b

/-- Pod `p` has the run `r` in progress, and the word `w` at its index has the opcode `op` and lies in a codeword without
symbols in error (R131, R571). -/
abbrev State.microAt (s : State) (p op : Nat) (r : PodRun) (w : Word) : Prop :=
  (s.pod p).run = some r ∧ s.progWord p r.pc = w ∧ bits w 26 6 = op ∧ s.errs (40 * p + r.pc % 256 / 8) = []

/-- The run after a micro-op whose exact result `v` goes to the accumulator A of the word `w`: saturated once, a change noted, and
the index at the next micro-op (R141, R147). -/
abbrev PodRun.putsAcc (r : PodRun) (w : Word) (v : Int) : PodRun :=
  { r.setAcc (fieldA w) (satAcc v) with pc := r.pc + 1, accSat := r.accSat || satAcc v ≠ v }

/-- No reset holds a unit or an ancestor of it (R16). -/
abbrev State.unheld (s : State) (u : Unit) : Prop := ∀ v ∈ u.ancestors, s.on v hdr_UCTL_URST = false

/-- A host's access of the register at an offset of a unit's page is served as it stands: the device is not held in reset, the boot and
the mode serve the page, and no reset holds the unit (R16, R17, R81, R588). -/
abbrev State.serves (s : State) (u : Unit) (o : Nat) : Prop :=
  s.boot ≠ .held ∧ s.served (.reg u o) = true ∧ s.unheld u

/-- No burst of a port waits for its words (R104). -/
abbrev State.idlePort (s : State) (p : Nat) : Prop := (s.port p).burst = none

/-- The boot is over, the mode is not DORMANT, and no LOCKALL and no software device reset is in progress: an access to a page
that no reset holds is served as it stands (R17, R81, R100, R582, R588). -/
abbrev State.calm (s : State) : Prop :=
  s.boot = .done ∧ s.inMode .dormant = false ∧ s.lockBusy = false ∧ s.swReset = false

/-- A word in which the bits of a mask take those of another word. -/
abbrev maskedWord (m old new : Word) : Word := (old &&& ~~~m) ||| (new &&& m)

/-- The bits that a host write of a word of a unit can change: the RW fields, and where the page is not locked the RWL fields,
within the bytes that are enabled (R94, R97, R103). -/
abbrev State.writable (s : State) (u : Unit) (o be : Nat) : Word :=
  (kindMask .rw (u.fieldsAt o) ||| (if s.on u hdr_UCTL_LOCK then 0 else kindMask .rwl (u.fieldsAt o))) &&& beMask be

/-- The words in which the event router notes a delivery: its own event word and its sixteen words of pending sources (R93, R129). -/
def routerWords : List Nat := uRouter.addr 0x10 :: (List.range 16).map fun k => uRouter.addr (0x100 + 4 * k)

/-- Every register word outside a list of addresses is as before. -/
abbrev State.keeps (s t : State) (l : List Nat) : Prop := ∀ a, a ∉ l → t.getW a = s.getW a

/-- The signal storage of the device: the value and status words of the signals (R23). -/
abbrev inSignals (a : Nat) : Bool := decide (0x354000 ≤ a) && decide (a < 0x358000)

/-- Every register word outside a list of addresses and outside the signal storage is as before. -/
abbrev State.keepsRegs (s t : State) (l : List Nat) : Prop := ∀ a, a ∉ l → inSignals a = false → t.getW a = s.getW a

/-- The commands that store to no addressed memory, on any path of theirs. The others are those through which a host write, a
mode change, a reset, a boot, a correction of a codeword or a delivery to a memory can reach a byte. -/
def storesNothing : Instr → Bool
  | .powerOnReset _ _ _ _ | .nreset _ | .softwareDeviceReset _ _ _ _ | .referenceValid _ _ | .pllLock _
  | .pllLockLost _ | .interpolatorRecalibration _ _ | .vcoreCrossing _ _ | .vcmeasSample _ _ | .supplyTrip _ _
  | .timebaseMonitorWindow _ _ | .dischargeTimeout _ | .lockallComplete _ | .mailboxCaptureDone _
  | .eventBallPulseEnd _ _ | .podApply _ _ | .rotationTick _ | .laneTestDone _ _ _ | .lbistDone _ _
  | .arenaDecision _ _ | .tractionLoadPoint _ _ _ | .selectionInstant _ _ | .relockTimeout _ _
  | .ascCurrentSignChange _ _ | .tspdTimeout _ _ | .protectionSourceActive _ _ _ | .blankingEnd _ _ _ _
  | .softStepEnd _ _ | .ascStart _ _ | .retryCheck _ _ _ | .stageResume _ _ _ | .bootstrapRefresh _ _ _ _
  | .driverReadyFall _ _ _ | .readyHoldEnd _ _ _ | .linkSupervisionInstant _ | .chopperComparatorCrossing _ _
  | .chopperMinTimeEnd _ | .prechargeCloseTimer _ | .prechargeTimeout _ | .dischargeOpenWaitEnd _ | .dischargePulse _
  | .dischargePulseEnd _ | .phaseValleyCrossing _ _ | .phasePeakCrossing _ _ | .phaseMinOnEnd _ _
  | .interleaveWindowOpen _ _ | .shedDwellExpiry _ | .ovtCrossing _ _ | .vsupSupervisionInstant _ | .regRetryWaitEnd _
  | .stopRundownEnd _ | .regDisTimeout _ | .obaLoadPoint _ _ | .obdLoadPoint _ _ | .pilotEdge _ _
  | .pilotLevelSample _ _ _ | .pilotSteadyEvaluation _ _ | .proximityMeasurement _ _ | .acLoadPoint _ _
  | .alignEnd _ _ | .rampCommutation _ _ | .zeroCrossArm _ _ | .zeroCrossing _ _ _ _ _ | .commutation _ _
  | .crossingDeadline _ _ | .brakeEnd _ _ | .hallEdge _ _ | .quadStep _ _ _ _ _ | .wireFault _ _ _ | .zEdge _ _ _
  | .hallStateChange _ _ _ | .ssiFrameStart _ _ | .ssiFrameEnd _ _ _ | .feedbackLatch _ _ | .emulationStep _ _
  | .converterSample _ _ | .windowComparatorActive _ _ _ | .converterCalDone _ _ _ _ | .bankSwitchBoundary _
  | .canRemoteFrame _ _ | .canSelectionInstant _ _ | .canTxSuccess _ _ _ _ | .canTxAttemptFail _ _ _ _
  | .canError _ _ _ _ _ _ | .busOffRecoveryDone _ _ | .canIntegrationDone _ _ | .drillTestEnd _ _
  | .rallyLinkTrained _ _ | .rallyLinkDown _ _ | .hbSend _ | .hbMessage _ _ _ _ _ | .claimMessage _ _ _ _ _
  | .partnerSilent _ | .carrierSyncReceive _ _ _ | .takeoverGuardEnd _ | .handoverTake _ | .handoverDeadline _
  | .readbackFailure _ | .stoInputChange _ _ _ | .stoSoftRelease _ | .stoDiscrepancy _ | .safetySample _
  | .safetyEvaluation _ | .slsDecelEnd _ | .ss1Timeout _ | .safeOutputReadbackSample _ _ _ _ | .safeOutputTestDue _ _
  | .safeOutputTestTimeout _ _ | .diagnosticLossTimeout _ _ | .lossInstant _ _ _ _ | .signatureCheck _
  | .signatureCheckDone _ | .nresetRelease _ _ _ _ | .driverReadyRise _ _ _ | .phaseZeroCurrent _ _
  | .phaseMinOffEnd _ _ | .wireFaultEnd _ _ _ | .supplyReturn _ _ | .canProtocolException _ _
  | .safeOutputOverload _ _ | .statusHoldEnd _ _ _ _ => true
  | .bootComplete _ | .modecmd _ _ _ _ | .calibrationComplete _ _ | .modeTransitionComplete _
  | .registerWrite _ _ _ _ _ | .corRead _ _ _ | .wideValueLoRead _ _ _ | .unitEnable _ _ _ | .unitReset _ _
  | .unitResetComplete _ _ | .faultClear _ _ _ | .pageLock _ _ _ | .lockall _ _ | .mbxSelWrite _ _ _ _
  | .signalHostWrite _ _ _ _ _ | .signalDirectoryWrite _ _ _ _ _ | .signalBindingWrite _ _ _ _ _
  | .poolAllocationCommit _ _ _ _ _ | .poolHostWrite _ _ _ _ _ | .tableMemoryWrite _ _ _ _ _ | .read _ _
  | .write _ _ _ | .writem _ _ _ _ | .nop _ _ | .undefinedOpcode _ _ _ | .frameAbort _ _ | .srcpendClear _ _ _ _ _
  | .cadenceEvent _ _ | .syncstart _ _ | .syncstop _ _ | .cadencePeriodWrite _ _ _ | .marginGaugeClear _ _
  | .podCapture _ _ | .podDispatch _ _ | .ld _ _ | .st _ _ | .mpy _ _ | .mac _ _ | .msu _ _ | .add _ _ | .sub _ _
  | .neg _ _ | .abs _ _ | .shl _ _ | .shr _ _ | .sat _ _ | .min _ _ | .max _ _ | .lim _ _ | .sel _ _ | .cmp _ _
  | .skip _ _ | .integ _ _ | .diff _ _ | .lut _ _ | .sincos _ _ | .clarke _ _ | .park _ _ | .ipark _ _ | .vsd _ _
  | .outOp _ _ | .endRun _ _ | .lbistStart _ | .rampSeed _ _ | .acompWrite _ _ _ _ _ _ | .areqHostWrite _ _ _ _ _ _
  | .scorebookArm _ _ | .scorebookAbort _ _ | .scorebookTrig _ _ | .scorebookSample _ _ _ | .machWrite _ _ _ _
  | .carrierPeriodWrite _ _ _ _ _ | .resel _ _ | .prechargeGo _ | .prechargeAbort _ | .contactorOpen _ | .regStart _ _
  | .regStop _ | .regStartAbort _ | .oexpArmWrite _ _ | .acStart _ _ _ | .acStartAbort _ _ | .acStop _ _
  | .catchEnd _ _ | .zarm _ _ | .channelAlign _ _ | .channelConfigWrite _ _ _ _ _ | .drawPreset _ _ _ _ _
  | .compareArm _ _ _ _ _ _ | .conversionComplete _ _ _ | .urgentHostTrigger _ _ _ | .converterCal _ _
  | .converterRelease _ _ | .converterRestore _ _ | .rdptrWrite _ _ _ _ _ | .bankCheck _ _ | .bankCheckDone _
  | .bankSwitch _ _ | .bankSwitchAbort _ | .mapEvaluation _ _ | .sequencerStep _ _ | .sequencerRestart _ _ | .wreg _ _
  | .setsig _ _ | .podAction _ _ | .areqAction _ _ | .emit _ _ | .cantx _ _ | .canFrameAccepted _ _ _ _
  | .canRxAck _ _ _ _ | .canTxRequest _ _ _ | .canTxAbort _ _ _ | .canRecover _ _ | .serveClaim _ | .swapDrill _
  | .offerMessage _ _ _ _ _ | .rallyFrameReceive _ _ | .takeoverEntry _ | .serveInRise _ | .contentionDecision _ _
  | .contentionBackstop _ _ | .contentionLimit _ _ | .shcmdRequest _ | .shcmdClear _ | .sfcmdWrite _ _ _ _
  | .safeOutputCommandChange _ _ _ | .testall _ | .thermalInstant _ | .scrubRead _ => false

/-- The commands that can store only through a reset of a unit for whose end they wait (R17), or through a burst that waits for its
words (R104). -/
def storesAfterReset : Instr → Bool
  | .unitReset _ _ | .unitResetComplete _ _ | .frameAbort _ _ | .syncstart _ _ | .syncstop _ _
  | .cadencePeriodWrite _ _ _ | .marginGaugeClear _ _ | .lbistStart _ | .rampSeed _ _ | .scorebookArm _ _
  | .scorebookAbort _ _ | .scorebookTrig _ _ | .resel _ _ | .prechargeGo _ | .prechargeAbort _ | .contactorOpen _
  | .regStart _ _ | .regStop _ | .regStartAbort _ | .oexpArmWrite _ _ | .acStartAbort _ _ | .acStop _ _ | .zarm _ _
  | .channelAlign _ _ | .urgentHostTrigger _ _ _ | .converterCal _ _ | .converterRelease _ _ | .converterRestore _ _
  | .bankCheck _ _ | .bankSwitch _ _ | .bankSwitchAbort _ | .sequencerRestart _ _ | .canTxRequest _ _ _
  | .canTxAbort _ _ _ | .canRecover _ _ | .serveClaim _ | .swapDrill _ | .shcmdRequest _ | .shcmdClear _
  | .safeOutputCommandChange _ _ _ | .testall _ => true
  | .powerOnReset _ _ _ _ | .nreset _ | .softwareDeviceReset _ _ _ _ | .referenceValid _ _ | .bootComplete _
  | .pllLock _ | .pllLockLost _ | .interpolatorRecalibration _ _ | .vcoreCrossing _ _ | .vcmeasSample _ _
  | .supplyTrip _ _ | .timebaseMonitorWindow _ _ | .modecmd _ _ _ _ | .calibrationComplete _ _
  | .modeTransitionComplete _ | .dischargeTimeout _ | .registerWrite _ _ _ _ _ | .corRead _ _ _
  | .wideValueLoRead _ _ _ | .unitEnable _ _ _ | .faultClear _ _ _ | .pageLock _ _ _ | .lockall _ _
  | .lockallComplete _ | .mbxSelWrite _ _ _ _ | .mailboxCaptureDone _ | .signalHostWrite _ _ _ _ _
  | .signalDirectoryWrite _ _ _ _ _ | .signalBindingWrite _ _ _ _ _ | .poolAllocationCommit _ _ _ _ _
  | .poolHostWrite _ _ _ _ _ | .tableMemoryWrite _ _ _ _ _ | .read _ _ | .write _ _ _ | .writem _ _ _ _ | .nop _ _
  | .undefinedOpcode _ _ _ | .eventBallPulseEnd _ _ | .srcpendClear _ _ _ _ _ | .cadenceEvent _ _ | .podCapture _ _
  | .podDispatch _ _ | .ld _ _ | .st _ _ | .mpy _ _ | .mac _ _ | .msu _ _ | .add _ _ | .sub _ _ | .neg _ _ | .abs _ _
  | .shl _ _ | .shr _ _ | .sat _ _ | .min _ _ | .max _ _ | .lim _ _ | .sel _ _ | .cmp _ _ | .skip _ _ | .integ _ _
  | .diff _ _ | .lut _ _ | .sincos _ _ | .clarke _ _ | .park _ _ | .ipark _ _ | .vsd _ _ | .outOp _ _ | .endRun _ _
  | .podApply _ _ | .rotationTick _ | .laneTestDone _ _ _ | .lbistDone _ _ | .acompWrite _ _ _ _ _ _
  | .areqHostWrite _ _ _ _ _ _ | .arenaDecision _ _ | .scorebookSample _ _ _ | .machWrite _ _ _ _
  | .carrierPeriodWrite _ _ _ _ _ | .tractionLoadPoint _ _ _ | .selectionInstant _ _ | .relockTimeout _ _
  | .ascCurrentSignChange _ _ | .tspdTimeout _ _ | .protectionSourceActive _ _ _ | .blankingEnd _ _ _ _
  | .softStepEnd _ _ | .ascStart _ _ | .retryCheck _ _ _ | .stageResume _ _ _ | .bootstrapRefresh _ _ _ _
  | .driverReadyFall _ _ _ | .readyHoldEnd _ _ _ | .linkSupervisionInstant _ | .chopperComparatorCrossing _ _
  | .chopperMinTimeEnd _ | .prechargeCloseTimer _ | .prechargeTimeout _ | .dischargeOpenWaitEnd _ | .dischargePulse _
  | .dischargePulseEnd _ | .phaseValleyCrossing _ _ | .phasePeakCrossing _ _ | .phaseMinOnEnd _ _
  | .interleaveWindowOpen _ _ | .shedDwellExpiry _ | .ovtCrossing _ _ | .vsupSupervisionInstant _ | .regRetryWaitEnd _
  | .stopRundownEnd _ | .regDisTimeout _ | .obaLoadPoint _ _ | .obdLoadPoint _ _ | .pilotEdge _ _
  | .pilotLevelSample _ _ _ | .pilotSteadyEvaluation _ _ | .proximityMeasurement _ _ | .acLoadPoint _ _
  | .acStart _ _ _ | .alignEnd _ _ | .rampCommutation _ _ | .zeroCrossArm _ _ | .zeroCrossing _ _ _ _ _
  | .commutation _ _ | .crossingDeadline _ _ | .catchEnd _ _ | .brakeEnd _ _ | .hallEdge _ _ | .quadStep _ _ _ _ _
  | .wireFault _ _ _ | .zEdge _ _ _ | .hallStateChange _ _ _ | .channelConfigWrite _ _ _ _ _ | .drawPreset _ _ _ _ _
  | .compareArm _ _ _ _ _ _ | .ssiFrameStart _ _ | .ssiFrameEnd _ _ _ | .feedbackLatch _ _ | .emulationStep _ _
  | .converterSample _ _ | .conversionComplete _ _ _ | .windowComparatorActive _ _ _ | .converterCalDone _ _ _ _
  | .rdptrWrite _ _ _ _ _ | .bankCheckDone _ | .bankSwitchBoundary _ | .mapEvaluation _ _ | .sequencerStep _ _
  | .wreg _ _ | .setsig _ _ | .podAction _ _ | .areqAction _ _ | .emit _ _ | .cantx _ _ | .canFrameAccepted _ _ _ _
  | .canRemoteFrame _ _ | .canRxAck _ _ _ _ | .canSelectionInstant _ _ | .canTxSuccess _ _ _ _
  | .canTxAttemptFail _ _ _ _ | .canError _ _ _ _ _ _ | .busOffRecoveryDone _ _ | .canIntegrationDone _ _
  | .drillTestEnd _ _ | .rallyLinkTrained _ _ | .rallyLinkDown _ _ | .hbSend _ | .hbMessage _ _ _ _ _
  | .claimMessage _ _ _ _ _ | .offerMessage _ _ _ _ _ | .partnerSilent _ | .carrierSyncReceive _ _ _
  | .rallyFrameReceive _ _ | .takeoverGuardEnd _ | .takeoverEntry _ | .handoverTake _ | .serveInRise _
  | .handoverDeadline _ | .contentionDecision _ _ | .contentionBackstop _ _ | .contentionLimit _ _
  | .readbackFailure _ | .stoInputChange _ _ _ | .stoSoftRelease _ | .stoDiscrepancy _ | .safetySample _
  | .safetyEvaluation _ | .sfcmdWrite _ _ _ _ | .slsDecelEnd _ | .ss1Timeout _ | .safeOutputReadbackSample _ _ _ _
  | .safeOutputTestDue _ _ | .safeOutputTestTimeout _ _ | .diagnosticLossTimeout _ _ | .lossInstant _ _ _ _
  | .thermalInstant _ | .scrubRead _ | .signatureCheck _ | .signatureCheckDone _ | .nresetRelease _ _ _ _
  | .driverReadyRise _ _ _ | .phaseZeroCurrent _ _ | .phaseMinOffEnd _ _ | .wireFaultEnd _ _ _ | .supplyReturn _ _
  | .canProtocolException _ _ | .safeOutputOverload _ _ | .statusHoldEnd _ _ _ _ => false

end Sys2Proof.Machine
end

