-- ==== Sys2Proof/Certificates/Slice0/Obligations.lean ====
section
/-!
DEFINITION. The statements for the provers, from the numbered rules of the spec.
-/

open Sys2Proof Sys2Proof.Machine

/-- The number forms of a pod: saturation, rounding half to even, conversion to Q15. R142 (and the clamp of R141): what every
result of a micro-op is made from. -/
def Obligations.NumberForms : Prop :=
  (∀ v : Int, satAcc v = max (-(2 ^ 39)) (min v (2 ^ 39 - 1))) ∧
  (∀ v : Int, roundQ15 v =
    if 0x4000 < v % 0x8000 ∨ (v % 0x8000 = 0x4000 ∧ v / 0x8000 % 2 = 1) then v / 0x8000 + 1 else v / 0x8000) ∧
  (∀ v : Int, satQ15 v = max (-32768) (min v 32767))

/-- The operand forms of the micro-ops. R141, R145, R147: a Q15 operand is its raw value times 2^15, a gain m times 2^(15 +
s), a product of two is shifted by the gains. -/
def Obligations.MicroOperands : Prop :=
  (∀ (s : State) (p : Nat) (r : PodRun) (c : Nat),
    s.srcAcc p r c =
      if c < 0x40 then r.node c * 2 ^ 15
      else if c < 0x50 then s.runIn p r (c - 0x40) * 2 ^ 15
      else if c < 0x58 then (r.gains.getD (c - 0x50) (0, 0)).1 * 2 ^ (15 + (r.gains.getD (c - 0x50) (0, 0)).2)
      else 0) ∧
  (∀ (s : State) (p : Nat) (r : PodRun) (x y : Nat), x < 0x50 → y < 0x50 →
    s.product p r x y = s.src16 p r x * s.src16 p r y) ∧
  (∀ (s : State) (p : Nat) (r : PodRun) (x k : Nat), x < 0x50 → k < 8 →
    s.product p r x (0x50 + k) = s.src16 p r x * (r.gains.getD k (0, 0)).1 * 2 ^ (r.gains.getD k (0, 0)).2) ∧
  (∀ (s : State) (p : Nat) (r : PodRun) (j k : Nat), j < 8 → k < 8 →
    s.product p r (0x50 + j) (0x50 + k) = (r.gains.getD j (0, 0)).1 * (r.gains.getD k (0, 0)).1 *
      2 ^ ((r.gains.getD j (0, 0)).2 + (r.gains.getD k (0, 0)).2)) ∧
  (∀ (s : State) (p : Nat) (r : PodRun) (w : Word),
    s.operandW p r w =
      if bits w 20 2 = 0 then s.srcAcc p r (bits w 0 8)
      else if bits w 20 2 = 1 then (w.extractLsb' 0 16).toInt * 2 ^ 15
      else r.acc (bits w 0 4))

/-- LD, MPY, MAC, MSU, ADD, SUB, NEG, ABS, SHL, SHR, MIN and MAX complete with their result. R141, R145, R147: the accumulator
micro-ops. -/
def Obligations.MicroArithmetic : Prop :=
  (∀ (t : Nat) (p : Nat) (r : PodRun) (w : Word) (s : State),
      s.microAt p 1 r w →
      ∃ s', exec (.ld t p) s = .next s' ∧
        ((s'.pod p).run = some (if bits w 20 2 = 3 then { r.setAcc (fieldA w) (s.podIn p (bits w 0 4)) with pc := r.pc + 1 } else
          (r.putsAcc w (s.operandW p r w)))) ∧
        s.keeps s' ((uPod p).addr pod_RUNSTAT_ACCSAT.off :: (uPod p).addr 0x10 :: routerWords) ∧
        s'.mem = s.mem ∧
        (∀ q, q ≠ p → s'.pod q = s.pod q)) ∧
  (∀ (t : Nat) (p : Nat) (r : PodRun) (w : Word) (s : State),
      s.microAt p 3 r w →
      ∃ s', exec (.mpy t p) s = .next s' ∧
        (s'.pod p).run = some (r.putsAcc w (s.product p r (bits w 8 8) (bits w 0 8))) ∧
        (s'.get (uPod p) pod_RUNSTAT_ACCSAT = (if satAcc (s.product p r (bits w 8 8) (bits w 0 8)) ≠ (s.product p r (bits w 8 8) (bits w 0 8))
            then 1 else s.get (uPod p) pod_RUNSTAT_ACCSAT)) ∧
        (satAcc (s.product p r (bits w 8 8) (bits w 0 8)) ≠ (s.product p r (bits w 8 8) (bits w 0 8)) → r.accSat = false → s'.evBit (uPod p) 1
            = true) ∧
        s.keeps s' ((uPod p).addr pod_RUNSTAT_ACCSAT.off :: (uPod p).addr 0x10 :: routerWords) ∧
        s'.mem = s.mem ∧
        (∀ q, q ≠ p → s'.pod q = s.pod q)) ∧
  (∀ (t : Nat) (p : Nat) (r : PodRun) (w : Word) (s : State),
      s.microAt p 4 r w →
      ∃ s', exec (.mac t p) s = .next s' ∧
        (s'.pod p).run = some (r.putsAcc w (r.acc (fieldA w) + s.product p r (bits w 8 8) (bits w 0 8))) ∧
        (s'.get (uPod p) pod_RUNSTAT_ACCSAT = (if satAcc (r.acc (fieldA w) + s.product p r (bits w 8 8) (bits w 0 8)) ≠ (r.acc (fieldA w)
            + s.product p r (bits w 8 8) (bits w 0 8)) then 1 else s.get (uPod p) pod_RUNSTAT_ACCSAT)) ∧
        (satAcc (r.acc (fieldA w) + s.product p r (bits w 8 8) (bits w 0 8)) ≠ (r.acc (fieldA w) + s.product p r (bits w 8 8) (bits w 0 8))
            → r.accSat = false → s'.evBit (uPod p) 1 = true) ∧
        s.keeps s' ((uPod p).addr pod_RUNSTAT_ACCSAT.off :: (uPod p).addr 0x10 :: routerWords) ∧
        s'.mem = s.mem ∧
        (∀ q, q ≠ p → s'.pod q = s.pod q)) ∧
  (∀ (t : Nat) (p : Nat) (r : PodRun) (w : Word) (s : State),
      s.microAt p 5 r w →
      ∃ s', exec (.msu t p) s = .next s' ∧
        (s'.pod p).run = some (r.putsAcc w (r.acc (fieldA w) - s.product p r (bits w 8 8) (bits w 0 8))) ∧
        (s'.get (uPod p) pod_RUNSTAT_ACCSAT = (if satAcc (r.acc (fieldA w) - s.product p r (bits w 8 8) (bits w 0 8)) ≠ (r.acc (fieldA w) - s.product p r (bits w 8 8) (bits w 0 8))
            then 1 else s.get (uPod p) pod_RUNSTAT_ACCSAT)) ∧
        (satAcc (r.acc (fieldA w) - s.product p r (bits w 8 8) (bits w 0 8)) ≠ (r.acc (fieldA w) - s.product p r (bits w 8 8) (bits w 0 8))
            → r.accSat = false → s'.evBit (uPod p) 1 = true) ∧
        s.keeps s' ((uPod p).addr pod_RUNSTAT_ACCSAT.off :: (uPod p).addr 0x10 :: routerWords) ∧
        s'.mem = s.mem ∧
        (∀ q, q ≠ p → s'.pod q = s.pod q)) ∧
  (∀ (t : Nat) (p : Nat) (r : PodRun) (w : Word) (s : State),
      s.microAt p 6 r w →
      ∃ s', exec (.add t p) s = .next s' ∧
        (s'.pod p).run = some (r.putsAcc w (r.acc (fieldA w) + s.operandW p r w)) ∧
        (s'.get (uPod p) pod_RUNSTAT_ACCSAT = (if satAcc (r.acc (fieldA w) + s.operandW p r w) ≠ (r.acc (fieldA w) + s.operandW p r w)
            then 1 else s.get (uPod p) pod_RUNSTAT_ACCSAT)) ∧
        (satAcc (r.acc (fieldA w) + s.operandW p r w) ≠ (r.acc (fieldA w) + s.operandW p r w) → r.accSat = false → s'.evBit (uPod p) 1
            = true) ∧
        s.keeps s' ((uPod p).addr pod_RUNSTAT_ACCSAT.off :: (uPod p).addr 0x10 :: routerWords) ∧
        s'.mem = s.mem ∧
        (∀ q, q ≠ p → s'.pod q = s.pod q)) ∧
  (∀ (t : Nat) (p : Nat) (r : PodRun) (w : Word) (s : State),
      s.microAt p 7 r w →
      ∃ s', exec (.sub t p) s = .next s' ∧
        (s'.pod p).run = some (r.putsAcc w (r.acc (fieldA w) - s.operandW p r w)) ∧
        (s'.get (uPod p) pod_RUNSTAT_ACCSAT = (if satAcc (r.acc (fieldA w) - s.operandW p r w) ≠ (r.acc (fieldA w) - s.operandW p r w)
            then 1 else s.get (uPod p) pod_RUNSTAT_ACCSAT)) ∧
        (satAcc (r.acc (fieldA w) - s.operandW p r w) ≠ (r.acc (fieldA w) - s.operandW p r w) → r.accSat = false → s'.evBit (uPod p) 1
            = true) ∧
        s.keeps s' ((uPod p).addr pod_RUNSTAT_ACCSAT.off :: (uPod p).addr 0x10 :: routerWords) ∧
        s'.mem = s.mem ∧
        (∀ q, q ≠ p → s'.pod q = s.pod q)) ∧
  (∀ (t : Nat) (p : Nat) (r : PodRun) (w : Word) (s : State),
      s.microAt p 8 r w →
      ∃ s', exec (.neg t p) s = .next s' ∧
        (s'.pod p).run = some (r.putsAcc w (-(r.acc (fieldA w)))) ∧
        (s'.get (uPod p) pod_RUNSTAT_ACCSAT = (if satAcc (-(r.acc (fieldA w))) ≠ (-(r.acc (fieldA w))) then 1 else s.get (uPod p) pod_RUNSTAT_ACCSAT)) ∧
        (satAcc (-(r.acc (fieldA w))) ≠ (-(r.acc (fieldA w))) → r.accSat = false → s'.evBit (uPod p) 1 = true) ∧
        s.keeps s' ((uPod p).addr pod_RUNSTAT_ACCSAT.off :: (uPod p).addr 0x10 :: routerWords) ∧
        s'.mem = s.mem ∧
        (∀ q, q ≠ p → s'.pod q = s.pod q)) ∧
  (∀ (t : Nat) (p : Nat) (r : PodRun) (w : Word) (s : State),
      s.microAt p 9 r w →
      ∃ s', exec (.abs t p) s = .next s' ∧
        (s'.pod p).run = some (r.putsAcc w (((r.acc (fieldA w)).natAbs : Int))) ∧
        (s'.get (uPod p) pod_RUNSTAT_ACCSAT = (if satAcc (((r.acc (fieldA w)).natAbs : Int)) ≠ (((r.acc (fieldA w)).natAbs : Int))
            then 1 else s.get (uPod p) pod_RUNSTAT_ACCSAT)) ∧
        (satAcc (((r.acc (fieldA w)).natAbs : Int)) ≠ (((r.acc (fieldA w)).natAbs : Int)) → r.accSat = false → s'.evBit (uPod p) 1
            = true) ∧
        s.keeps s' ((uPod p).addr pod_RUNSTAT_ACCSAT.off :: (uPod p).addr 0x10 :: routerWords) ∧
        s'.mem = s.mem ∧
        (∀ q, q ≠ p → s'.pod q = s.pod q)) ∧
  (∀ (t : Nat) (p : Nat) (r : PodRun) (w : Word) (s : State),
      s.microAt p 10 r w →
      ∃ s', exec (.shl t p) s = .next s' ∧
        (s'.pod p).run = some (r.putsAcc w (r.acc (fieldA w) * 2 ^ bits w 0 4)) ∧
        (s'.get (uPod p) pod_RUNSTAT_ACCSAT = (if satAcc (r.acc (fieldA w) * 2 ^ bits w 0 4) ≠ (r.acc (fieldA w) * 2 ^ bits w 0 4)
            then 1 else s.get (uPod p) pod_RUNSTAT_ACCSAT)) ∧
        (satAcc (r.acc (fieldA w) * 2 ^ bits w 0 4) ≠ (r.acc (fieldA w) * 2 ^ bits w 0 4) → r.accSat = false → s'.evBit (uPod p) 1
            = true) ∧
        s.keeps s' ((uPod p).addr pod_RUNSTAT_ACCSAT.off :: (uPod p).addr 0x10 :: routerWords) ∧
        s'.mem = s.mem ∧
        (∀ q, q ≠ p → s'.pod q = s.pod q)) ∧
  (∀ (t : Nat) (p : Nat) (r : PodRun) (w : Word) (s : State),
      s.microAt p 11 r w →
      ∃ s', exec (.shr t p) s = .next s' ∧
        (s'.pod p).run = some { r.setAcc (fieldA w) (r.acc (fieldA w) / 2 ^ bits w 0 5) with pc := r.pc + 1 } ∧
        s'.regs = s.regs ∧
        s'.mem = s.mem ∧
        (∀ q, q ≠ p → s'.pod q = s.pod q)) ∧
  (∀ (t : Nat) (p : Nat) (r : PodRun) (w : Word) (s : State),
      s.microAt p 13 r w →
      ∃ s', exec (.min t p) s = .next s' ∧
        (s'.pod p).run = some (r.putsAcc w (min (r.acc (fieldA w)) (s.operandW p r w))) ∧
        (s'.get (uPod p) pod_RUNSTAT_ACCSAT = (if satAcc (min (r.acc (fieldA w)) (s.operandW p r w)) ≠ (min (r.acc (fieldA w)) (s.operandW p r w))
            then 1 else s.get (uPod p) pod_RUNSTAT_ACCSAT)) ∧
        (satAcc (min (r.acc (fieldA w)) (s.operandW p r w)) ≠ (min (r.acc (fieldA w)) (s.operandW p r w)) → r.accSat = false → s'.evBit (uPod p) 1
            = true) ∧
        s.keeps s' ((uPod p).addr pod_RUNSTAT_ACCSAT.off :: (uPod p).addr 0x10 :: routerWords) ∧
        s'.mem = s.mem ∧
        (∀ q, q ≠ p → s'.pod q = s.pod q)) ∧
  (∀ (t : Nat) (p : Nat) (r : PodRun) (w : Word) (s : State),
      s.microAt p 14 r w →
      ∃ s', exec (.max t p) s = .next s' ∧
        (s'.pod p).run = some (r.putsAcc w (max (r.acc (fieldA w)) (s.operandW p r w))) ∧
        (s'.get (uPod p) pod_RUNSTAT_ACCSAT = (if satAcc (max (r.acc (fieldA w)) (s.operandW p r w)) ≠ (max (r.acc (fieldA w)) (s.operandW p r w))
            then 1 else s.get (uPod p) pod_RUNSTAT_ACCSAT)) ∧
        (satAcc (max (r.acc (fieldA w)) (s.operandW p r w)) ≠ (max (r.acc (fieldA w)) (s.operandW p r w)) → r.accSat = false → s'.evBit (uPod p) 1
            = true) ∧
        s.keeps s' ((uPod p).addr pod_RUNSTAT_ACCSAT.off :: (uPod p).addr 0x10 :: routerWords) ∧
        s'.mem = s.mem ∧
        (∀ q, q ≠ p → s'.pod q = s.pod q))

/-- SAT, LIM, SEL, CMP, SKIP, ST, DIFF, OUT, SINCOS, CLARKE, PARK, IPARK and LUT complete with their result. R146, R147:
clamps, comparison and the conditional micro-ops. R142, R147: the micro-ops that write nodes, and OUT. R147, R148: the
transform micro-ops. R147, R156: LUT, with no symbol in error in any memory; the reaction is EVENT for the miss. -/
def Obligations.MicroDataMoves : Prop :=
  (∀ (t : Nat) (p : Nat) (r : PodRun) (w : Word) (s : State),
      s.microAt p 12 r w →
      ∃ s', exec (.sat t p) s = .next s' ∧
        (s'.pod p).run = some { r.setAcc (fieldA w) (max (-(2 ^ (30 + bits w 0 4))) (min (r.acc (fieldA w)) (2 ^ (30 + bits w 0 4) - 1))) with
              pc := r.pc + 1
              accSat := r.accSat || (max (-(2 ^ (30 + bits w 0 4))) (min (r.acc (fieldA w)) (2 ^ (30 + bits w 0 4) - 1))) ≠ r.acc (fieldA w) } ∧
        (s'.get (uPod p) pod_RUNSTAT_ACCSAT = (if (max (-(2 ^ (30 + bits w 0 4))) (min (r.acc (fieldA w)) (2 ^ (30 + bits w 0 4) - 1)))
            ≠ r.acc (fieldA w) then 1 else s.get (uPod p) pod_RUNSTAT_ACCSAT)) ∧
        ((max (-(2 ^ (30 + bits w 0 4))) (min (r.acc (fieldA w)) (2 ^ (30 + bits w 0 4) - 1))) ≠ r.acc (fieldA w) → r.accSat = false
            → s'.evBit (uPod p) 1 = true) ∧
        s.keeps s' ((uPod p).addr pod_RUNSTAT_ACCSAT.off :: (uPod p).addr 0x10 :: routerWords) ∧
        s'.mem = s.mem ∧
        (∀ q, q ≠ p → s'.pod q = s.pod q)) ∧
  (∀ (t : Nat) (p : Nat) (r : PodRun) (w : Word) (s : State),
      s.microAt p 15 r w →
      ∃ s', exec (.lim t p) s = .next s' ∧
        (s'.pod p).run = some { r.setAcc (fieldA w) (min (max (r.acc (fieldA w)) (r.node (bits w 0 6) * 32768)) (r.node (bits w 0 6 + 1) * 32768)) with
              pc := r.pc + 1 } ∧
        (min (max (r.acc (fieldA w)) (r.node (bits w 0 6) * 32768)) (r.node (bits w 0 6 + 1) * 32768) ≠ r.acc (fieldA w) → s'.get (uPod p) pod_RUNSTAT_LIMHIT
            = 1) ∧
        s.keeps s' ((uPod p).addr pod_RUNSTAT_ACCSAT.off :: (uPod p).addr 0x10 :: routerWords) ∧
        s'.mem = s.mem ∧
        (∀ q, q ≠ p → s'.pod q = s.pod q)) ∧
  (∀ (t : Nat) (p : Nat) (r : PodRun) (w : Word) (s : State),
      s.microAt p 16 r w →
      ∃ s', exec (.sel t p) s = .next s' ∧
        ((s'.pod p).run = some (if (match bits w 19 3 with | 0 => r.eq | 1 => !r.eq | 2 => r.lt | 3 => !r.lt | 4 => r.gt | 5 => !r.gt | 6 => true | _ => r.accSat || r.stSat) then (r.putsAcc w (if bits w 18 1 = 0 then s.srcAcc p r (bits w 0 8) else r.acc (bits w 0 4))) else
          { r with pc := r.pc + 1 })) ∧
        s.keeps s' ((uPod p).addr pod_RUNSTAT_ACCSAT.off :: (uPod p).addr 0x10 :: routerWords) ∧
        s'.mem = s.mem ∧
        (∀ q, q ≠ p → s'.pod q = s.pod q)) ∧
  (∀ (t : Nat) (p : Nat) (r : PodRun) (w : Word) (s : State),
      s.microAt p 17 r w →
      ∃ s', exec (.cmp t p) s = .next s' ∧
        (s'.pod p).run = some { r with lt := r.acc (fieldA w) < s.operandW p r w, eq := r.acc (fieldA w) = s.operandW p r w, gt := s.operandW p r w < r.acc (fieldA w), pc := r.pc + 1 } ∧
        s'.regs = s.regs ∧
        s'.mem = s.mem ∧
        (∀ q, q ≠ p → s'.pod q = s.pod q)) ∧
  (∀ (t : Nat) (p : Nat) (r : PodRun) (w : Word) (s : State),
      s.microAt p 18 r w →
      ∃ s', exec (.skip t p) s = .next s' ∧
        ((s'.pod p).run = some { r with pc := if (match bits w 19 3 with | 0 => r.eq | 1 => !r.eq | 2 => r.lt | 3 => !r.lt | 4 => r.gt | 5 => !r.gt | 6 => true | _ => r.accSat || r.stSat) then r.pc + bits w 0 8 + 1 else r.pc + 1 }) ∧
        s'.regs = s.regs ∧
        s'.mem = s.mem ∧
        (∀ q, q ≠ p → s'.pod q = s.pod q)) ∧
  (∀ (t : Nat) (p : Nat) (r : PodRun) (w : Word) (s : State),
      s.microAt p 2 r w →
      ∃ s', exec (.st t p) s = .next s' ∧
        ((s'.pod p).run = some (if bits w 15 1 = 1 then { r.setNode (bits w 16 6) (roundQ15 (r.acc (fieldA w))) with pc := r.pc
            + 1 } else
          { r.setNode (bits w 16 6) (satQ15 (roundQ15 (r.acc (fieldA w)))) with
                pc := r.pc + 1
                stSat := r.stSat || satQ15 (roundQ15 (r.acc (fieldA w))) ≠ roundQ15 (r.acc (fieldA w)) })) ∧
        s.keeps s' ((uPod p).addr pod_RUNSTAT_ACCSAT.off :: (uPod p).addr 0x10 :: routerWords) ∧
        s'.mem = s.mem ∧
        (∀ q, q ≠ p → s'.pod q = s.pod q)) ∧
  (∀ (t : Nat) (p : Nat) (r : PodRun) (w : Word) (s : State),
      s.microAt p 20 r w →
      ∃ s', exec (.diff t p) s = .next s' ∧
        (s'.pod p).run = some { (r.setAcc (fieldA w) (satAcc (s.src16 p r (bits w 0 8) * 32768 - r.node (bits w 16 6) * 32768))).setNode (bits w 16 6) (s.src16 p r (bits w 0 8)) with
              pc := r.pc + 1
              accSat := r.accSat || satAcc (s.src16 p r (bits w 0 8) * 32768 - r.node (bits w 16 6) * 32768) ≠ (s.src16 p r (bits w 0 8) * 32768 - r.node (bits w 16 6) * 32768) } ∧
        (s'.get (uPod p) pod_RUNSTAT_ACCSAT = (if satAcc (s.src16 p r (bits w 0 8) * 32768 - r.node (bits w 16 6) * 32768) ≠ (s.src16 p r (bits w 0 8) * 32768 - r.node (bits w 16 6) * 32768)
            then 1 else s.get (uPod p) pod_RUNSTAT_ACCSAT)) ∧
        (satAcc (s.src16 p r (bits w 0 8) * 32768 - r.node (bits w 16 6) * 32768) ≠ (s.src16 p r (bits w 0 8) * 32768 - r.node (bits w 16 6) * 32768)
            → r.accSat = false → s'.evBit (uPod p) 1 = true) ∧
        s.keeps s' ((uPod p).addr pod_RUNSTAT_ACCSAT.off :: (uPod p).addr 0x10 :: routerWords) ∧
        s'.mem = s.mem ∧
        (∀ q, q ≠ p → s'.pod q = s.pod q)) ∧
  (∀ (t : Nat) (p : Nat) (r : PodRun) (w : Word) (s : State),
      s.microAt p 27 r w →
      ∃ s', exec (.outOp t p) s = .next s' ∧
        ((s'.pod p).run = some (if bits w 21 1 = 0 then
            { r with outs := putOut (bits w 16 3) (BitVec.ofInt 32 (s.src16 p r (bits w 0 8))) r.outs, pc := r.pc + 1 }
          else if s.get (uPod p) (pod_OUTBIND_TYPE (bits w 16 3)) = 1 then
            { r with outs := putOut (bits w 16 3) (BitVec.ofInt 32 (sat32 (r.acc (fieldA w)))) r.outs, pc := r.pc + 1, stSat := r.stSat || sat32 (r.acc (fieldA w)) ≠ r.acc (fieldA w) }
          else { r with outs := putOut (bits w 16 3) (BitVec.ofInt 32 (satQ15 (roundQ15 (r.acc (fieldA w))))) r.outs, pc := r.pc + 1, stSat := r.stSat || satQ15 (roundQ15 (r.acc (fieldA w))) ≠ roundQ15 (r.acc (fieldA w)) })) ∧
        s.keeps s' ((uPod p).addr pod_RUNSTAT_ACCSAT.off :: (uPod p).addr 0x10 :: routerWords) ∧
        s'.mem = s.mem ∧
        (∀ q, q ≠ p → s'.pod q = s.pod q)) ∧
  (∀ (t : Nat) (p : Nat) (r : PodRun) (w : Word) (s : State),
      s.microAt p 22 r w →
      ∃ s', exec (.sincos t p) s = .next s' ∧
        (s'.pod p).run = some { ((r.setNode (fieldD w) (sinA (r.angle (fieldS w)))).setNode (fieldD w + 1) (sinA (r.angle (fieldS w) + 0x4000))) with
              pc := r.pc + 1 } ∧
        s'.regs = s.regs ∧
        s'.mem = s.mem ∧
        (∀ q, q ≠ p → s'.pod q = s.pod q)) ∧
  (∀ (t : Nat) (p : Nat) (r : PodRun) (w : Word) (s : State),
      s.microAt p 23 r w →
      ∃ s', exec (.clarke t p) s = .next s' ∧
        (s'.pod p).run = some { ((r.setNode (fieldD w) (r.node (fieldS w))).setNode (fieldD w + 1) (satQ15 (roundQ15 ((r.node (fieldS w) + 2 * r.node (fieldS w + 1)) * 18919)))) with
            pc := r.pc + 1, stSat := r.stSat || satQ15 (roundQ15 ((r.node (fieldS w) + 2 * r.node (fieldS w + 1)) * 18919)) ≠ (roundQ15 ((r.node (fieldS w) + 2 * r.node (fieldS w + 1)) * 18919)) } ∧
        (s'.get (uPod p) pod_RUNSTAT_STSAT = (if satQ15 (roundQ15 ((r.node (fieldS w) + 2 * r.node (fieldS w + 1)) * 18919)) ≠ (roundQ15 ((r.node (fieldS w)
            + 2 * r.node (fieldS w + 1)) * 18919)) then 1 else s.get (uPod p) pod_RUNSTAT_STSAT)) ∧
        (satQ15 (roundQ15 ((r.node (fieldS w) + 2 * r.node (fieldS w + 1)) * 18919)) ≠ (roundQ15 ((r.node (fieldS w) + 2 * r.node (fieldS w
            + 1)) * 18919)) → r.stSat = false → s'.evBit (uPod p) 2 = true) ∧
        s.keeps s' ((uPod p).addr pod_RUNSTAT_ACCSAT.off :: (uPod p).addr 0x10 :: routerWords) ∧
        s'.mem = s.mem ∧
        (∀ q, q ≠ p → s'.pod q = s.pod q)) ∧
  (∀ (t : Nat) (p : Nat) (r : PodRun) (w : Word) (s : State),
      s.microAt p 24 r w →
      ∃ s', exec (.park t p) s = .next s' ∧
        (s'.pod p).run = some { ((r.setNode (fieldD w) (satQ15 (roundQ15 (r.node (fieldS w) * cosA (r.angle (fieldT w)) + r.node (fieldS w + 1) * sinA (r.angle (fieldT w)))))).setNode (fieldD w + 1) (satQ15 (roundQ15 (-r.node (fieldS w) * sinA (r.angle (fieldT w)) + r.node (fieldS w + 1) * cosA (r.angle (fieldT w)))))) with
            pc := r.pc + 1, stSat := r.stSat || satQ15 (roundQ15 (r.node (fieldS w) * cosA (r.angle (fieldT w)) + r.node (fieldS w + 1) * sinA (r.angle (fieldT w)))) ≠ (roundQ15 (r.node (fieldS w) * cosA (r.angle (fieldT w)) + r.node (fieldS w + 1) * sinA (r.angle (fieldT w)))) || satQ15 (roundQ15 (-r.node (fieldS w) * sinA (r.angle (fieldT w)) + r.node (fieldS w + 1) * cosA (r.angle (fieldT w)))) ≠ (roundQ15 (-r.node (fieldS w) * sinA (r.angle (fieldT w)) + r.node (fieldS w + 1) * cosA (r.angle (fieldT w)))) } ∧
        (s'.get (uPod p) pod_RUNSTAT_STSAT = (if satQ15 (roundQ15 (r.node (fieldS w) * cosA (r.angle (fieldT w)) + r.node (fieldS w
            + 1) * sinA (r.angle (fieldT w)))) ≠ (roundQ15 (r.node (fieldS w) * cosA (r.angle (fieldT w)) + r.node (fieldS w + 1) * sinA (r.angle (fieldT w))))
            || satQ15 (roundQ15 (-r.node (fieldS w) * sinA (r.angle (fieldT w)) + r.node (fieldS w + 1) * cosA (r.angle (fieldT w))))
            ≠ (roundQ15 (-r.node (fieldS w) * sinA (r.angle (fieldT w)) + r.node (fieldS w + 1) * cosA (r.angle (fieldT w))))
            then 1 else s.get (uPod p) pod_RUNSTAT_STSAT)) ∧
        (satQ15 (roundQ15 (r.node (fieldS w) * cosA (r.angle (fieldT w)) + r.node (fieldS w + 1) * sinA (r.angle (fieldT w))))
            ≠ (roundQ15 (r.node (fieldS w) * cosA (r.angle (fieldT w)) + r.node (fieldS w + 1) * sinA (r.angle (fieldT w)))) || satQ15 (roundQ15 (-r.node (fieldS w) * sinA (r.angle (fieldT w))
            + r.node (fieldS w + 1) * cosA (r.angle (fieldT w)))) ≠ (roundQ15 (-r.node (fieldS w) * sinA (r.angle (fieldT w))
            + r.node (fieldS w + 1) * cosA (r.angle (fieldT w)))) → r.stSat = false → s'.evBit (uPod p) 2 = true) ∧
        s.keeps s' ((uPod p).addr pod_RUNSTAT_ACCSAT.off :: (uPod p).addr 0x10 :: routerWords) ∧
        s'.mem = s.mem ∧
        (∀ q, q ≠ p → s'.pod q = s.pod q)) ∧
  (∀ (t : Nat) (p : Nat) (r : PodRun) (w : Word) (s : State),
      s.microAt p 25 r w →
      ∃ s', exec (.ipark t p) s = .next s' ∧
        (s'.pod p).run = some { ((r.setNode (fieldD w) (satQ15 (roundQ15 (r.node (fieldS w) * cosA (r.angle (fieldT w)) - r.node (fieldS w + 1) * sinA (r.angle (fieldT w)))))).setNode (fieldD w + 1) (satQ15 (roundQ15 (r.node (fieldS w) * sinA (r.angle (fieldT w)) + r.node (fieldS w + 1) * cosA (r.angle (fieldT w)))))) with
            pc := r.pc + 1, stSat := r.stSat || satQ15 (roundQ15 (r.node (fieldS w) * cosA (r.angle (fieldT w)) - r.node (fieldS w + 1) * sinA (r.angle (fieldT w)))) ≠ (roundQ15 (r.node (fieldS w) * cosA (r.angle (fieldT w)) - r.node (fieldS w + 1) * sinA (r.angle (fieldT w)))) || satQ15 (roundQ15 (r.node (fieldS w) * sinA (r.angle (fieldT w)) + r.node (fieldS w + 1) * cosA (r.angle (fieldT w)))) ≠ (roundQ15 (r.node (fieldS w) * sinA (r.angle (fieldT w)) + r.node (fieldS w + 1) * cosA (r.angle (fieldT w)))) } ∧
        (s'.get (uPod p) pod_RUNSTAT_STSAT = (if satQ15 (roundQ15 (r.node (fieldS w) * cosA (r.angle (fieldT w)) - r.node (fieldS w
            + 1) * sinA (r.angle (fieldT w)))) ≠ (roundQ15 (r.node (fieldS w) * cosA (r.angle (fieldT w)) - r.node (fieldS w + 1) * sinA (r.angle (fieldT w))))
            || satQ15 (roundQ15 (r.node (fieldS w) * sinA (r.angle (fieldT w)) + r.node (fieldS w + 1) * cosA (r.angle (fieldT w))))
            ≠ (roundQ15 (r.node (fieldS w) * sinA (r.angle (fieldT w)) + r.node (fieldS w + 1) * cosA (r.angle (fieldT w)))) then 1
            else s.get (uPod p) pod_RUNSTAT_STSAT)) ∧
        (satQ15 (roundQ15 (r.node (fieldS w) * cosA (r.angle (fieldT w)) - r.node (fieldS w + 1) * sinA (r.angle (fieldT w))))
            ≠ (roundQ15 (r.node (fieldS w) * cosA (r.angle (fieldT w)) - r.node (fieldS w + 1) * sinA (r.angle (fieldT w)))) || satQ15 (roundQ15 (r.node (fieldS w) * sinA (r.angle (fieldT w))
            + r.node (fieldS w + 1) * cosA (r.angle (fieldT w)))) ≠ (roundQ15 (r.node (fieldS w) * sinA (r.angle (fieldT w)) + r.node (fieldS w
            + 1) * cosA (r.angle (fieldT w)))) → r.stSat = false → s'.evBit (uPod p) 2 = true) ∧
        s.keeps s' ((uPod p).addr pod_RUNSTAT_ACCSAT.off :: (uPod p).addr 0x10 :: routerWords) ∧
        s'.mem = s.mem ∧
        (∀ q, q ≠ p → s'.pod q = s.pod q)) ∧
  (∀ (t : Nat) (p : Nat) (r : PodRun) (w : Word) (s : State),
      s.microAt p 21 r w →
      s.flips = [] →
      s.lutValue p r w = none →
      s.sel (uPod p) 0 = 0 →
      ∃ s', exec (.lut t p) s = .next s' ∧
        (s'.pod p).run = some { r.setAcc (fieldA w) 0 with pc := r.pc + 1 } ∧
        s'.evBit (uPod p) 3 = true ∧
        s'.get (uPod p) hdr_USTAT_OWNF = 1) ∧
  (∀ (t : Nat) (p : Nat) (r : PodRun) (w : Word) (y : Int) (s : State),
      s.microAt p 21 r w →
      s.flips = [] →
      s.lutValue p r w = some y →
      ∃ s', exec (.lut t p) s = .next s' ∧
        (s'.pod p).run = some (r.putsAcc w (y * 32768)) ∧
        s'.mem = s.mem)

/-- INTEG completes with its result. R147: INTEG, with the tracking term of R203. -/
def Obligations.MicroInteg : Prop :=
  (∀ (t : Nat) (p : Nat) (r : PodRun) (w : Word) (a₁ : Int) (trk : Bool) (a₂ : Int) (s : State),
      s.microAt p 19 r w →
      (a₁ = if r.freeze then r.acc (fieldA w) else satAcc (r.acc (fieldA w) + s.product p r (bits w 8 8) (bits w 0 8))) →
      trk = (s.on (uPod p) pod_TRKCFG_EN && s.get (uPod p) pod_TRKCFG_ACC = fieldA w) →
      (a₂ = if trk then satAcc (a₁ + r.track) else a₁) →
      ∃ s', exec (.integ t p) s = .next s' ∧
        (((s'.pod p).run.map fun x => (x.acc (fieldA w), x.track, x.pc, x.nodes)) =
          some (min (max a₂ (r.node (bits w 16 6) * 32768)) (r.node (bits w 16 6 + 1) * 32768), if trk then 0 else r.track, r.pc
              + 1, r.nodes)))

/-- VSD completes with the six-phase decomposition of four nodes. R149: VSD. -/
def Obligations.MicroVsd : Prop :=
  (∀ (t : Nat) (p : Nat) (r : PodRun) (w : Word) (s : State),
      s.microAt p 26 r w →
      ∃ s', exec (.vsd t p) s = .next s' ∧
        (s'.pod p).run = some { ((((r.setNode (fieldD w) (satQ15 (roundDiv (32768 * r.node (fieldS w) + 28378 * r.node (fieldS w + 2) - 16384 * r.node (fieldS w + 3)) 65536))).setNode (fieldD w + 1) (satQ15 (roundDiv (32768 * r.node (fieldS w + 1) + 16384 * r.node (fieldS w + 2) + 28378 * r.node (fieldS w + 3)) 65536))).setNode (fieldD w + 2) (satQ15 (roundDiv (32768 * r.node (fieldS w) - 28378 * r.node (fieldS w + 2) + 16384 * r.node (fieldS w + 3)) 65536))).setNode (fieldD w + 3) (satQ15 (roundDiv (-32768 * r.node (fieldS w + 1) + 16384 * r.node (fieldS w + 2) + 28378 * r.node (fieldS w + 3)) 65536))) with
            pc := r.pc + 1, stSat := r.stSat || satQ15 (roundDiv (32768 * r.node (fieldS w) + 28378 * r.node (fieldS w + 2) - 16384 * r.node (fieldS w + 3)) 65536) ≠ (roundDiv (32768 * r.node (fieldS w) + 28378 * r.node (fieldS w + 2) - 16384 * r.node (fieldS w + 3)) 65536) || satQ15 (roundDiv (32768 * r.node (fieldS w + 1) + 16384 * r.node (fieldS w + 2) + 28378 * r.node (fieldS w + 3)) 65536) ≠ (roundDiv (32768 * r.node (fieldS w + 1) + 16384 * r.node (fieldS w + 2) + 28378 * r.node (fieldS w + 3)) 65536) || satQ15 (roundDiv (32768 * r.node (fieldS w) - 28378 * r.node (fieldS w + 2) + 16384 * r.node (fieldS w + 3)) 65536) ≠ (roundDiv (32768 * r.node (fieldS w) - 28378 * r.node (fieldS w + 2) + 16384 * r.node (fieldS w + 3)) 65536) || satQ15 (roundDiv (-32768 * r.node (fieldS w + 1) + 16384 * r.node (fieldS w + 2) + 28378 * r.node (fieldS w + 3)) 65536) ≠ (roundDiv (-32768 * r.node (fieldS w + 1) + 16384 * r.node (fieldS w + 2) + 28378 * r.node (fieldS w + 3)) 65536) } ∧
        (s'.get (uPod p) pod_RUNSTAT_STSAT = (if satQ15 (roundDiv (32768 * r.node (fieldS w) + 28378 * r.node (fieldS w + 2) - 16384 * r.node (fieldS w
            + 3)) 65536) ≠ (roundDiv (32768 * r.node (fieldS w) + 28378 * r.node (fieldS w + 2) - 16384 * r.node (fieldS w + 3)) 65536)
            || satQ15 (roundDiv (32768 * r.node (fieldS w + 1) + 16384 * r.node (fieldS w + 2) + 28378 * r.node (fieldS w + 3)) 65536)
            ≠ (roundDiv (32768 * r.node (fieldS w + 1) + 16384 * r.node (fieldS w + 2) + 28378 * r.node (fieldS w + 3)) 65536)
            || satQ15 (roundDiv (32768 * r.node (fieldS w) - 28378 * r.node (fieldS w + 2) + 16384 * r.node (fieldS w + 3)) 65536)
            ≠ (roundDiv (32768 * r.node (fieldS w) - 28378 * r.node (fieldS w + 2) + 16384 * r.node (fieldS w + 3)) 65536) || satQ15 (roundDiv (-32768 * r.node (fieldS w
            + 1) + 16384 * r.node (fieldS w + 2) + 28378 * r.node (fieldS w + 3)) 65536) ≠ (roundDiv (-32768 * r.node (fieldS w
            + 1) + 16384 * r.node (fieldS w + 2) + 28378 * r.node (fieldS w + 3)) 65536) then 1 else s.get (uPod p) pod_RUNSTAT_STSAT)) ∧
        (satQ15 (roundDiv (32768 * r.node (fieldS w) + 28378 * r.node (fieldS w + 2) - 16384 * r.node (fieldS w + 3)) 65536) ≠ (roundDiv (32768 * r.node (fieldS w)
            + 28378 * r.node (fieldS w + 2) - 16384 * r.node (fieldS w + 3)) 65536) || satQ15 (roundDiv (32768 * r.node (fieldS w
            + 1) + 16384 * r.node (fieldS w + 2) + 28378 * r.node (fieldS w + 3)) 65536) ≠ (roundDiv (32768 * r.node (fieldS w
            + 1) + 16384 * r.node (fieldS w + 2) + 28378 * r.node (fieldS w + 3)) 65536) || satQ15 (roundDiv (32768 * r.node (fieldS w) - 28378 * r.node (fieldS w
            + 2) + 16384 * r.node (fieldS w + 3)) 65536) ≠ (roundDiv (32768 * r.node (fieldS w) - 28378 * r.node (fieldS w + 2)
            + 16384 * r.node (fieldS w + 3)) 65536) || satQ15 (roundDiv (-32768 * r.node (fieldS w + 1) + 16384 * r.node (fieldS w
            + 2) + 28378 * r.node (fieldS w + 3)) 65536) ≠ (roundDiv (-32768 * r.node (fieldS w + 1) + 16384 * r.node (fieldS w
            + 2) + 28378 * r.node (fieldS w + 3)) 65536) → r.stSat = false → s'.evBit (uPod p) 2 = true) ∧
        s.keeps s' ((uPod p).addr pod_RUNSTAT_ACCSAT.off :: (uPod p).addr 0x10 :: routerWords) ∧
        s'.mem = s.mem ∧
        (∀ q, q ≠ p → s'.pod q = s.pod q))

/-- A capture takes the inputs, the ramp step and the tracking term, and makes the pod ready. R135, R160, R184: POD_CAPTURE,
without a schedule, a supervisor, a waiting mirror record or a wrong parity; RAMP_SEED. -/
def Obligations.PodCapture : Prop :=
  (∀ (t : Nat) (p : Nat) (e : Nat) (x0 : Int) (x1 : Int) (s : State),
      p < 128 →
      (s.pod p).event = some e →
      (s.pod p).captured = false →
      s.runsMode = true →
      s.enabled (uPod p) = true →
      (s.at t).due (e + s.get (uPod p) pod_CAPOFS_TICKS) = true →
      s.badParity = [] →
      (sget (fun _ => []) s.podRecs p = []) →
      s.get (uPod p) pod_SCHCFG_EN = 0 →
      s.get (uPod p) pod_FECFG_EN = 0 →
      (x0 = ((fun i => if s.on (uPod p) (pod_INBIND_EN i) then s.sig (s.get (uPod p) (pod_INBIND_SIG i)) else 0) (s.get (uPod p) pod_RAMPCFG_SPIN)).toInt) →
      (x1 = ((fun i => if s.on (uPod p) (pod_INBIND_EN i) then s.sig (s.get (uPod p) (pod_INBIND_SIG i)) else 0) (s.get (uPod p) pod_RAMPCFG_PVIN)).toInt) →
      ∃ s', exec (.podCapture t p) s = .next s' ∧
        (∀ i ∈ List.range 16, s'.getW ((uPod p).addr (0x380 + 4 * i)) = (fun i => if s.on (uPod p) (pod_INBIND_EN i) then s.sig (s.get (uPod p) (pod_INBIND_SIG i))
            else 0) i) ∧
        s'.get (uPod p) hdr_USTAT_STATE = 1 ∧
        s'.ready = s.ready ++ [p] ∧
        (s'.pod p).captured = true ∧
        (s'.pod p).readyAt = (s.at t).tick ∧
        ((s'.pod p).term = sget (fun _ => 0) s.terms p) ∧
        (s'.pod p).freeze = (s.on (uPod p) pod_FRZ_EN && s.sig (s.get (uPod p) pod_FRZ_SIG) ≠ 0) ∧
        ((s'.pod p).rampW = if s.on (uPod p) pod_RAMPCFG_EN then some (if (s.pod p).seedNext || s.on (uPod p) pod_RAMPCTL_SEED
            then (x1 * 65536, 0) else rampSat (rampStep (s.get (uPod p) pod_RSLOPE_RATE) (s.get (uPod p) pod_RJERK_STEP) (x0 * 65536) (s.geti (uPod p) pod_RAMPW_VALUE) (s.geti (uPod p) pod_RAMPR_VALUE)))
            else none) ∧
        s'.mem = s.mem) ∧
  (∀ (t : Nat) (p : Nat) (s : State),
      p < 128 →
      s.serves (uPod p) 0x10C →
      ∃ s', exec (.rampSeed t p) s = .next s' ∧
        s'.get (uPod p) pod_RAMPCTL_SEED = 1 ∧
        (∀ a, a ≠ (uPod p).addr pod_RAMPCTL_SEED.off → s'.getW a = s.getW a) ∧
        (∀ a, s'.byte a = s.byte a))

/-- The pod that a lane takes, and the winner of an arena: the best by priority or key, then by their ties. R162: the choice
of POD_DISPATCH. R198: the choice of ARENA_DECISION. -/
def Obligations.DispatchAndArenaOrder : Prop :=
  (∀ (s : State) (n p : Nat), s.pickPod n s.ready = some p →
    p ∈ s.ready ∧ s.laneTakes n p = true ∧
    ∀ q ∈ s.ready, s.laneTakes n q = true →
      s.get (uPod q) pod_PCFG_PRIO ≤ s.get (uPod p) pod_PCFG_PRIO ∧
      (s.get (uPod q) pod_PCFG_PRIO = s.get (uPod p) pod_PCFG_PRIO → (s.pod p).readyAt ≤ (s.pod q).readyAt) ∧
      (s.get (uPod q) pod_PCFG_PRIO = s.get (uPod p) pod_PCFG_PRIO → (s.pod p).readyAt = (s.pod q).readyAt → p ≤ q)) ∧
  (∀ (s : State) (a c : Nat) (l : List Nat), l.Pairwise (· < ·) → s.arenaWinner a l = some c →
    c ∈ l ∧ ∀ d ∈ l, s.compKey a c ≤ s.compKey a d ∧ (s.compKey a d = s.compKey a c → c ≤ d))

/-- A dispatch runs a pod on a working copy, END commits it, and the apply instant latches its outputs or notes an overrun.
R131, R132: POD_DISPATCH and END. R136, R160, R170: POD_APPLY. -/
def Obligations.PodRunAndApply : Prop :=
  (∀ (t : Nat) (p : Nat) (n : Nat) (s : State),
      s.laneOpen n = true →
      s.pickPod n s.ready = some p →
      p < 128 →
      n < 9 →
      s.flips = [] →
      (s.pod p).region = none →
      ∃ s', exec (.podDispatch t n) s = .next s' ∧
        s'.get (uPod p) pod_RUNSTAT_RUNNING = 1 ∧
        s'.get (uPod p) pod_RUNSTAT_LANE = n ∧
        s'.get (uPod p) hdr_USTAT_STATE = 2 ∧
        s'.get (uLane n) ln_LNSTAT_RUNNING = 1 ∧
        s'.get (uLane n) ln_LNSTAT_POD = p ∧
        s'.ready = s.ready.filter (· ≠ p) ∧
        (((s'.pod p).run.map fun r => (r.lane, r.pc, r.lt, r.eq, r.gt)) = some (n, 0, false, true, false)) ∧
        (((s'.pod p).run.map fun r => (r.accSat, r.stSat, r.outs, r.started)) = some (false, false, [], (s.at t).tick)) ∧
        (∀ k ∈ List.range 64, ((s'.pod p).run.getD {}).node k = s.geti (uPod p) (pod_NODE_VALUE k)) ∧
        (∀ k ∈ List.range 16, ((s'.pod p).run.getD {}).acc k = s.podAcc p k) ∧
        (∀ k ∈ List.range 8, ((s'.pod p).run.getD {}).gains.getD k (0, 0) = (s.geti (uPod p) (pod_GAIN_MANT k), s.get (uPod p) (pod_GAIN_SHIFT k))) ∧
        s'.mem = s.mem) ∧
  (∀ (t : Nat) (p : Nat) (r : PodRun) (s : State),
      p < 128 →
      s.microAt p 0x3F r (s.progWord p r.pc) →
      r.lane < 9 →
      ∃ s', exec (.endRun t p) s = .next s' ∧
        (s'.pod p).run = none ∧
        (s'.pod p).staged = some r.outs ∧
        (∀ k ∈ List.range 64, s'.geti (uPod p) (pod_NODE_VALUE k) = signed 16 (unsigned 16 (r.node k))) ∧
        (∀ k ∈ List.range 16, s'.podAcc p k = signed 40 (unsigned 40 (r.acc k))) ∧
        s'.get (uPod p) pod_RUNCNT_COUNT = (s.get (uPod p) pod_RUNCNT_COUNT + 1) % 2 ^ pod_RUNCNT_COUNT.w ∧
        s'.get (uPod p) pod_LASTEND_STAMP = (s.at t).stamp ∧
        s'.get (uPod p) pod_OVR_CONSEC = 0 ∧
        s'.get (uPod p) pod_RUNSTAT_RUNNING = 0 ∧
        s'.get (uPod p) hdr_USTAT_STATE = 0 ∧
        s'.mem = s.mem) ∧
  (∀ (t : Nat) (p : Nat) (e : Nat) (outs : List (Nat × Word)) (s : State),
      p < 128 →
      (s.pod p).event = some e →
      (s.at t).due (e + s.get (uPod p) pod_APPLY_TICKS) = true →
      (s.pod p).staged = some outs →
      (outs.map Prod.fst).Nodup →
      (∀ o ∈ outs, o.1 < 8) →
      ∃ s', exec (.podApply t p) s = .next s' ∧
        (∀ o ∈ outs, s'.getW ((uPod p).addr (0x3C0 + 4 * o.1)) = o.2) ∧
        (s'.pod p).event = none ∧
        (s'.pod p).staged = none ∧
        (∀ o ∈ outs, o.1 ∈ (s'.pod p).latched) ∧
        s'.mem = s.mem) ∧
  (∀ (t : Nat) (p : Nat) (e : Nat) (k : Nat) (n : Nat) (w : Word) (s : State),
      p < 128 →
      k < 8 →
      n < 4096 →
      (s.pod p).event = some e →
      (s.at t).due (e + s.get (uPod p) pod_APPLY_TICKS) = true →
      (s.pod p).staged = some [(k, w)] →
      s.get (uPod p) (pod_OUTBIND_KIND k) = 1 →
      s.get (uPod p) (pod_OUTBIND_TARGET k) = n →
      s.dir n dir_WCLASS = 1 →
      s.dir n dir_WINST = p * 8 + k →
      ∃ s', exec (.podApply t p) s = .next s' ∧
        (s'.sig n = if s.dir n dir_TYPE = 0 then (w.extractLsb' 0 16).signExtend 32 else w)) ∧
  (∀ (t : Nat) (p : Nat) (e : Nat) (s : State),
      p < 128 →
      (s.pod p).event = some e →
      (s.at t).due (e + s.get (uPod p) pod_APPLY_TICKS) = true →
      (s.pod p).staged = none →
      ((s.pod p).reacted = true ∨ s.get (uPod p) pod_OVR_CONSEC + 1 < s.get (uPod p) pod_OVR_LIM) →
      ∃ s', exec (.podApply t p) s = .next s' ∧
        s'.get (uPod p) pod_OVRCNT_COUNT = (s.get (uPod p) pod_OVRCNT_COUNT + 1) % 2 ^ pod_OVRCNT_COUNT.w ∧
        s'.evBit (uPod p) 8 = true ∧
        (s'.pod p).run = none ∧
        (s'.pod p).event = none ∧
        p ∉ s'.ready ∧
        s'.mem = s.mem)

/-- A decision publishes the winner, its value and the valid set, or that the arena is empty. R197, R198: ARENA_DECISION, with
no competitor of type INT32. -/
def Obligations.ArenaDecision : Prop :=
  (∀ (t : Nat) (a : Nat) (c : Nat) (s : State),
      a < 16 →
      s.arenaOn a = true →
      (∀ c ∈ List.range 8, s.compInt a c = false) →
      (s.arenaWinner a ((List.range 8).filter fun c => s.compValid a c) = some c) →
      ∃ s', exec (.arenaDecision t a) s = .next s' ∧
        s'.get (uQuad a) (arq_ASTAT_EMPTY (a % 4)) = 0 ∧
        s'.get (uQuad a) (arq_ASTAT_WIN (a % 4)) = c ∧
        s'.geti (uQuad a) (arq_AWIN_VALUE (a % 4)) = s.compValue a c ∧
        s'.get (uQuad a) (arq_ADEC_COUNT (a % 4)) = (s.get (uQuad a) (arq_ADEC_COUNT (a % 4)) + 1) % 2 ^ 32 ∧
        s'.get (uQuad a) (arq_ASTAMP_STAMP (a % 4)) = (s.at t).stamp ∧
        (∀ d ∈ List.range 8, (s'.get (uQuad a) (arq_ASTAT_VALID (a % 4))).testBit d = s.compValid a d) ∧
        s'.mem = s.mem) ∧
  (∀ (t : Nat) (a : Nat) (s : State),
      a < 16 →
      s.arenaOn a = true →
      (∀ c ∈ List.range 8, s.compInt a c = false) →
      (((List.range 8).filter fun c => s.compValid a c) = []) →
      ∃ s', exec (.arenaDecision t a) s = .next s' ∧
        s'.get (uQuad a) (arq_ASTAT_EMPTY (a % 4)) = 1 ∧
        s'.get (uQuad a) (arq_ASTAT_VALID (a % 4)) = 0 ∧
        s'.get (uQuad a) (arq_ADEC_COUNT (a % 4)) = (s.get (uQuad a) (arq_ADEC_COUNT (a % 4)) + 1) % 2 ^ 32 ∧
        s'.mem = s.mem)

/-- Arming, aborting and triggering a scorebook, and the record that a due sample writes. R223, R225, R226: SCOREBOOK_ARM,
SCOREBOOK_ABORT, SCOREBOOK_TRIG. R217 to R224: SCOREBOOK_SAMPLE, with no symbol in error and no wrong parity. -/
def Obligations.Scorebook : Prop :=
  (∀ (t : Nat) (n : Nat) (base : Nat) (bytes : Nat) (s : State),
      n < 8 →
      s.serves (uScb n) 0x58 →
      s.get (uScb n) scb_SCTL_ARM = 0 →
      s.runsMode = true →
      s.region (0x30 + n) = some (base, bytes) →
      s.enabled (uScb n) = true →
      s.bookOk n bytes = true →
      ∃ s', exec (.scorebookArm t n) s = .next s' ∧
        s'.get (uScb n) scb_SCTL_ARM = 1 ∧
        (s'.get (uScb n) scb_SSTAT_STATE = if s.on (uScb n) scb_SCFG_MODE then 4 else 1) ∧
        s'.get (uScb n) scb_NREC_SLOTS = min (bytes / (4 * (2 + s.get (uScb n) scb_SCFG_TS64 + (s.taps n).length))) 65535 ∧
        s'.get (uScb n) scb_WRPTR_SLOT = 0 ∧
        (s'.book n).base = base ∧
        (s'.book n).seq = 0 ∧
        s'.mem = s.mem ∧
        s.keepsRegs s' [(uScb n).addr scb_SCTL_ARM.off, (uScb n).addr scb_SSTAT_STATE.off, (uScb n).addr scb_NREC_SLOTS.off, (uScb n).addr scb_WRPTR_SLOT.off]) ∧
  (∀ (t : Nat) (n : Nat) (s : State),
      n < 8 →
      s.serves (uScb n) 0x58 →
      s.get (uScb n) scb_SCTL_ARM = 1 →
      ∃ s', exec (.scorebookAbort t n) s = .next s' ∧
        s'.get (uScb n) scb_SCTL_ARM = 0 ∧
        s'.get (uScb n) scb_SCTL_TRIG = 0 ∧
        s'.get (uScb n) scb_SSTAT_STATE = 0 ∧
        s'.get (uScb n) scb_SRES_ABORTED = 1 ∧
        (∀ a, s'.byte a = s.byte a) ∧
        s.keepsRegs s' [(uScb n).addr scb_SCTL_ARM.off, (uScb n).addr scb_SCTL_TRIG.off, (uScb n).addr scb_SSTAT_STATE.off, (uScb n).addr scb_SRES_ABORTED.off]) ∧
  (∀ (t : Nat) (n : Nat) (s : State),
      n < 8 →
      s.serves (uScb n) 0x58 →
      s.get (uScb n) scb_SSTAT_STATE = 1 →
      ∃ s', exec (.scorebookTrig t n) s = .next s' ∧
        s'.get (uScb n) scb_SCTL_TRIG = 1 ∧
        (∀ a, a ≠ (uScb n).addr scb_SCTL_TRIG.off → s'.getW a = s.getW a) ∧
        (∀ a, s'.byte a = s.byte a)) ∧
  (∀ (t : Nat) (n : Nat) (e : Nat) (a0 : Nat) (rw : List Word) (s : State),
      n < 8 →
      (s.book n).event = some e →
      (s.at t).due (e + s.get (uScb n) scb_SOFS_TICKS) = true →
      s.get (uScb n) scb_SCTL_ARM = 1 →
      s.runsMode = true →
      s.enabled (uScb n) = true →
      s.get (uScb n) scb_SSTAT_STATE = 4 →
      s.flips = [] →
      s.badParity = [] →
      ((s.book n).since = none ∨ s.get (uScb n) scb_SDEC_DEC ≤ (s.book n).since.getD 0) →
      a0 = (s.book n).base + 4 * (s.book n).words * s.get (uScb n) scb_WRPTR_SLOT →
      (rw = s.bookHeader n false true :: BitVec.ofNat 32 (s.at t).tick :: ((if s.on (uScb n) scb_SCFG_TS64 then [BitVec.ofNat 32 ((s.at t).tick / 2 ^ 32)]
          else []) ++ (s.taps n).map fun k => s.tapWord n k)) →
      ∃ s', exec (.scorebookSample t n false) s = .next s' ∧
        (∀ i ∈ List.range rw.length, s'.memWord (a0 + 4 * i) = rw.getD i 0) ∧
        (∀ a, a < a0 ∨ a0 + 4 * rw.length ≤ a → s'.byte a = s.byte a) ∧
        (s'.get (uScb n) scb_WRPTR_SLOT = (s.get (uScb n) scb_WRPTR_SLOT + 1) % (if s.get (uScb n) scb_NREC_SLOTS = 0 then 1 else s.get (uScb n) scb_NREC_SLOTS)) ∧
        (s'.book n).seq = ((s.book n).seq + 1) % 65536) ∧
  (∀ (t : Nat) (n : Nat) (e : Nat) (s : State),
      n < 8 →
      (s.book n).event = some e →
      (s.at t).due (e + s.get (uScb n) scb_SOFS_TICKS) = true →
      s.get (uScb n) scb_SCTL_ARM = 1 →
      s.runsMode = true →
      s.enabled (uScb n) = true →
      s.get (uScb n) scb_SSTAT_STATE = 4 →
      s.flips = [] →
      s.badParity = [] →
      ((s.book n).since = none ∨ s.get (uScb n) scb_SDEC_DEC ≤ (s.book n).since.getD 0) →
      (s.at t).bookBusy n = true →
      ∃ s', exec (.scorebookSample t n true) s = .next s' ∧
        s'.get (uScb n) scb_SKIPCNT_COUNT = (s.get (uScb n) scb_SKIPCNT_COUNT + 1) % 2 ^ scb_SKIPCNT_COUNT.w ∧
        s'.evBit (uScb n) 2 = true ∧
        (s'.book n).gap = true ∧
        s'.get (uScb n) scb_WRPTR_SLOT = s.get (uScb n) scb_WRPTR_SLOT ∧
        (∀ a, s'.byte a = s.byte a))

/-- Lane rotation with its tests, and LBIST. R174 to R177: ROTATION_TICK and LANE_TEST_DONE. R178: LBIST_START and LBIST_DONE. -/
def Obligations.Lanes : Prop :=
  (∀ (t : Nat) (s : State),
      s.locked = true →
      s.runsMode = true →
      s.tick ≤ t →
      t % 800000 = 0 →
      (∀ n ∈ List.range 9, s.enabled (uLane n) = true ∧ s.get (uLane n) hdr_USTAT_STATE ≠ 3 ∧ n ∉ s.laneBad ∧ s.get (uLane n) ln_STSTAT_RESULT
          ≠ 3) →
      ∃ s', exec (.rotationTick t) s = .next s' ∧
        s'.get uLaneSh lnsh_ROTSTAT_TEST = s.rotNext % 9 ∧
        s'.get uLaneSh lnsh_ROTSTAT_SUSP = 0 ∧
        (s'.get uLaneSh lnsh_ROTSTAT_SUBST = if s.rotNext % 9 < 8 then s.rotNext % 9 else 15) ∧
        s'.get uLaneSh lnsh_ROTCNT_COUNT = (s.get uLaneSh lnsh_ROTCNT_COUNT + 1) % 2 ^ 32 ∧
        s'.get (uLane (s.rotNext % 9)) hdr_USTAT_STATE = 2 ∧
        s'.get (uLane (s.rotNext % 9)) ln_STSTAT_RESULT = 3 ∧
        s'.rotNext = (s.rotNext % 9 + 1) % 9 ∧
        s'.testAt = t) ∧
  (∀ (t : Nat) (n : Nat) (step : Nat) (s : State),
      n < 9 →
      s.get uLaneSh lnsh_ROTSTAT_TEST = n →
      s.get (uLane n) ln_STSTAT_RESULT = 3 →
      s.get (uLane n) ln_LNSTAT_RUNNING = 0 →
      ∃ s', exec (.laneTestDone t true step) s = .next s' ∧
        s'.get (uLane n) ln_STSTAT_RESULT = 1 ∧
        s'.get (uLane n) ln_STSTAT_FAILSTEP = 0 ∧
        s'.get (uLane n) ln_STCNT_COUNT = (s.get (uLane n) ln_STCNT_COUNT + 1) % 2 ^ 32 ∧
        s'.get (uLane n) ln_STSTAMP_STAMP = (s.at t).stamp ∧
        s'.mem = s.mem) ∧
  (∀ (t : Nat) (n : Nat) (step : Nat) (s : State),
      n < 9 →
      step < 16 →
      s.get uLaneSh lnsh_ROTSTAT_TEST = n →
      s.get (uLane n) ln_STSTAT_RESULT = 3 →
      s.get (uLane n) ln_LNSTAT_RUNNING = 0 →
      s.sel (uLane n) 0 = 0 →
      ∃ s', exec (.laneTestDone t false step) s = .next s' ∧
        s'.get (uLane n) ln_STSTAT_RESULT = 2 ∧
        s'.get (uLane n) ln_STSTAT_FAILSTEP = step ∧
        s'.get (uLane n) hdr_USTAT_STATE = 3 ∧
        s'.get (uLane n) hdr_USTAT_OWNF = 1 ∧
        s'.evBit (uLane n) 0 = true ∧
        s'.get uLaneSh lnsh_ROTSTAT_SUSP = 1 ∧
        s'.get uLaneSh lnsh_ROTSTAT_TEST = 15) ∧
  (∀ (t : Nat) (s : State),
      s.serves uLaneSh 0x88 →
      s.inMode .config = true →
      ∃ s', exec (.lbistStart t) s = .next s' ∧
        s'.get uLaneSh lnsh_LBISTCMD_GO = 1 ∧
        (∀ a, a ≠ uLaneSh.addr lnsh_LBISTCMD_GO.off → s'.getW a = s.getW a) ∧
        s'.mem = s.mem) ∧
  (∀ (t : Nat) (s : State),
      s.serves uLaneSh 0x88 →
      s.inMode .config = false →
      s.get uLaneSh lnsh_LBISTCMD_GO = 0 →
      ∃ s', exec (.lbistStart t) s = .next s' ∧
        s'.get uLaneSh lnsh_LBISTCMD_GO = 0 ∧
        s'.get uLaneSh lnsh_LBISTRES_REFUSED = 1 ∧
        (s.get uLaneSh lnsh_LBISTRES_CAUSE = 0 → s'.get uLaneSh lnsh_LBISTRES_CAUSE = 1) ∧
        s.keepsRegs s' [uLaneSh.addr lnsh_LBISTCMD_GO.off, uLaneSh.addr lnsh_LBISTRES_REFUSED.off, uLaneSh.addr lnsh_LBISTRES_CAUSE.off]) ∧
  (∀ (t : Nat) (s : State),
      s.get uLaneSh lnsh_LBISTCMD_GO = 1 →
      ∃ s', exec (.lbistDone t 0) s = .next s' ∧
        s'.get uLaneSh lnsh_LBISTCMD_GO = 0 ∧
        s'.get uLaneSh lnsh_LBISTMAP_FAIL = 0 ∧
        s'.get uLaneSh lnsh_LBISTRES_DONE = 1 ∧
        s'.evBit uLaneSh 0 = true) ∧
  (∀ (t : Nat) (n : Nat) (s : State),
      n < 512 →
      s.get uLaneSh lnsh_LBISTCMD_GO = 1 →
      s.sel uLaneSh 0 = 0 →
      (∀ k ∈ List.range 9, s.sel (uLane k) 0 = 0) →
      ∃ s', exec (.lbistDone t n) s = .next s' ∧
        s'.get uLaneSh lnsh_LBISTCMD_GO = 0 ∧
        s'.get uLaneSh lnsh_LBISTMAP_FAIL = n ∧
        s'.get uLaneSh lnsh_LBISTRES_DONE = 1 ∧
        (∀ k ∈ List.range 9, n.testBit k = true → s'.get (uLane k) hdr_USTAT_STATE = 3 ∧ s'.get (uLane k) hdr_USTAT_OWNF = 1))

/-- MGCTL.CLR sets MGMIN to 0x0FFF_FFFF and MGPOD to 0, and nothing else of any register. R65. -/
def Obligations.MarginGaugeClearStated : Prop :=
  (∀ (t : Nat) (n : Nat) (s : State),
      s.serves (uLane n) 0x10C →
      n < 9 →
      ∃ s', exec (.marginGaugeClear t n) s = .next s' ∧
        s'.get (uLane n) ln_MGMIN_TICKS = 0x0FFFFFFF ∧
        s'.get (uLane n) ln_MGPOD_POD = 0 ∧
        (∀ a, a ≠ (uLane n).addr 0x100 → a ≠ (uLane n).addr 0x104 → s'.getW a = s.getW a) ∧
        (∀ a, s'.byte a = s.byte a))

/-- SYNCSTART and SYNCSTOP, and the events of a free generator. R56, R59: SYNCSTART and SYNCSTOP. R55, R57: CADENCE_EVENT and
CADENCE_PERIOD_WRITE. -/
def Obligations.Cadences : Prop :=
  (∀ (t : Nat) (n : Nat) (mask : Nat) (s : State),
      s.serves uCadSh 0x80 →
      n < 16 →
      mask.testBit n = true →
      s.enabled (uCad n) = true →
      s.cadRuns n = false →
      s.get (uCad n) cad_CADCFG_MODE = 0 →
      40 ≤ s.get (uCad n) cad_PERIOD_TICKS →
      s.get (uCad n) cad_PHASE_TICKS < s.get (uCad n) cad_PERIOD_TICKS →
      ∃ s', exec (.syncstart t mask) s = .next s' ∧
        s'.cadRuns n = true ∧
        s'.cad n = { start := (s.at t).tick + 1, phase := s.get (uCad n) cad_PHASE_TICKS, interval := s.get (uCad n) cad_PERIOD_TICKS, due := [(s.at t).tick + 1 + s.get (uCad n) cad_PHASE_TICKS] } ∧
        s'.mem = s.mem) ∧
  (∀ (t : Nat) (n : Nat) (mask : Nat) (s : State),
      s.serves uCadSh 0x80 →
      n < 16 →
      mask.testBit n = true →
      s.enabled (uCad n) = true →
      s.cadRuns n = false →
      s.get (uCad n) cad_CADCFG_MODE = 0 →
      s.get (uCad n) cad_PERIOD_TICKS < 40 →
      ∃ s', exec (.syncstart t mask) s = .next s' ∧
        s'.cadRuns n = false ∧
        s'.get (uCad n) cad_CADERR_ERR = 1) ∧
  (∀ (t : Nat) (n : Nat) (mask : Nat) (src : Nat) (s : State),
      s.serves uCadSh 0x80 →
      n < 16 →
      mask.testBit n = true →
      s.enabled (uCad n) = true →
      s.cadRuns n = false →
      s.get (uCad n) cad_CADCFG_MODE = 1 →
      s.get (uCad n) cad_CADCFG_SRC = src →
      src < 8 →
      ∃ s', exec (.syncstart t mask) s = .next s' ∧
        s'.cadRuns n = true ∧
        (s'.cad n).slaved = true ∧
        (s'.cad n).src = src ∧
        (s'.cad n).start = (s.at t).tick + 1 ∧
        (s'.cad n).due = [] ∧
        s'.mem = s.mem) ∧
  (∀ (t : Nat) (n : Nat) (mask : Nat) (src : Nat) (s : State),
      s.serves uCadSh 0x80 →
      n < 16 →
      mask.testBit n = true →
      s.enabled (uCad n) = true →
      s.cadRuns n = false →
      s.get (uCad n) cad_CADCFG_MODE = 1 →
      s.get (uCad n) cad_CADCFG_SRC = src →
      8 ≤ src →
      ∃ s', exec (.syncstart t mask) s = .next s' ∧
        s'.cadRuns n = false ∧
        s'.get (uCad n) cad_CADERR_ERR = 1) ∧
  (∀ (t : Nat) (n : Nat) (mask : Nat) (s : State),
      s.serves uCadSh 0x80 →
      n < 16 →
      mask.testBit n = true →
      s.enabled (uCad n) = true →
      s.cadRuns n = false →
      s.get (uCad n) cad_CADCFG_MODE = 0 →
      40 ≤ s.get (uCad n) cad_PERIOD_TICKS →
      s.get (uCad n) cad_PERIOD_TICKS ≤ s.get (uCad n) cad_PHASE_TICKS →
      ∃ s', exec (.syncstart t mask) s = .next s' ∧
        s'.cadRuns n = false ∧
        s'.get (uCad n) cad_CADERR_ERR = 1) ∧
  (∀ (t : Nat) (n : Nat) (mask : Nat) (s : State),
      s.serves uCadSh 0x84 →
      n < 16 →
      ∃ s', exec (.syncstop t mask) s = .next s' ∧
        s'.cadRuns n = (s.cadRuns n && !(mask.testBit n)) ∧
        s'.get (uCad n) cad_PERIOD_TICKS = s.get (uCad n) cad_PERIOD_TICKS ∧
        s'.mem = s.mem ∧
        s.keepsRegs s' [uCadSh.addr cadsh_RUNNING_CAD.off, (uCad n).addr cad_PERIOD_TICKS.off]) ∧
  (∀ (t : Nat) (n : Nat) (d : Nat) (s : State),
      n < 16 →
      s.locked = true →
      s.runsMode = false →
      s.enabled (uCad n) = true →
      s.cadRuns n = true →
      (s.cad n).slaved = false →
      (s.cad n).due = [d] →
      d ≤ t →
      s.tick ≤ t →
      ∃ s', exec (.cadenceEvent t n) s = .next s' ∧
        s'.get (uCad n) cad_LASTEV_STAMP = t % 2 ^ 32 ∧
        s'.get (uCad n) cad_EVCNT_COUNT = (s.get (uCad n) cad_EVCNT_COUNT + 1) % 2 ^ 32 ∧
        (s'.cad n).due = [d + s.get (uCad n) cad_PERIOD_TICKS] ∧
        (s'.cad n).interval = s.get (uCad n) cad_PERIOD_TICKS) ∧
  (∀ (t : Nat) (n : Nat) (d : Nat) (s : State),
      n < 16 →
      s.locked = true →
      s.runsMode = false →
      s.enabled (uCad n) = true →
      s.cadRuns n = true →
      (s.cad n).slaved = true →
      (s.cad n).due = [d] →
      d ≤ t →
      s.tick ≤ t →
      ∃ s', exec (.cadenceEvent t n) s = .next s' ∧
        s'.get (uCad n) cad_LASTEV_STAMP = t % 2 ^ 32 ∧
        s'.get (uCad n) cad_EVCNT_COUNT = (s.get (uCad n) cad_EVCNT_COUNT + 1) % 2 ^ 32 ∧
        (s'.cad n).due = []) ∧
  (∀ (t : Nat) (n : Nat) (v : Nat) (s : State),
      s.serves (uCad n) 0x44 →
      n < 16 →
      v < 2 ^ 28 →
      (s.cadRuns n = false ∨ (s.cad n).slaved = true ∨ 40 ≤ v) →
      ∃ s', exec (.cadencePeriodWrite t n v) s = .next s' ∧
        s'.get (uCad n) cad_PERIOD_TICKS = v ∧
        (∀ a, a ≠ (uCad n).addr 0x44 → s'.getW a = s.getW a)) ∧
  (∀ (t : Nat) (n : Nat) (v : Nat) (s : State),
      s.serves (uCad n) 0x44 →
      n < 16 →
      s.cadRuns n = true →
      (s.cad n).slaved = false →
      v < 40 →
      (s.cad n).interval < 2 ^ 28 →
      ∃ s', exec (.cadencePeriodWrite t n v) s = .next s' ∧
        s'.get (uCad n) cad_PERIOD_TICKS = (s.cad n).interval ∧
        s'.get (uCad n) cad_CADERR_ERR = 1 ∧
        s.keepsRegs s' [(uCad n).addr cad_PERIOD_TICKS.off, (uCad n).addr cad_CADERR_ERR.off])

/-- A scrub read decodes, corrects, counts and ends a pass; a signature check compares with its reference. R571, R573, R575:
SCRUB_READ. R578: SIGNATURE_CHECK and SIGNATURE_CHECK_DONE. -/
def Obligations.MemoryIntegrity : Prop :=
  (∀ (t : Nat) (c : Nat) (s : State),
      s.locked = true →
      s.deepDormant = false →
      s.tick ≤ t →
      t % 2600 ≤ 80 →
      s.scrubAt ≠ some (t / 2600) →
      s.scrubNext = c →
      c + 1 < 152576 →
      s.errs c = [] →
      ∃ s', exec (.scrubRead t) s = .next s' ∧
        s'.scrubNext = c + 1 ∧
        (s'.get uPscrub psc_MISTAT_MEM = if c < 5120 then 0 else if c < 21504 then 1 else 2) ∧
        (s'.get uPscrub psc_MISTAT_INDEX = (if c < 5120 then c else if c < 21504 then c - 5120 else c - 21504)) ∧
        (∀ a, s'.byte a = s.byte a) ∧
        (∀ a, a ≠ uPscrub.addr psc_MISTAT_MEM.off → s'.getW a = s.getW a)) ∧
  (∀ (t : Nat) (c : Nat) (e : Nat × Byte) (s : State),
      s.locked = true →
      s.deepDormant = false →
      s.tick ≤ t →
      t % 2600 ≤ 80 →
      s.scrubAt ≠ some (t / 2600) →
      s.scrubNext = c →
      c + 1 < 152576 →
      s.errs c = [e] →
      ∃ s', exec (.scrubRead t) s = .next s' ∧
        s'.scrubNext = c + 1 ∧
        s'.errs c = [] ∧
        (s'.get uPscrub (if c < 5120 then psc_CEPOD_COUNT else if c < 21504 then psc_CETBL_COUNT else psc_CEPOOL_COUNT) = (s.get uPscrub (if c < 5120
            then psc_CEPOD_COUNT else if c < 21504 then psc_CETBL_COUNT else psc_CEPOOL_COUNT) + 1) % 2 ^ 32) ∧
        s'.evBit uPscrub 0 = true ∧
        s'.mem = s.mem) ∧
  (∀ (t : Nat) (c : Nat) (s : State),
      s.locked = true →
      s.deepDormant = false →
      s.tick ≤ t →
      t % 2600 ≤ 80 →
      s.scrubAt ≠ some (t / 2600) →
      s.scrubNext = c →
      c + 1 = 152576 →
      s.errs c = [] →
      ∃ s', exec (.scrubRead t) s = .next s' ∧
        s'.scrubNext = 0 ∧
        s'.get uPscrub psc_PASSCNT_COUNT = (s.get uPscrub psc_PASSCNT_COUNT + 1) % 2 ^ 32 ∧
        s'.get uPscrub psc_PASSSTAMP_STAMP = t % 2 ^ 32 ∧
        s'.evBit uPscrub 2 = true ∧
        s'.mem = s.mem) ∧
  (∀ (t : Nat) (s : State),
      s.get uPscrub psc_CSSTAT_ARMED = 1 →
      s.locked = true →
      s.deepDormant = false →
      s.tick ≤ t →
      t % 800000 = 400000 →
      ∃ s', exec (.signatureCheck t) s = .next s' ∧
        s'.get uPscrub psc_CSSTAT_BUSY = 1 ∧
        s'.mem = s.mem ∧
        (∀ a, a ≠ uPscrub.addr psc_CSSTAT_BUSY.off → s'.getW a = s.getW a)) ∧
  (∀ (t : Nat) (s : State),
      s.get uPscrub psc_CSSTAT_BUSY = 1 →
      s.signature = s.getW (uPscrub.addr psc_CSREF_CRC.off) →
      ∃ s', exec (.signatureCheckDone t) s = .next s' ∧
        s'.get uPscrub psc_CSSTAT_BUSY = 0 ∧
        s'.getW (uPscrub.addr psc_CSLAST_CRC.off) = s.signature ∧
        s'.get uPscrub psc_CSCNT_COUNT = (s.get uPscrub psc_CSCNT_COUNT + 1) % 2 ^ 32 ∧
        s'.get uPscrub psc_CSSTAT_MISM = 0 ∧
        s'.sigBad = false) ∧
  (∀ (t : Nat) (s : State),
      s.get uPscrub psc_CSSTAT_BUSY = 1 →
      s.signature ≠ s.getW (uPscrub.addr psc_CSREF_CRC.off) →
      s.inMode .config = true →
      ∃ s', exec (.signatureCheckDone t) s = .next s' ∧
        s'.get uPscrub psc_CSSTAT_BUSY = 0 ∧
        s'.get uPscrub psc_CSSTAT_MISM = 1 ∧
        s'.get uPscrub psc_CSERR_COUNT = (s.get uPscrub psc_CSERR_COUNT + 1) % 2 ^ 32 ∧
        s'.evBit uPscrub 4 = true ∧
        (s'.get uSsv ssv_SHCAUSE_CAUSE).testBit 8 = true)

/-- The device resets, the boot up to CONFIG, loss of PLL lock and the recalibration of the interpolators. R581 to R588: the
device resets. R50, R574, R587: REFERENCE_VALID, PLL_LOCK and BOOT_COMPLETE. R52, R54: PLL_LOCK_LOST and
INTERPOLATOR_RECALIBRATION. -/
def Obligations.ResetAndBoot : Prop :=
  (∀ (t : Nat) (refclk : Bool) (pri : Bool) (tmode : Bool) (s : State),
      ∃ s', exec (.powerOnReset t refclk pri tmode) s = .next s' ∧
        s'.boot = .reference ∧
        s'.get uSys sys_RSTSTAT_CAUSE = 1 ∧
        s'.get uSys sys_RSTSTAT_MEMKEPT = 0 ∧
        s'.locked = false ∧
        (s'.get uSys sys_STRAPS_REFCLK = if refclk then 1 else 0) ∧
        (s'.get uSys sys_STRAPS_PRI = if pri then 1 else 0) ∧
        (s'.get uSys sys_STRAPS_TMODE = if tmode then 1 else 0) ∧
        (∀ a, s'.byte a = s.byte a) ∧
        s'.pending = s.pending ∧
        s'.mode = 1 ∧
        s'.get uSys sys_MODESTAT_TRANS = 1) ∧
  (∀ (t : Nat) (s : State),
      ∃ s', exec (.nreset t) s = .next s' ∧
        s'.boot = .held ∧
        s'.locked = false ∧
        (∀ a, s'.byte a = s.byte a) ∧
        s'.pending = s.pending ∧
        s'.mode = 1 ∧
        s'.get uSys sys_MODESTAT_TRANS = 1) ∧
  (∀ (t : Nat) (refclk : Bool) (pri : Bool) (tmode : Bool) (s : State),
      s.boot = .held →
      ∃ s', exec (.nresetRelease t refclk pri tmode) s = .next s' ∧
        (s'.boot = (if s.porBoot then .reference else .lock)) ∧
        s'.get uSys sys_RSTSTAT_CAUSE = 2 ∧
        (s'.get uSys sys_RSTSTAT_MEMKEPT = if s.porBoot then 0 else 1) ∧
        (s'.get uSys sys_STRAPS_REFCLK = if refclk then 1 else 0) ∧
        (s'.get uSys sys_STRAPS_PRI = if pri then 1 else 0) ∧
        (s'.get uSys sys_STRAPS_TMODE = if tmode then 1 else 0) ∧
        (∀ a, s'.byte a = s.byte a)) ∧
  (∀ (t : Nat) (refclk : Bool) (pri : Bool) (tmode : Bool) (s : State),
      s.boot ≠ .held →
      ∃ s', exec (.softwareDeviceReset t refclk pri tmode) s = .next s' ∧
        (s'.boot = (if s.porBoot then .reference else .lock)) ∧
        s'.get uSys sys_RSTSTAT_CAUSE = 3 ∧
        (s'.get uSys sys_RSTSTAT_MEMKEPT = if s.porBoot then 0 else 1) ∧
        s'.locked = false ∧
        (s'.get uSys sys_STRAPS_REFCLK = if refclk then 1 else 0) ∧
        (s'.get uSys sys_STRAPS_PRI = if pri then 1 else 0) ∧
        (s'.get uSys sys_STRAPS_TMODE = if tmode then 1 else 0) ∧
        (∀ a, s'.byte a = s.byte a) ∧
        s'.pending = s.pending ∧
        s'.mode = 1 ∧
        s'.get uSys sys_MODESTAT_TRANS = 1) ∧
  (∀ (t : Nat) (late : Bool) (s : State),
      s.boot = .reference →
      ∃ s', exec (.referenceValid t late) s = .next s' ∧
        s' = { s with boot := .lock, refLate := late } ∧
        s.keeps s' []) ∧
  (∀ (t : Nat) (s : State),
      s.locked = false →
      s.boot = .lock →
      ∃ s', exec (.pllLock t) s = .next s' ∧
        s'.get uTbase tb_TBSTAT_LOCK = 1 ∧
        s'.tick = 0 ∧
        s'.boot = .memory ∧
        (∀ a, a ≠ uTbase.addr tb_TBSTAT_LOCK.off → s'.getW a = s.getW a) ∧
        s'.mem = s.mem) ∧
  (∀ (t : Nat) (s : State),
      s.locked = false →
      s.boot = .done →
      s.deepDormant = false →
      ∃ s', exec (.pllLock t) s = .next s' ∧
        s'.get uTbase tb_TBSTAT_LOCK = 1 ∧
        s'.tick = s.tick ∧
        s'.boot = .done) ∧
  (∀ (t : Nat) (s : State),
      s.boot = .memory →
      s.inMode .config = true →
      s.stoIn = false →
      ∃ s', exec (.bootComplete t) s = .next s' ∧
        s'.boot = .done ∧
        s'.mode = 1 ∧
        s'.get uSys sys_MODESTAT_TRANS = 0 ∧
        s'.get uSys sys_MODESTAT_ENTRY = 3 ∧
        s'.evBit uSys 0 = true ∧
        (s.get uSys sys_RSTSTAT_MEMKEPT = 0 → s'.mem = []) ∧
        (s.get uSys sys_RSTSTAT_MEMKEPT = 1 → s'.mem = s.mem)) ∧
  (∀ (t : Nat) (s : State),
      s.locked = true →
      s.boot = .done →
      ∃ s', exec (.pllLockLost t) s = .next s' ∧
        s'.get uTbase tb_TBSTAT_LOCK = 0 ∧
        s'.get uTbase tb_TBSTAT_LOCKLOST = 1 ∧
        (s'.get uSsv ssv_SHCAUSE_CAUSE).testBit 7 = true ∧
        s'.mem = s.mem) ∧
  (∀ (t : Nat) (s : State),
      s.locked = true →
      s.boot ≠ .done →
      ∃ s', exec (.pllLockLost t) s = .next s' ∧
        s'.get uTbase tb_TBSTAT_LOCK = 0 ∧
        s'.get uTbase tb_TBSTAT_LOCKLOST = 1 ∧
        s'.get uSsv ssv_SHCAUSE_CAUSE = s.get uSsv ssv_SHCAUSE_CAUSE ∧
        s'.mem = s.mem) ∧
  (∀ (t : Nat) (stages : Nat) (d : Nat) (s : State),
      s.locked = true →
      s.boot = .done →
      s.inMode .calibrate = false →
      (s.dlAt = none ∨ s.dlAt = some d ∧ d + 40000 ≤ (s.at t).tick) →
      ∃ s', exec (.interpolatorRecalibration t stages) s = .next s' ∧
        s'.get uTbase tb_DLSTAT_CALCNT = (s.get uTbase tb_DLSTAT_CALCNT + 1) % 2 ^ tb_DLSTAT_CALCNT.w ∧
        s'.get uTbase tb_DLSTAT_STAGES = stages % 2 ^ tb_DLSTAT_STAGES.w ∧
        (∀ a, a ≠ uTbase.addr tb_DLSTAT_CALCNT.off → s'.getW a = s.getW a) ∧
        s'.mem = s.mem)

/-- UCTL.EN takes its value, and UCTL.URST holds a unit until its reset completes. R15, R16, R89: UNIT_ENABLE, UNIT_RESET,
UNIT_RESET_COMPLETE. -/
def Obligations.UnitEnableReset : Prop :=
  (∀ (t : Nat) (page : Nat) (u : Machine.Unit) (on : Bool) (s : State),
      unitAt page = some u →
      s.serves u 0xC →
      ∃ s', exec (.unitEnable t page on) s = .next s' ∧
        s'.on u hdr_UCTL_EN = on ∧
        s'.on u hdr_UCTL_LOCK = s.on u hdr_UCTL_LOCK ∧
        (s.flips = [] → s'.mem = s.mem)) ∧
  (∀ (t : Nat) (page : Nat) (u : Machine.Unit) (s : State),
      unitAt page = some u →
      s.serves u 0xC →
      ∃ s', exec (.unitReset t page) s = .next s' ∧
        s'.on u hdr_UCTL_URST = true ∧
        s'.enabled u = false ∧
        s'.on u hdr_UCTL_EN = s.on u hdr_UCTL_EN ∧
        s'.on u hdr_UCTL_LOCK = s.on u hdr_UCTL_LOCK ∧
        (s.flips = [] → s'.mem = s.mem)) ∧
  (∀ (t : Nat) (page : Nat) (u : Machine.Unit) (s : State),
      unitAt page = some u →
      s.on u hdr_UCTL_URST = true →
      ∃ s', exec (.unitResetComplete t page) s = .next s' ∧
        s'.on u hdr_UCTL_URST = false ∧
        s'.on u hdr_UCTL_EN = s.on u hdr_UCTL_EN ∧
        s'.on u hdr_UCTL_LOCK = s.on u hdr_UCTL_LOCK ∧
        (s.flips = [] → s'.mem = s.mem))

/-- A mode command starts its transition or is refused with the first failing cause; and the ends of transitions. R74:
MODECMD. R71, R73, R77: MODE_TRANSITION_COMPLETE, CALIBRATION_COMPLETE, DISCHARGE_TIMEOUT. -/
def Obligations.Modes : Prop :=
  (∀ (t : Nat) (target : Nat) (after : Nat) (frm : Nat) (s : State),
      s.serves uSys 0xC4 →
      target < 16 →
      after < 16 →
      target ≠ 2 →
      target ≠ 7 →
      s.modeCause target after frm = 0 →
      ∃ s', exec (.modecmd t target after frm) s = .next s' ∧
        s'.get uSys sys_MODESTAT_TRANS = 1 ∧
        s'.mode = s.mode ∧
        s'.trans = some ⟨target, after, 0⟩ ∧
        s'.get uSys sys_MODECMD_GO = 0 ∧
        s'.mem = s.mem) ∧
  (∀ (t : Nat) (frm : Nat) (s : State),
      s.serves uSys 0xC4 →
      s.modeCause 2 3 frm = 0 →
      ∃ s', exec (.modecmd t 2 3 frm) s = .next s' ∧
        s'.get uSys sys_MODESTAT_TRANS = 1 ∧
        s'.mode = 2 ∧
        s'.trans = some ⟨2, 3, 0⟩ ∧
        s'.mem = s.mem) ∧
  (∀ (t : Nat) (after : Nat) (frm : Nat) (s : State),
      s.serves uSys 0xC4 →
      after < 16 →
      s.modeCause 7 after frm = 0 →
      ∃ s', exec (.modecmd t 7 after frm) s = .next s' ∧
        s'.mode = 7 ∧
        s'.get uSys sys_MODESTAT_TRANS = 1 ∧
        s'.trans = some ⟨7, after, 0⟩ ∧
        s'.afterDis = after ∧
        s'.get uSys sys_MODESTAT_PREV = s.mode) ∧
  (∀ (t : Nat) (target : Nat) (after : Nat) (frm : Nat) (s : State),
      s.serves uSys 0xC4 →
      target < 16 →
      after < 16 →
      frm < 16 →
      s.modeCause target after frm ≠ 0 →
      ∃ s', exec (.modecmd t target after frm) s = .next s' ∧
        s'.get uSys sys_MODERES_REFUSED = 1 ∧
        (s.get uSys sys_MODERES_CAUSE = 0 → s'.get uSys sys_MODERES_CAUSE = s.modeCause target after frm) ∧
        s'.evBit uSys 1 = true ∧
        s'.mode = s.mode ∧
        s'.trans = s.trans ∧
        s'.get uSys sys_MODESTAT_TRANS = s.get uSys sys_MODESTAT_TRANS) ∧
  (∀ (t : Nat) (x : Trans) (s : State),
      s.trans = some x →
      x.target = 1 →
      (s.mode = 3 ∨ s.mode = 6) →
      s.pair.take = none →
      s.pair.release = none →
      s.stoIn = false →
      s.get uSsv ssv_SHCAUSE_CAUSE = 0 →
      s.get uSys sys_MODESTAT_TRANS = 1 →
      s.get uSsv ssv_STOCFG_MODE = 0 →
      ∃ s', exec (.modeTransitionComplete t) s = .next s' ∧
        s'.mode = 1 ∧
        s'.get uSys sys_MODESTAT_TRANS = 0 ∧
        s'.get uSys sys_MODERES_DONE = 1 ∧
        s'.trans = none ∧
        s'.get uSys sys_LOCKALL_ALL = 0 ∧
        (∀ a, s'.byte a = s.byte a)) ∧
  (∀ (t : Nat) (x : Trans) (s : State),
      s.trans = some x →
      x.target < 6 →
      s.mode ≠ 0 →
      s.mode ≠ 2 →
      s.mode ≠ 7 →
      s.pair.take = none →
      s.pair.release = none →
      ∃ s', exec (.modeTransitionComplete t) s = .next s' ∧
        (s'.mode = x.target ∨ s'.mode = 6) ∧
        s'.get uSys sys_MODESTAT_TRANS = 0 ∧
        s'.trans = none) ∧
  (∀ (t : Nat) (x : Trans) (s : State),
      s.trans = some x →
      x.target < 6 →
      s.inMode .dormant = true →
      s.locked = true →
      s.pair.take = none →
      s.pair.release = none →
      ∃ s', exec (.modeTransitionComplete t) s = .next s' ∧
        (s'.mode = x.target ∨ s'.mode = 6) ∧
        s'.get uSys sys_MODESTAT_TRANS = 0 ∧
        s'.trans = none ∧
        (s.get uSys sys_MODESTAT_VARIANT = 4 → s'.get uTbase tb_TBSTAT_DLCAL = 0)) ∧
  (∀ (t : Nat) (x : Trans) (s : State),
      s.trans = some x →
      x.after < 2 →
      s.inMode .discharge = true →
      s.discharged = true →
      s.pair.take = none →
      s.pair.release = none →
      ∃ s', exec (.modeTransitionComplete t) s = .next s' ∧
        (s'.mode = x.after ∨ s'.mode = 6) ∧
        s'.get uSys sys_MODESTAT_TRANS = 0 ∧
        s'.trans = none) ∧
  (∀ (t : Nat) (s : State),
      s.inMode .calibrate = true →
      (∀ n ∈ List.range 8, s.get (uCv n) cv_CVSTAT_CALIB = 0) →
      s.get uSys sys_MODESTAT_TRANS = 1 →
      s.stoIn = false →
      s.get uSsv ssv_SHCAUSE_CAUSE = 0 →
      s.get uSsv ssv_STOCFG_MODE = 0 →
      ∃ s', exec (.calibrationComplete t false) s = .next s' ∧
        s'.mode = 1 ∧
        s'.get uSys sys_MODESTAT_TRANS = 0 ∧
        s'.get uSys sys_MODERES_ABORTED = 1 ∧
        s'.get uSys sys_MODERES_CAUSE = 8 ∧
        s'.trans = none) ∧
  (∀ (t : Nat) (s : State),
      s.inMode .calibrate = true →
      (∀ n ∈ List.range 8, s.get (uCv n) cv_CVSTAT_CALIB = 0) →
      s.get uSys sys_MODESTAT_TRANS = 1 →
      s.calFailed = false →
      ∃ s', exec (.calibrationComplete t true) s = .next s' ∧
        s'.get uSys sys_MODESTAT_TRANS = 0 ∧
        s'.get uTbase tb_TBSTAT_DLCAL = 1 ∧
        s'.mode = 3) ∧
  (∀ (t : Nat) (s : State),
      s.inMode .discharge = true →
      s.discharged = false →
      s.due (s.link.disAt + 800000000) = true →
      (s.locked = false ∨ s.tick ≤ t) →
      ∃ s', exec (.dischargeTimeout t) s = .next s' ∧
        (s'.get uSsv ssv_SHCAUSE_CAUSE).testBit 14 = true ∧
        s'.mode = 6 ∧
        s'.get uSys sys_MODESTAT_TRANS = 0)

/-- The transition table: what is not in it is refused as ILLEGAL, and the first checks come first. R71, R74: which commands
are refused. -/
def Obligations.ModeTable : Prop :=
  ∀ (s : State) (target after frm : Nat),
    (frm ≠ s.mode → s.modeCause target after frm = 2) ∧
    (frm = s.mode → s.get uSys sys_MODESTAT_TRANS = 1 → s.modeCause target after frm = 3) ∧
    (frm = s.mode → s.get uSys sys_MODESTAT_TRANS = 0 → s.get uSys sys_STRAPS_TMODE = 0 →
      (frm, target) ∉ [(1, 2), (1, 0), (3, 4), (3, 5), (3, 1), (3, 0), (3, 7), (4, 3), (4, 5), (4, 7), (5, 4), (5, 3), (6, 3),
        (6, 1), (6, 7), (0, 1), (0, 3)] → s.modeCause target after frm = 1)

/-- A masked write by kind, lock and byte enables; a COR read that clears; the wide value read; the end of a status hold. R94,
R97, R103: REGISTER_WRITE on three registers of the common header. R94, R98, R107: COR_READ and WIDE_VALUE_LO_READ. R98:
STATUS_HOLD_END, on an event bit and on TBSTAT.LOCKLOST with lock. -/
def Obligations.RegisterAccess : Prop :=
  (∀ (t : Nat) (port : Nat) (page : Nat) (o : Nat) (w : Word) (be : Nat) (u : Machine.Unit) (m : Word) (s : State),
      s.calm →
      port < 2 →
      s.idlePort port →
      unitAt page = some u →
      s.unheld u →
      (o = 0x14 ∨ o = 0x18 ∨ o = 0x20) →
      0 < be →
      be < 16 →
      (m = (kindMask .rw (u.fieldsAt o) ||| (if s.on u hdr_UCTL_LOCK then 0 else kindMask .rwl (u.fieldsAt o))) &&& beMask be) →
      ∃ s', exec (.registerWrite t port (page * 0x1000 + o) w be) s = .next s' ∧
        s'.getW (u.addr o) = maskedWord m (s.getW (u.addr o)) w ∧
        ((s'.port port).stat = if s.on u hdr_UCTL_LOCK ∧ kindMask .rwl (u.fieldsAt o) &&& beMask be ≠ 0 then 2 else 0) ∧
        s'.mem = s.mem) ∧
  (∀ (t : Nat) (port : Nat) (page : Nat) (u : Machine.Unit) (s : State),
      s.calm →
      port < 2 →
      s.idlePort port →
      unitAt page = some u →
      s.unheld u →
      s.stmode = false →
      (s.port port).latch = none →
      ∃ s', exec (.corRead t port (page * 0x1000 + 0x1C)) s = .next s' ∧
        (s'.port port).word = s.getW (u.addr 0x1C) ∧
        (s'.port port).stat = 0 ∧
        s'.getW (u.addr 0x1C) = s.getW (u.addr 0x1C) &&& ~~~(kindMask .cor (u.fieldsAt 0x1C)) ∧
        (∀ a, a ≠ u.addr 0x1C → s'.getW a = s.getW a) ∧
        (∀ a, s'.byte a = s.byte a)) ∧
  (∀ (t : Nat) (port : Nat) (page : Nat) (u : Machine.Unit) (s : State),
      s.calm →
      port < 2 →
      s.idlePort port →
      unitAt page = some u →
      s.unheld u →
      s.stmode = true →
      (s.port port).latch = none →
      ∃ s', exec (.corRead t port (page * 0x1000 + 0x1C)) s = .next s' ∧
        (s'.port port).word = s.getW (u.addr 0x1C) ∧
        (s'.port port).stat = 0 ∧
        (∀ a, s'.getW a = s.getW a) ∧
        (∀ a, s'.byte a = s.byte a)) ∧
  (∀ (t : Nat) (port : Nat) (s : State),
      s.calm →
      port < 2 →
      s.idlePort port →
      s.unheld uTbase →
      ∃ s', exec (.wideValueLoRead t port 0x1048) s = .next s' ∧
        (((s'.port port).burst.map fun b => (b.op, b.frame.addr, b.next, b.run.words)) = some (.read, 0x1048, 1, [if s.wideZero
            then 0 else BitVec.ofNat 32 (s.at t).tick])) ∧
        ((s'.port port).latch = some (0x104C, if s.wideZero then 0 else BitVec.ofNat 32 ((s.at t).tick / 2 ^ 32))) ∧
        (∀ a, s'.getW a = s.getW a) ∧
        (∀ a, s'.byte a = s.byte a)) ∧
  (∀ (t : Nat) (port : Nat) (s : State),
      s.calm →
      port < 2 →
      s.idlePort port →
      s.unheld uTbase →
      ∃ s', exec (.corRead t port 0x104C) s = .next s' ∧
        ((s'.port port).word = if s.wideZero then 0 else BitVec.ofNat 32 ((s.at t).tick / 2 ^ 32)) ∧
        (s'.port port).latch = none ∧
        (∀ a, s'.getW a = s.getW a)) ∧
  (∀ (t : Nat) (page : Nat) (u : Machine.Unit) (lo : Nat) (h : Nat) (s : State),
      s.stmode = true →
      unitAt page = some u →
      ((u.fieldsAt 0x10).any (fun f => f.lo ≤ lo && lo < f.lo + f.w && f.kind = .cor) = true) →
      (sget (fun _ => 0) s.holds (holdKey u ⟨0x10, lo, 1⟩) = h) →
      0 < h →
      (s.at t).due (h - 1 + 100000) = true →
      lo < 32 →
      ∃ s', exec (.statusHoldEnd t page 0x10 lo) s = .next s' ∧
        s'.evBit u lo = false ∧
        (sget (fun _ => 0) s'.holds (holdKey u ⟨0x10, lo, 1⟩) = 0) ∧
        (∀ a, a ≠ u.addr 0x10 → s'.getW a = s.getW a))

/-- UCTL.FCLR clears OWNF where the cause has gone, UCTL.LOCK locks the subtree, and LOCKALL every page. R90, R97, R100:
FAULT_CLEAR, PAGE_LOCK, LOCKALL, LOCKALL_COMPLETE. -/
def Obligations.FaultClearAndLock : Prop :=
  (∀ (t : Nat) (port : Nat) (page : Nat) (u : Machine.Unit) (s : State),
      s.calm →
      port < 2 →
      s.idlePort port →
      unitAt page = some u →
      s.unheld u →
      u.kind ∉ [.stage, .cm, .chan, .so, .reg, .srv] →
      s.causeStands u = false →
      (s.at t).noted (0x2000000 + page) = false →
      ∃ s', exec (.faultClear t port page) s = .next s' ∧
        s'.get u hdr_USTAT_OWNF = 0 ∧
        (s'.port port).stat = 0 ∧
        s'.mem = s.mem) ∧
  (∀ (t : Nat) (port : Nat) (page : Nat) (u : Machine.Unit) (s : State),
      s.calm →
      port < 2 →
      s.idlePort port →
      unitAt page = some u →
      s.unheld u →
      ∃ s', exec (.pageLock t port page) s = .next s' ∧
        (∀ v ∈ u.subtree, s'.get v hdr_UCTL_LOCK = 1) ∧
        (s'.port port).stat = 0 ∧
        s'.mem = s.mem) ∧
  (∀ (t : Nat) (port : Nat) (s : State),
      s.calm →
      port < 2 →
      s.idlePort port →
      s.unheld uSys →
      s.get uSys sys_LOCKALL_ALL = 0 →
      ∃ s', exec (.lockall t port) s = .next s' ∧
        s'.lockBusy = true ∧
        s'.get uSys sys_LOCKALL_ALL = 0 ∧
        (∀ a, s'.getW a = s.getW a)) ∧
  (∀ (t : Nat) (s : State),
      s.lockBusy = true →
      ∃ s', exec (.lockallComplete t) s = .next s' ∧
        s'.get uSys sys_LOCKALL_ALL = 1 ∧
        s'.lockBusy = false ∧
        s'.get uPscrub psc_CSSTAT_ARMED = 1 ∧
        (∀ u ∈ allUnits, s'.get u hdr_UCTL_LOCK = 1) ∧
        s'.mem = s.mem)

/-- The mailbox captures, and the host's writes of signal values and of the signal directory. R111, R112: MBX_SEL_WRITE and
MAILBOX_CAPTURE_DONE. R26 to R32: SIGNAL_HOST_WRITE and SIGNAL_DIRECTORY_WRITE. -/
def Obligations.MailboxAndSignals : Prop :=
  (∀ (t : Nat) (port : Nat) (w : Word) (s : State),
      s.calm →
      port < 2 →
      s.idlePort port →
      ∃ s', exec (.mbxSelWrite t port w 15) s = .next s' ∧
        s'.getW 0xF00000 = w &&& 0x00FFFFFC ∧
        (s'.getW 0xF00004 = if port = 1 then 0x100 else 0) ∧
        s'.getW 0xF00008 = 0 ∧
        s'.getW 0xF0000C = 0 ∧
        s'.mbxCap = some ((s.at t).wideAt (w &&& 0x00FFFFFC).toNat) ∧
        s.keeps s' [0xF00000, 0xF00004, 0xF00008, 0xF0000C]) ∧
  (∀ (t : Nat) (v : Nat) (s : State),
      s.mbxCap = some (some v) →
      ∃ s', exec (.mailboxCaptureDone t) s = .next s' ∧
        s'.getW 0xF00008 = BitVec.ofNat 32 v ∧
        s'.getW 0xF0000C = BitVec.ofNat 32 (v / 2 ^ 32) ∧
        mbx_MBX_VALID_VALID.get (s'.getW 0xF00004) = 1 ∧
        mbx_MBX_VALID_BAD.get (s'.getW 0xF00004) = 0 ∧
        s'.mbxCap = none ∧
        s.keeps s' [0xF00004, 0xF00008, 0xF0000C]) ∧
  (∀ (t : Nat) (s : State),
      s.mbxCap = some none →
      ∃ s', exec (.mailboxCaptureDone t) s = .next s' ∧
        mbx_MBX_VALID_VALID.get (s'.getW 0xF00004) = 1 ∧
        mbx_MBX_VALID_BAD.get (s'.getW 0xF00004) = 1 ∧
        s'.mbxCap = none ∧
        s.keeps s' [0xF00004]) ∧
  (∀ (t : Nat) (port : Nat) (n : Nat) (w : Word) (be : Nat) (s : State),
      s.calm →
      port < 2 →
      s.idlePort port →
      n < 4096 →
      0 < be →
      be < 16 →
      s.dir n dir_WCLASS = 6 →
      ∃ s', exec (.signalHostWrite t port n w be) s = .next s' ∧
        (s'.sig n = if s.dir n dir_TYPE = 0 then ((maskedWord (beMask be) (s.sig n) w).extractLsb' 0 16).signExtend 32 else maskedWord (beMask be) (s.sig n) w) ∧
        (s'.port port).stat = 0 ∧
        (∀ a, a ≠ sigAddr n → s'.getW a = s.getW a) ∧
        (∀ a, s'.byte a = s.byte a)) ∧
  (∀ (t : Nat) (port : Nat) (n : Nat) (w : Word) (be : Nat) (s : State),
      s.calm →
      port < 2 →
      s.idlePort port →
      n < 4096 →
      0 < be →
      be < 16 →
      s.dir n dir_WCLASS ≠ 6 →
      ∃ s', exec (.signalHostWrite t port n w be) s = .next s' ∧
        s'.sig n = s.sig n ∧
        (s'.port port).stat = 1 ∧
        s'.get uSigb sigb_SIGERR_ERR = 1 ∧
        (s.get uSigb sigb_SIGERR_ERR = 0 → s'.get uSigb sigb_SIGERR_CAUSE = 3 ∧ s'.get uSigb sigb_SIGERR_SIGNUM = n) ∧
        s'.mem = s.mem) ∧
  (∀ (t : Nat) (port : Nat) (n : Nat) (w : Word) (s : State),
      s.calm →
      port < 2 →
      s.idlePort port →
      n < 4096 →
      s.inMode .config = true →
      s.get uSigb hdr_UCTL_LOCK = 0 →
      s.dir n dir_WCLASS = 0 →
      s.dir n dir_RDRCNT = 0 →
      ∃ s', exec (.signalDirectoryWrite t port n w 15) s = .next s' ∧
        (s'.dir n dir_TYPE = if w.getLsbD 0 then 1 else 0) ∧
        (s'.dir n dir_HOSTW = if w.getLsbD 1 then 1 else 0) ∧
        (s'.dir n dir_WCLASS = if w.getLsbD 1 then 6 else 0) ∧
        (s'.port port).stat = 0)

/-- A write of a pod's OUTBIND binds its signal, and is rejected where the signal has another writer. R29, R32:
SIGNAL_BINDING_WRITE, on OUTBIND. -/
def Obligations.BindingWrite : Prop :=
  (∀ (t : Nat) (port : Nat) (p : Nat) (k : Nat) (n : Nat) (s : State),
      s.calm →
      port < 2 →
      s.idlePort port →
      p < 128 →
      k < 8 →
      n < 4096 →
      s.enabled (uPod p) = false →
      s.unheld (uPod p) →
      s.get (uPod p) hdr_UCTL_LOCK = 0 →
      s.get (uPod p) (pod_OUTBIND_KIND k) = 0 →
      s.dir n dir_TYPE = 0 →
      s.dir n dir_WCLASS = 0 →
      ∃ s', exec (.signalBindingWrite t port ((uPod p).addr (pod_OUTBIND_KIND k).off) (BitVec.ofNat 32 (2 ^ (pod_OUTBIND_KIND k).lo
          + n * 2 ^ (pod_OUTBIND_TARGET k).lo)) 15) s = .next s' ∧
        s'.dir n dir_WCLASS = 1 ∧
        s'.dir n dir_WINST = p * 8 + k ∧
        s'.get (uPod p) (pod_OUTBIND_KIND k) = 1 ∧
        s'.get (uPod p) (pod_OUTBIND_TARGET k) = n ∧
        (s'.port port).stat = 0 ∧
        s'.mem = s.mem) ∧
  (∀ (t : Nat) (port : Nat) (p : Nat) (k : Nat) (n : Nat) (s : State),
      s.calm →
      port < 2 →
      s.idlePort port →
      p < 128 →
      k < 8 →
      n < 4096 →
      s.enabled (uPod p) = false →
      s.unheld (uPod p) →
      s.get (uPod p) hdr_UCTL_LOCK = 0 →
      s.get (uPod p) (pod_OUTBIND_KIND k) = 0 →
      s.dir n dir_TYPE = 0 →
      s.dir n dir_WCLASS = 6 →
      ∃ s', exec (.signalBindingWrite t port ((uPod p).addr (pod_OUTBIND_KIND k).off) (BitVec.ofNat 32 (2 ^ (pod_OUTBIND_KIND k).lo
          + n * 2 ^ (pod_OUTBIND_TARGET k).lo)) 15) s = .next s' ∧
        s'.dir n dir_WCLASS = 6 ∧
        s'.get uSigb sigb_SIGERR_ERR = 1 ∧
        (s.get uSigb sigb_SIGERR_ERR = 0 → s'.get uSigb sigb_SIGERR_CAUSE = 1) ∧
        s'.mem = s.mem)

/-- Host writes of the pool, table memory, allocations, configuration words, read pointers and source bits. R36, R37, R39:
POOL_ALLOCATION_COMMIT, POOL_HOST_WRITE, TABLE_MEMORY_WRITE. R94 and the chapters: the written words stand, whatever
follows from them. R124, R127, R411: RDPTR_WRITE, SRCPEND_CLEAR, EVENT_BALL_PULSE_END. -/
def Obligations.MemoryAndConfigurationWrites : Prop :=
  (∀ (t : Nat) (port : Nat) (off : Nat) (w : Word) (be : Nat) (s : State),
      s.calm →
      port < 2 →
      s.idlePort port →
      off % 4 = 0 →
      off < 0x400000 →
      0 < be →
      be < 16 →
      s.inMode .config = true →
      s.errs (cwOfAddr (poolBase + off)) = [] →
      ∃ s', exec (.poolHostWrite t port off w be) s = .next s' ∧
        s'.memWord (poolBase + off) = maskedWord (beMask be) (s.memWord (poolBase + off)) w ∧
        (∀ a, a < poolBase + off ∨ poolBase + off + 3 < a → s'.byte a = s.byte a) ∧
        (s'.port port).stat = 0 ∧
        (∀ a, s'.getW a = s.getW a)) ∧
  (∀ (t : Nat) (port : Nat) (off : Nat) (w : Word) (be : Nat) (s : State),
      s.calm →
      port < 2 →
      s.idlePort port →
      off % 4 = 0 →
      off < 0x80000 →
      0 < be →
      be < 16 →
      (s.inMode .config = true ∨ off / 0x40000 ≠ s.activeBank) →
      s.errs (cwOfAddr (tableBase + off)) = [] →
      ∃ s', exec (.tableMemoryWrite t port off w be) s = .next s' ∧
        s'.memWord (tableBase + off) = maskedWord (beMask be) (s.memWord (tableBase + off)) w ∧
        (∀ a, a < tableBase + off ∨ tableBase + off + 3 < a → s'.byte a = s.byte a) ∧
        (s'.port port).stat = 0 ∧
        s'.bankOk (off / 0x40000) = false) ∧
  (∀ (t : Nat) (port : Nat) (off : Nat) (w : Word) (be : Nat) (s : State),
      s.calm →
      port < 2 →
      s.idlePort port →
      off % 4 = 0 →
      off < 0x80000 →
      0 < be →
      be < 16 →
      s.inMode .config = false →
      off / 0x40000 = s.activeBank →
      ∃ s', exec (.tableMemoryWrite t port off w be) s = .next s' ∧
        (s'.port port).stat = 1 ∧
        (∀ a, s'.byte a = s.byte a) ∧
        s'.get uTbk tbk_TBSTAT_BANKOK = s.get uTbk tbk_TBSTAT_BANKOK) ∧
  (∀ (t : Nat) (port : Nat) (n : Nat) (c : Nat) (s : State),
      s.calm →
      port < 2 →
      s.idlePort port →
      n < 64 →
      c < 256 →
      s.unheld uPalloc →
      s.get uPalloc (palloc_ALLOCB_VALID n) = 0 →
      (s.set uPalloc (palloc_ALLOCB_CLIENT n) c).allocCause n = 0 →
      ∃ s', exec (.poolAllocationCommit t port n (BitVec.ofNat 32 (2 ^ 31 + c)) 15) s = .next s' ∧
        s'.get uPalloc (palloc_ALLOCB_VALID n) = 1 ∧
        s'.get uPalloc (palloc_ALLOCB_CLIENT n) = c ∧
        (s'.port port).stat = 0 ∧
        (∀ a, a ≠ uPalloc.addr (palloc_ALLOCB_VALID n).off → s'.getW a = s.getW a) ∧
        (∀ a, s'.byte a = s.byte a)) ∧
  (∀ (t : Nat) (port : Nat) (a : Nat) (c : Nat) (w : Word) (be : Nat) (s : State),
      s.calm →
      port < 2 →
      s.idlePort port →
      0 < be →
      be < 16 →
      a < 16 →
      c < 8 →
      s.unheld (uQuad a) →
      s.noted ((uQuad a).addr (0x140 + 0x80 * (a % 4) + 4 * c)) = false →
      ∃ s', exec (.areqHostWrite t port a c w be) s = .next s' ∧
        (s'.getW ((uQuad a).addr (0x140 + 0x80 * (a % 4) + 4 * c)) = maskedWord ((kindMask .rw ((uQuad a).fieldsAt (0x140 + 0x80 * (a % 4)
            + 4 * c)) ||| (if s.on (uQuad a) hdr_UCTL_LOCK then 0 else kindMask .rwl ((uQuad a).fieldsAt (0x140 + 0x80 * (a % 4)
            + 4 * c)))) &&& beMask be) (s.getW ((uQuad a).addr (0x140 + 0x80 * (a % 4) + 4 * c))) w) ∧
        s'.mem = s.mem) ∧
  (∀ (t : Nat) (port : Nat) (a : Nat) (c : Nat) (w : Word) (be : Nat) (s : State),
      s.calm →
      port < 2 →
      s.idlePort port →
      0 < be →
      be < 16 →
      a < 16 →
      c < 8 →
      s.unheld (uQuad a) →
      ∃ s', exec (.acompWrite t port a c w be) s = .next s' ∧
        (s'.getW ((uQuad a).addr (0x120 + 0x80 * (a % 4) + 4 * c)) = maskedWord ((kindMask .rw ((uQuad a).fieldsAt (0x120 + 0x80 * (a % 4)
            + 4 * c)) ||| (if s.on (uQuad a) hdr_UCTL_LOCK then 0 else kindMask .rwl ((uQuad a).fieldsAt (0x120 + 0x80 * (a % 4)
            + 4 * c)))) &&& beMask be) (s.getW ((uQuad a).addr (0x120 + 0x80 * (a % 4) + 4 * c))) w) ∧
        s'.mem = s.mem) ∧
  (∀ (t : Nat) (port : Nat) (w : Word) (be : Nat) (s : State),
      s.calm →
      port < 2 →
      s.idlePort port →
      0 < be →
      be < 16 →
      s.unheld (uStage 0) →
      ∃ s', exec (.machWrite t port w be) s = .next s' ∧
        (s'.getW ((uStage 0).addr 0x80) = maskedWord (s.writable (uStage 0) 0x80 be) (s.getW ((uStage 0).addr 0x80)) w) ∧
        s'.mem = s.mem ∧
        s'.get (uStage 1) trac_TCFG_MACH = s'.get (uStage 0) trac_TCFG_MACH) ∧
  (∀ (t : Nat) (port : Nat) (st : Nat) (w : Word) (be : Nat) (s : State),
      s.calm →
      port < 2 →
      s.idlePort port →
      0 < be →
      be < 16 →
      st < 2 →
      s.unheld (uStage st) →
      ∃ s', exec (.carrierPeriodWrite t port st w be) s = .next s' ∧
        (s'.getW ((uStage st).addr 0x84) = maskedWord (s.writable (uStage st) 0x84 be) (s.getW ((uStage st).addr 0x84)) w) ∧
        s'.mem = s.mem) ∧
  (∀ (t : Nat) (port : Nat) (c : Nat) (w : Word) (be : Nat) (s : State),
      s.calm →
      port < 2 →
      s.idlePort port →
      0 < be →
      be < 16 →
      c < 6 →
      s.unheld (uChan c) →
      ∃ s', exec (.channelConfigWrite t port c w be) s = .next s' ∧
        (s'.getW ((uChan c).addr 0x80) = maskedWord (s.writable (uChan c) 0x80 be) (s.getW ((uChan c).addr 0x80)) w) ∧
        s'.mem = s.mem) ∧
  (∀ (t : Nat) (port : Nat) (c : Nat) (w : Word) (be : Nat) (s : State),
      s.calm →
      port < 2 →
      s.idlePort port →
      0 < be →
      be < 16 →
      c < 6 →
      (s.at t).noted ((uDec c).addr 0x40) = false →
      s.unheld (uDec c) →
      ∃ s', exec (.drawPreset t port c w be) s = .next s' ∧
        s'.getW ((uDec c).addr 0x40) = maskedWord (kindMask .cnt ((uDec c).fieldsAt 0x40) &&& beMask be) (s.getW ((uDec c).addr 0x40)) w ∧
        s'.mem = s.mem) ∧
  (∀ (t : Nat) (port : Nat) (i : Nat) (w : Word) (be : Nat) (s : State),
      s.calm →
      port < 2 →
      s.idlePort port →
      0 < be →
      be < 16 →
      i < 24 →
      w.getLsbD 0 = false →
      s.unheld (uCk i) →
      ∃ s', exec (.compareArm t port i false w be) s = .next s' ∧
        (s'.getW ((uCk i).addr 0x40) = maskedWord (s.writable (uCk i) 0x40 be) (s.getW ((uCk i).addr 0x40)) w) ∧
        s'.mem = s.mem) ∧
  (∀ (t : Nat) (port : Nat) (i : Nat) (w : Word) (be : Nat) (s : State),
      s.calm →
      port < 2 →
      s.idlePort port →
      0 < be →
      be < 16 →
      i < 24 →
      s.get (uCk i) ck_KCTL_ARM = 0 →
      s.unheld (uCk i) →
      ∃ s', exec (.compareArm t port i true w be) s = .next s' ∧
        (s'.getW ((uCk i).addr 0x44) = maskedWord (s.writable (uCk i) 0x44 be) (s.getW ((uCk i).addr 0x44)) w) ∧
        s'.mem = s.mem) ∧
  (∀ (t : Nat) (port : Nat) (n : Nat) (w : Word) (s : State),
      s.calm →
      port < 2 →
      s.idlePort port →
      n < 8 →
      s.unheld (uCv n) →
      s.cvRegion n = none →
      (s.at t).noted ((uCv n).addr 0x68) = false →
      ∃ s', exec (.rdptrWrite t port n w 15) s = .next s' ∧
        (s'.getW ((uCv n).addr 0x68) = maskedWord (s.writable (uCv n) 0x68 15) (s.getW ((uCv n).addr 0x68)) w) ∧
        s'.mem = s.mem) ∧
  (∀ (t : Nat) (port : Nat) (k : Nat) (w : Word) (be : Nat) (s : State),
      s.calm →
      port < 2 →
      s.idlePort port →
      k < 16 →
      0 < be →
      be < 16 →
      s.unheld uRouter →
      (∀ j ∈ List.range 32, (s.at t).noted (0x1000000 + 32 * k + j) = false) →
      ∃ s', exec (.srcpendClear t port k w be) s = .next s' ∧
        s'.getW (uRouter.addr (0x100 + 4 * k)) = s.getW (uRouter.addr (0x100 + 4 * k)) &&& ~~~(w &&& beMask be) ∧
        (∀ a, a ≠ uRouter.addr (0x100 + 4 * k) → s'.getW a = s.getW a) ∧
        (s'.port port).stat = 0 ∧
        (∀ a, s'.byte a = s.byte a)) ∧
  (∀ (t : Nat) (x : Nat) (s : State),
      x < 2 →
      ∃ s', exec (.eventBallPulseEnd t x) s = .next s' ∧
        (s'.pulse = if s.pulse.testBit x then s.pulse - 2 ^ x else s.pulse) ∧
        s'.regs = s.regs ∧
        (∀ a, s'.byte a = s.byte a))

/-- READ, WRITE, WRITEM, NOP, an undefined opcode, a bad CRC, a replay and an aborted frame. R116 to R119: READ. R37, R116:
WRITE and WRITEM. R118 to R122: NOP, UNDEFINED_OPCODE, FRAME_ABORT. -/
def Obligations.HostFrames : Prop :=
  (∀ (t : Nat) (f : HFrame) (s : State),
      s.calm →
      s.boot ≠ .held →
      f.port < 2 →
      s.idlePort f.port →
      f.len < 256 →
      f.addr < 2 ^ 32 →
      f.seq < 256 →
      f.be < 256 →
      (f.part = 0 ∨ f.len < f.part) →
      requestCrc .read f [] = f.crc →
      (((s.port f.port).stored.filter fun x => f.seq ≠ 0 && x.1 = f.seq && x.2.1 = f.crc) = none) →
      f.be < 16 →
      f.addr % 4 = 0 →
      poolBase ≤ f.addr →
      f.addr + 4 * f.len < 0xC00000 →
      s.flips = [] →
      ∃ s', exec (.read t f) s = .next s' ∧
        ((s'.port f.port).resp = if f.cut then [] else response (s.statusWord f 0 {}) ((List.range (f.len + 1)).map fun i => s.memWord (f.addr
            + 4 * i))) ∧
        s'.get (uHp f.port) hp_FRAMES_COUNT = (s.get (uHp f.port) hp_FRAMES_COUNT + 1) % 2 ^ 32 ∧
        (∀ a, a ≠ (uHp f.port).addr hp_FRAMES_COUNT.off → a ≠ (uHp f.port).addr hp_PSTAT_QUADACT.off → s'.getW a = s.getW a) ∧
        (∀ a, s'.byte a = s.byte a)) ∧
  (∀ (t : Nat) (d : List Word) (f : HFrame) (s : State),
      s.calm →
      s.inMode .config = true →
      s.boot ≠ .held →
      f.port < 2 →
      s.idlePort f.port →
      f.len < 256 →
      f.addr < 2 ^ 32 →
      f.seq < 256 →
      f.be < 256 →
      (f.part = 0 ∨ f.len < f.part) →
      requestCrc .write f (takeWords (f.len + 1) d) = f.crc →
      (((s.port f.port).stored.filter fun x => f.seq ≠ 0 && x.1 = f.seq && x.2.1 = f.crc) = none) →
      f.be < 16 →
      f.addr % 4 = 0 →
      poolBase ≤ f.addr →
      f.addr + 4 * f.len < 0xC00000 →
      s.flips = [] →
      ∃ s', exec (.write t f d) s = .next s' ∧
        (∀ i ∈ List.range (f.len + 1), s'.memWord (f.addr + 4 * i) = maskedWord (beMask f.be) (s.memWord (f.addr + 4 * i)) (d.getD i 0)) ∧
        (∀ a, a < f.addr ∨ f.addr + 4 * f.len + 3 < a → s'.byte a = s.byte a) ∧
        s'.get (uHp f.port) hp_FRAMES_COUNT = (s.get (uHp f.port) hp_FRAMES_COUNT + 1) % 2 ^ 32 ∧
        ((s'.port f.port).resp = if f.cut then [] else response (s.statusWord f 0 {}) [])) ∧
  (∀ (t : Nat) (d : List Word) (e : List Word) (f : HFrame) (s : State),
      s.calm →
      s.inMode .config = true →
      s.boot ≠ .held →
      f.port < 2 →
      s.idlePort f.port →
      f.len < 256 →
      f.addr < 2 ^ 32 →
      f.seq < 256 →
      f.be < 256 →
      (f.part = 0 ∨ f.len < f.part) →
      requestCrc .writem f (takeWords (f.len / 8 + 1) e ++ takeWords (f.len + 1) d) = f.crc →
      (((s.port f.port).stored.filter fun x => f.seq ≠ 0 && x.1 = f.seq && x.2.1 = f.crc) = none) →
      f.be < 16 →
      f.addr % 4 = 0 →
      poolBase ≤ f.addr →
      f.addr + 4 * f.len < 0xC00000 →
      s.flips = [] →
      ∃ s', exec (.writem t f e d) s = .next s' ∧
        (∀ i ∈ List.range (f.len + 1), s'.memWord (f.addr + 4 * i) = maskedWord (beMask (bits (e.getD (i / 8) 0) (4 * (i % 8)) 4)) (s.memWord (f.addr
            + 4 * i)) (d.getD i 0)) ∧
        (∀ a, a < f.addr ∨ f.addr + 4 * f.len + 3 < a → s'.byte a = s.byte a) ∧
        s'.get (uHp f.port) hp_FRAMES_COUNT = (s.get (uHp f.port) hp_FRAMES_COUNT + 1) % 2 ^ 32) ∧
  (∀ (t : Nat) (d : List Word) (f : HFrame) (s : State),
      s.calm →
      s.inMode .config = true →
      s.boot ≠ .held →
      f.port < 2 →
      s.idlePort f.port →
      f.len < 256 →
      f.addr < 2 ^ 32 →
      f.seq < 256 →
      f.be < 256 →
      0 < f.part →
      f.part ≤ f.len →
      requestCrc .write f (takeWords (f.len + 1) d) = f.crc →
      (((s.port f.port).stored.filter fun x => f.seq ≠ 0 && x.1 = f.seq && x.2.1 = f.crc) = none) →
      f.be < 16 →
      f.addr % 4 = 0 →
      poolBase ≤ f.addr →
      f.addr + 4 * f.len < 0xC00000 →
      s.flips = [] →
      ∃ s', exec (.write t f d) s = .next s' ∧
        (∀ i ∈ List.range f.part, s'.memWord (f.addr + 4 * i) = maskedWord (beMask f.be) (s.memWord (f.addr + 4 * i)) (d.getD i 0)) ∧
        (∀ a, a < f.addr ∨ f.addr + 4 * f.part ≤ a → s'.byte a = s.byte a) ∧
        (((s'.port f.port).burst.map fun b => b.next) = some f.part)) ∧
  (∀ (t : Nat) (d : List Word) (f : HFrame) (n : Nat) (s : State),
      s.calm →
      s.inMode .config = true →
      f.port < 2 →
      f.addr % 4 = 0 →
      f.be < 16 →
      n ≤ f.len →
      poolBase ≤ f.addr →
      f.addr + 4 * f.len < 0xC00000 →
      s.flips = [] →
      (s.port f.port).burst = some { burstOf .write f (takeWords (f.len + 1) d) with next := n } →
      ∃ s', exec (.write t { f with part := 0 } d) s = .next s' ∧
        (∀ i ∈ List.range (f.len + 1), n ≤ i → s'.memWord (f.addr + 4 * i) = maskedWord (beMask f.be) (s.memWord (f.addr + 4 * i)) (d.getD i 0)) ∧
        (∀ a, a < f.addr + 4 * n ∨ f.addr + 4 * f.len + 3 < a → s'.byte a = s.byte a) ∧
        (s'.port f.port).burst = none ∧
        s'.get (uHp f.port) hp_FRAMES_COUNT = (s.get (uHp f.port) hp_FRAMES_COUNT + 1) % 2 ^ 32) ∧
  (∀ (t : Nat) (f : HFrame) (s : State),
      s.swReset = false →
      s.boot ≠ .held →
      f.port < 2 →
      s.idlePort f.port →
      f.len < 256 →
      f.addr < 2 ^ 32 →
      f.seq < 256 →
      f.be < 256 →
      (f.part = 0 ∨ f.len < f.part) →
      requestCrc .nop f [] = f.crc →
      (((s.port f.port).stored.filter fun x => f.seq ≠ 0 && x.1 = f.seq && x.2.1 = f.crc) = none) →
      f.be < 16 →
      f.len = 0 →
      ∃ s', exec (.nop t f) s = .next s' ∧
        ((s'.port f.port).resp = if f.cut then [] else response (s.statusWord f 0 {}) []) ∧
        s'.get (uHp f.port) hp_FRAMES_COUNT = (s.get (uHp f.port) hp_FRAMES_COUNT + 1) % 2 ^ 32 ∧
        (∀ a, s'.byte a = s.byte a)) ∧
  (∀ (t : Nat) (op : Nat) (f : HFrame) (s : State),
      s.boot ≠ .held →
      f.port < 2 →
      s.idlePort f.port →
      f.len < 256 →
      f.addr < 2 ^ 32 →
      f.seq < 256 →
      f.be < 256 →
      op ∉ [1, 2, 3, 15] →
      requestCrc (.undef op) f [] = f.crc →
      (((s.port f.port).stored.filter fun x => f.seq ≠ 0 && x.1 = f.seq && x.2.1 = f.crc) = none) →
      ∃ s', exec (.undefinedOpcode t f op) s = .next s' ∧
        s'.get (uHp f.port) hp_REJCNT_COUNT = (s.get (uHp f.port) hp_REJCNT_COUNT + 1) % 2 ^ 32 ∧
        s'.evBit (uHp f.port) 1 = true ∧
        ((s'.port f.port).resp.getD 2 0 = if f.cut then 0 else 2#8) ∧
        (∀ a, s'.byte a = s.byte a)) ∧
  (∀ (t : Nat) (f : HFrame) (s : State),
      s.boot ≠ .held →
      f.port < 2 →
      s.idlePort f.port →
      f.len < 256 →
      f.addr < 2 ^ 32 →
      f.seq < 256 →
      f.be < 256 →
      requestCrc .nop f [] ≠ f.crc →
      ∃ s', exec (.nop t f) s = .next s' ∧
        s'.get (uHp f.port) hp_CRCCNT_COUNT = (s.get (uHp f.port) hp_CRCCNT_COUNT + 1) % 2 ^ 32 ∧
        s'.evBit (uHp f.port) 0 = true ∧
        ((s'.port f.port).resp.getD 2 0 = if f.cut then 0 else 1#8) ∧
        (∀ a, s'.byte a = s.byte a)) ∧
  (∀ (t : Nat) (f : HFrame) (l : List Byte) (s : State),
      s.boot ≠ .held →
      f.port < 2 →
      s.idlePort f.port →
      f.len < 256 →
      f.addr < 2 ^ 32 →
      f.seq < 256 →
      f.be < 256 →
      requestCrc .read f [] = f.crc →
      0 < f.seq →
      (s.port f.port).stored = some (f.seq, f.crc, l) →
      ∃ s', exec (.read t f) s = .next s' ∧
        ((s'.port f.port).resp = if f.cut then [] else l) ∧
        s'.get (uHp f.port) hp_REPLAYCNT_COUNT = (s.get (uHp f.port) hp_REPLAYCNT_COUNT + 1) % 2 ^ 32 ∧
        (∀ a, s'.byte a = s.byte a)) ∧
  (∀ (t : Nat) (port : Nat) (s : State),
      s.boot ≠ .held →
      port < 2 →
      s.idlePort port →
      ∃ s', exec (.frameAbort t port) s = .next s' ∧
        s'.get (uHp port) hp_ABORTCNT_COUNT = (s.get (uHp port) hp_ABORTCNT_COUNT + 1) % 2 ^ 32 ∧
        s'.evBit (uHp port) 2 = true ∧
        (∀ a, s'.byte a = s.byte a))

/-- A carrier point takes the period in force and, at a load point, gives the modulation index. R230 to R239:
TRACTION_LOAD_POINT. -/
def Obligations.TractionCarrier : Prop :=
  (∀ (t : Nat) (st : Nat) (d : Nat) (s : State),
      st < 2 →
      s.lead st = st →
      s.tracRuns st = true →
      (s.at t).carrierDue st false = some d →
      ∃ s', exec (.tractionLoadPoint t st false) s = .next s' ∧
        (s'.tr st).period = s.get (uStage st) trac_TCAR_PERIOD ∧
        (s'.tr st).valley = d ∧
        (s'.tr st).next = some (d + (s'.tr st).len / 2) ∧
        (s'.tr st).nextPeak = true ∧
        (s'.tr st).selFrom = some d ∧
        (st = 0 ∨ s.get (uStage 1) trac_TCSYNC_EN = 0 → (s'.tr st).len = s.get (uStage st) trac_TCAR_PERIOD) ∧
        (∀ a, s'.byte a = s.byte a)) ∧
  (∀ (t : Nat) (st : Nat) (d : Nat) (va : Int) (vb : Int) (vdc : Int) (s : State),
      st < 2 →
      s.lead st = st →
      s.tracRuns st = true →
      (s.at t).carrierDue st true = some d →
      s.isLoad st true = true →
      (∀ q ∈ s.pods.map Prod.fst, (s.at t).applyDue q = false) →
      s.badParity = [] →
      vdc = lo16 (s.sig (s.get (uStage st) trac_TVDC_SIG)) →
      0 < vdc →
      (s.get (uStage st) trac_TVDC_MIN : Int) ≤ vdc →
      s.vAlphaBeta st (s.angleAt st (2 * d + ((s.tr st).len - (s.tr st).len / 2))) = (va, vb) →
      ∃ s', exec (.tractionLoadPoint t st true) s = .next s' ∧
        s'.get (uStage st) trac_TMI_MI = modIndex (va * va + vb * vb).toNat vdc.toNat ∧
        (s'.get (uStage st) trac_TPSTAT_VLIM = if s.get (uStage st) trac_TCFG_OVM = 0 ∧ overLinear (va * va + vb * vb).toNat vdc.toNat
            = true then 1 else 0))

/-- The selection of the position sensor, relock and RESEL, and the speed estimate in active short circuit. R241 to R246:
SELECTION_INSTANT, RELOCK_TIMEOUT, RESEL. R248: ASC_CURRENT_SIGN_CHANGE, TSPD_TIMEOUT. -/
def Obligations.PositionAndAsc : Prop :=
  (∀ (t : Nat) (st : Nat) (v : Nat) (i : PosIn) (s : State),
      st < 2 →
      s.lead st = st →
      s.tracRuns st = true →
      (s.at t).selectDue st = some v →
      s.posIn st = i →
      s.inMode .run = false →
      s.get (uStage st) trac_TSRC_SRC = 0 →
      ∃ s', exec (.selectionInstant t st) s = .next s' ∧
        s'.get (uStage st) trac_TANGSEL_ANGLE = i.sAng ∧
        s'.get (uStage st) trac_TPSTAT_STATE = 0 ∧
        (s'.get (uStage st) trac_TPSTAT_LOCK = if i.lock then 1 else 0) ∧
        (s'.get (uStage st) trac_TPSTAT_SENV = if i.sOk then 1 else 0) ∧
        s'.get (uStage st) trac_TPCTL_RESEL = 0) ∧
  (∀ (t : Nat) (st : Nat) (v : Nat) (i : PosIn) (s : State),
      st < 2 →
      s.lead st = st →
      s.tracRuns st = true →
      (s.at t).selectDue st = some v →
      s.posIn st = i →
      s.inMode .run = true →
      s.badParity = [] →
      s.get (uStage st) trac_TPSTAT_STATE = 0 →
      i.sOk = true →
      s.sel (uStage st) 6 = 0 →
      ∃ s', exec (.selectionInstant t st) s = .next s' ∧
        s'.get (uStage st) trac_TPSTAT_STATE = 0 ∧
        s'.get (uStage st) trac_TANGSEL_ANGLE = i.sAng ∧
        (s'.get (uStage st) trac_TPSTAT_LOCK = if i.lock then 1 else 0) ∧
        (s'.get (uStage st) trac_TPSTAT_SENV = if i.sOk then 1 else 0) ∧
        s'.get (uStage st) trac_TPCTL_RESEL = 0) ∧
  (∀ (t : Nat) (st : Nat) (v : Nat) (i : PosIn) (s : State),
      st < 2 →
      s.lead st = st →
      s.tracRuns st = true →
      (s.at t).selectDue st = some v →
      s.posIn st = i →
      s.inMode .run = true →
      s.badParity = [] →
      s.get (uStage st) trac_TPSTAT_STATE = 0 →
      i.sOk = false →
      i.lock = true →
      s.get (uStage st) trac_TSRC_FBEN = 1 →
      ∃ s', exec (.selectionInstant t st) s = .next s' ∧
        s'.get (uStage st) trac_TPSTAT_STATE = 1 ∧
        s'.get (uStage st) trac_TANGSEL_ANGLE = i.oAng ∧
        s'.evBit (uStage st) 17 = true ∧
        (s'.get (uStage st) trac_TPSTAT_LOCK = if i.lock then 1 else 0) ∧
        (s'.get (uStage st) trac_TPSTAT_SENV = if i.sOk then 1 else 0) ∧
        s'.get (uStage st) trac_TPCTL_RESEL = 0) ∧
  (∀ (t : Nat) (st : Nat) (v : Nat) (i : PosIn) (s : State),
      st < 2 →
      s.lead st = st →
      s.tracRuns st = true →
      (s.at t).selectDue st = some v →
      s.posIn st = i →
      s.inMode .run = true →
      s.badParity = [] →
      s.get (uStage st) trac_TPSTAT_STATE = 0 →
      i.sOk = false →
      s.get (uStage st) trac_TSRC_FBEN = 0 →
      ∃ s', exec (.selectionInstant t st) s = .next s' ∧
        s'.get (uStage st) trac_TPSTAT_STATE = 2 ∧
        s'.evBit (uStage st) 18 = true ∧
        s'.get (uStage st) trac_TLOSSCNT_COUNT = (s.get (uStage st) trac_TLOSSCNT_COUNT + 1) % 2 ^ trac_TLOSSCNT_COUNT.w ∧
        s'.get (uStage st) trac_THOLDT_STAMP = (s.at t).stamp ∧
        (s'.get (uStage st) trac_TPSTAT_LOCK = if i.lock then 1 else 0) ∧
        (s'.get (uStage st) trac_TPSTAT_SENV = if i.sOk then 1 else 0) ∧
        s'.get (uStage st) trac_TPCTL_RESEL = 0) ∧
  (∀ (t : Nat) (st : Nat) (v : Nat) (s : State),
      st < 2 →
      (s.at t).selectDue st = some v →
      s.inMode .run = true →
      s.badParity = [] →
      s.get (uStage st) trac_TPSTAT_STATE = 2 →
      (s.at t).relockOver st = true →
      ((s.posIn st).lock = false ∨ (s.tr st).locked + 1 < s.get (uStage st) trac_TLOSS_RELOCKN) →
      s.gstate st = 0 →
      s.sel (uStage st) 0 < 4 →
      s.sel (uStage st) 4 = 0 →
      s.enabled (uStage st) = true →
      ∃ s', exec (.relockTimeout t st) s = .next s' ∧
        s'.get (uStage st) trac_TPSTAT_STATE = 3 ∧
        s'.evBit (uStage st) 20 = true ∧
        s'.glatch st = true) ∧
  (∀ (t : Nat) (st : Nat) (s : State),
      st < 2 →
      s.serves (uStage st) 0xF0 →
      ∃ s', exec (.resel t st) s = .next s' ∧
        s'.get (uStage st) trac_TPCTL_RESEL = 1 ∧
        (∀ a, a ≠ (uStage st).addr trac_TPCTL_RESEL.off → s'.getW a = s.getW a) ∧
        (∀ a, s'.byte a = s.byte a)) ∧
  (∀ (t : Nat) (st : Nat) (t0 : Nat) (s : State),
      st < 2 →
      s.lead st = st →
      s.gstate st = 3 →
      s.get (uStage st) (trac_TCUR_EN 0) = 1 →
      (s.tr st).signAt = some t0 →
      s.locked = true →
      t0 < (s.at t).tick →
      ∃ s', exec (.ascCurrentSignChange t st) s = .next s' ∧
        s'.geti (uStage st) trac_TSPD_SPEED = min 32767 (roundDiv (65536 * 2 ^ s.get (uStage st) trac_TANG_OMSHIFT) (2 * ((s.at t).tick - t0))) ∧
        (s'.tr st).signAt = some (s.at t).tick) ∧
  (∀ (t : Nat) (st : Nat) (t0 : Nat) (s : State),
      st < 2 →
      s.lead st = st →
      s.gstate st = 3 →
      (s.tr st).signAt = some t0 →
      (s.at t).due (t0 + 20000000) = true →
      ∃ s', exec (.tspdTimeout t st) s = .next s' ∧
        s'.get (uStage st) trac_TSPD_SPEED = 0)

/-- A source that becomes active trips the stage that acts on it. R263 to R267: PROTECTION_SOURCE_ACTIVE and BLANKING_END. -/
def Obligations.ProtectionTrip : Prop :=
  (∀ (t : Nat) (g : Nat) (k : Nat) (s : State),
      g < 9 →
      s.lead g = g →
      s.acts g = true →
      s.gstate g = 0 →
      s.glatch g = false →
      s.isSource g (.sw g k) = true →
      (∀ h ∈ List.range 9, h ≠ g → s.isSource h (.sw g k) = false) →
      (s.at t).srcBlanked (.sw g k) = false →
      .sw g k ∉ s.srcActive →
      ∃ s', exec (.protectionSourceActive t (.sw g k) true) s = .next s' ∧
        s'.gstate g = 1 ∧
        s'.get (uStage g) stg_GTRIPCNT_COUNT = (s.get (uStage g) stg_GTRIPCNT_COUNT + 1) % 2 ^ stg_GTRIPCNT_COUNT.w ∧
        s'.evBit (uStage g) 0 = true ∧
        s'.get (uStage g) (stg_FLOGA_VALID 0) = 1 ∧
        s'.get (uStage g) (stg_FLOGA_KIND 0) = (srcLogged (.sw g k)).1 ∧
        s'.get (uStage g) (stg_FLOGA_NUM 0) = (srcLogged (.sw g k)).2 ∧
        (.sw g k) ∈ s'.srcActive) ∧
  (∀ (t : Nat) (g : Nat) (n : Nat) (s : State),
      g < 9 →
      s.lead g = g →
      s.acts g = true →
      s.gstate g = 0 →
      s.glatch g = false →
      s.isSource g (.cmp n) = true →
      (∀ h ∈ List.range 9, h ≠ g → s.isSource h (.cmp n) = false) →
      s.cmpOn n = true →
      .cmp n ∉ s.srcActive →
      ∃ s', exec (.protectionSourceActive t (.cmp n) true) s = .next s' ∧
        s'.gstate g = 1 ∧
        s'.get (uStage g) stg_GTRIPCNT_COUNT = (s.get (uStage g) stg_GTRIPCNT_COUNT + 1) % 2 ^ stg_GTRIPCNT_COUNT.w ∧
        s'.evBit (uStage g) 0 = true ∧
        s'.get (uStage g) (stg_FLOGA_VALID 0) = 1 ∧
        s'.get (uStage g) (stg_FLOGA_KIND 0) = (srcLogged (.cmp n)).1 ∧
        s'.get (uStage g) (stg_FLOGA_NUM 0) = (srcLogged (.cmp n)).2 ∧
        (.cmp n) ∈ s'.srcActive) ∧
  (∀ (t : Nat) (g : Nat) (k : Nat) (s : State),
      g < 9 →
      s.lead g = g →
      s.acts g = true →
      s.gstate g = 0 →
      s.glatch g = false →
      s.isSource g (.sw g k) = true →
      (∀ h ∈ List.range 9, h ≠ g → s.isSource h (.sw g k) = false) →
      (s.at t).srcBlanked (.sw g k) = false →
      ∃ s', exec (.blankingEnd t g k true) s = .next s' ∧
        s'.gstate g = 1 ∧
        s'.get (uStage g) stg_GTRIPCNT_COUNT = (s.get (uStage g) stg_GTRIPCNT_COUNT + 1) % 2 ^ stg_GTRIPCNT_COUNT.w ∧
        s'.evBit (uStage g) 0 = true ∧
        s'.get (uStage g) (stg_FLOGA_VALID 0) = 1 ∧
        s'.get (uStage g) (stg_FLOGA_KIND 0) = (srcLogged (.sw g k)).1 ∧
        s'.get (uStage g) (stg_FLOGA_NUM 0) = (srcLogged (.sw g k)).2 ∧
        (.sw g k) ∈ s'.srcActive) ∧
  (∀ (t : Nat) (g : Nat) (k : Nat) (s : State),
      ∃ s', exec (.blankingEnd t g k false) s = .next s' ∧
        (s'.srcActive = s.srcActive.filter fun x => !([Src.sw g k].contains x)) ∧
        s'.regs = s.regs ∧
        (∀ a, s'.byte a = s.byte a))

/-- The steps of a turn-off and the start of a short circuit; a retry check and the resume of a stage. R267, R268:
SOFT_STEP_END and ASC_START. R274: RETRY_CHECK and STAGE_RESUME. -/
def Obligations.TurnOffAndRetry : Prop :=
  (∀ (t : Nat) (st : Nat) (s : State),
      st < 9 →
      s.lead st = st →
      s.gstate st = 1 →
      (s.at t).due ((s.stg st).start + s.gsoft st) = true →
      ∃ s', exec (.softStepEnd t st) s = .next s' ∧
        s'.gstate st = 2 ∧
        (s'.stg st).soft = false ∧
        (s'.stg st).asc = (s.stg st).asc ∧
        s'.mem = s.mem) ∧
  (∀ (t : Nat) (st : Nat) (s : State),
      st < 9 →
      s.lead st = st →
      s.gstate st = 2 →
      (s.stg st).asc = true →
      (s.stg st).episode = false →
      (s.at t).due ((s.stg st).start + s.gsoft st + (s.dead32 st + 31) / 32) = true →
      ∃ s', exec (.ascStart t st) s = .next s' ∧
        s'.gstate st = 3 ∧
        s'.evBit (uStage st) 7 = true ∧
        s'.mem = s.mem) ∧
  (∀ (t : Nat) (st : Nat) (d : Nat) (gone : List Src) (s : State),
      st < 9 →
      s.lead st = st →
      (s.stg st).retryAt = some d →
      (s.at t).due d = true →
      (s.srcOff gone).srcNow st = false →
      ∃ s', exec (.retryCheck t st gone) s = .next s' ∧
        (s'.stg st).retryAt = none ∧
        (s'.stg st).resuming = some false ∧
        (s'.srcActive = s.srcActive.filter fun x => !(gone.contains x)) ∧
        s'.regs = s.regs) ∧
  (∀ (t : Nat) (st : Nat) (d : Nat) (gone : List Src) (s : State),
      st < 9 →
      s.lead st = st →
      (s.stg st).retryAt = some d →
      (s.at t).due d = true →
      (s.srcOff gone).srcNow st = true →
      ∃ s', exec (.retryCheck t st gone) s = .next s' ∧
        s'.glatch st = true ∧
        s'.evBit (uStage st) 2 = true ∧
        (s'.stg st).retryAt = none ∧
        (s'.stg st).resuming = none) ∧
  (∀ (t : Nat) (st : Nat) (gone : List Src) (s : State),
      st < 9 →
      s.lead st = st →
      (s.stg st).resuming = some false →
      s.gstate st ≠ 1 →
      (s.at t).resumePoint st = true →
      (s.srcOff gone).srcNow st = false →
      ∃ s', exec (.stageResume t st gone) s = .next s' ∧
        s'.gstate st = 0 ∧
        s'.evBit (uStage st) 3 = true ∧
        (s'.stg st).resuming = none ∧
        (s'.stg st).episode = false)

/-- Bootstrap refresh and the ready holds of a leg. R277, R278: BOOTSTRAP_REFRESH, DRIVER_READY_FALL, DRIVER_READY_RISE,
READY_HOLD_END. -/
def Obligations.ReadyHoldsAndRefresh : Prop :=
  (∀ (t : Nat) (st : Nat) (leg : Nat) (p : Nat) (s : State),
      2 ≤ st →
      st < 8 →
      leg < stageLegs st →
      s.get (uStage st) stg_GREF_EN = 1 →
      s.gstate st = 0 →
      s.acts st = true →
      (s.at t).refreshAt st leg = some p →
      (s.at t).commanded st (2 * leg) = true →
      (s.readyHold st leg) = none →
      ∃ s', exec (.bootstrapRefresh t st leg p) s = .next s' ∧
        s'.get (uStage st) stg_GREFCNT_COUNT = (s.get (uStage st) stg_GREFCNT_COUNT + 1) % 2 ^ stg_GREFCNT_COUNT.w ∧
        (⟨leg, p, some (p + s.dead32 st + 32 * s.trefresh st)⟩ : LegOver) ∈ (s'.stg st).overs ∧
        (∀ a, s'.byte a = s.byte a)) ∧
  (∀ (t : Nat) (st : Nat) (leg : Nat) (s : State),
      hasReady st leg = true →
      st < 9 →
      (s.get (uStage st) stg_GRDY_EN).testBit leg = true →
      s.acts st = true →
      s.gstate st = 0 →
      (s.at t).commanded st (2 * leg) = true →
      s.readyHold st leg = none →
      ∃ s', exec (.driverReadyFall t st leg) s = .next s' ∧
        s'.get (uStage st) stg_GWITHCNT_COUNT = (s.get (uStage st) stg_GWITHCNT_COUNT + 1) % 2 ^ stg_GWITHCNT_COUNT.w ∧
        s'.get (uLeg st leg) leg_LWITH_COUNT = (s.get (uLeg st leg) leg_LWITH_COUNT + 1) % 2 ^ leg_LWITH_COUNT.w ∧
        s'.evBit (uStage st) 5 = true ∧
        (st * 8 + leg) ∈ s'.notReady) ∧
  (∀ (t : Nat) (st : Nat) (leg : Nat) (h : ReadyHold) (s : State),
      st < 9 →
      s.readyHold st leg = some h →
      h.extended = true →
      ∃ s', exec (.driverReadyRise t st leg) s = .next s' ∧
        s'.readyHold st leg = some ⟨leg, h.start, (s.at t).tick + s.trefresh st, false⟩ ∧
        (st * 8 + leg) ∉ s'.notReady ∧
        s'.regs = s.regs) ∧
  (∀ (t : Nat) (st : Nat) (leg : Nat) (h : ReadyHold) (s : State),
      st < 9 →
      s.readyHold st leg = some h →
      h.extended = false →
      (s.at t).due h.until_ = true →
      (st * 8 + leg) ∉ s.notReady →
      ∃ s', exec (.readyHoldEnd t st leg) s = .next s' ∧
        s'.readyHold st leg = none ∧
        s'.get (uStage st) stg_GWITHCNT_COUNT = s.get (uStage st) stg_GWITHCNT_COUNT) ∧
  (∀ (t : Nat) (st : Nat) (leg : Nat) (h : ReadyHold) (s : State),
      st < 9 →
      s.readyHold st leg = some h →
      h.extended = false →
      (s.at t).due h.until_ = true →
      (st * 8 + leg) ∈ s.notReady →
      ∃ s', exec (.readyHoldEnd t st leg) s = .next s' ∧
        s'.readyHold st leg = some ⟨leg, h.start, h.until_, true⟩ ∧
        s'.regs = s.regs)

/-- The brake chopper's command, and active discharge with its pulses and the link supervision. R288:
CHOPPER_COMPARATOR_CROSSING and CHOPPER_MIN_TIME_END. R285 to R299: DISCHARGE_OPEN_WAIT_END, DISCHARGE_PULSE,
DISCHARGE_PULSE_END, LINK_SUPERVISION_INSTANT. -/
def Obligations.ChopperAndDischarge : Prop :=
  (∀ (t : Nat) (s : State),
      s.chopActs = true →
      s.cmpOn (s.get uBrk brk_LCHOP_CMP) = true →
      s.get uBrk brk_LSTAT_CHOP = 0 →
      s.link.offAt = none →
      ∃ s', exec (.chopperComparatorCrossing t 1) s = .next s' ∧
        s'.get uBrk brk_LSTAT_CHOP = 1 ∧
        s'.get uBrk brk_LCHOPCNT_COUNT = (s.get uBrk brk_LCHOPCNT_COUNT + 1) % 2 ^ brk_LCHOPCNT_COUNT.w ∧
        s'.evBit uBrk 16 = true ∧
        s'.link.onAt = (s.at t).tick + 1 ∧
        s'.link.level = 1) ∧
  (∀ (t : Nat) (t0 : Nat) (s : State),
      s.chopActs = true →
      s.cmpOn (s.get uBrk brk_LCHOP_CMP) = true →
      s.get uBrk brk_LSTAT_CHOP = 1 →
      s.link.onAt = t0 →
      t0 + s.get uBrk brk_LCHOPT_MINON ≤ (s.at t).tick + 1 →
      ∃ s', exec (.chopperComparatorCrossing t 2) s = .next s' ∧
        s'.get uBrk brk_LSTAT_CHOP = 0 ∧
        s'.link.offAt = some ((s.at t).tick + 1) ∧
        s'.link.level = 2) ∧
  (∀ (t : Nat) (t0 : Nat) (s : State),
      s.chopActs = true →
      s.chopLevel = 1 →
      s.get uBrk brk_LSTAT_CHOP = 0 →
      s.link.offAt = some t0 →
      t0 + s.get uBrk brk_LCHOPT_MINOFF ≤ (s.at t).tick →
      ∃ s', exec (.chopperMinTimeEnd t) s = .next s' ∧
        s'.get uBrk brk_LSTAT_CHOP = 1 ∧
        s'.get uBrk brk_LCHOPCNT_COUNT = (s.get uBrk brk_LCHOPCNT_COUNT + 1) % 2 ^ brk_LCHOPCNT_COUNT.w ∧
        s'.evBit uBrk 16 = true ∧
        s'.link.onAt = (s.at t).tick) ∧
  (∀ (t : Nat) (s : State),
      s.get uBrk brk_LSTAT_DISSTATE = 1 →
      s.linkOn = true →
      (s.at t).due (s.link.disAt + 400000 * s.get uBrk brk_LDIS2_TOPEN) = true →
      s.get uBrk brk_LDIS0_ROUTE = 1 →
      ∃ s', exec (.dischargeOpenWaitEnd t) s = .next s' ∧
        s'.get uBrk brk_LSTAT_DISSTATE = 3 ∧
        (∀ a, a ≠ uBrk.addr brk_LSTAT_DISSTATE.off → s'.getW a = s.getW a) ∧
        (∀ a, s'.byte a = s.byte a)) ∧
  (∀ (t : Nat) (s : State),
      s.get uBrk brk_LSTAT_DISSTATE = 1 →
      s.linkOn = true →
      (s.at t).due (s.link.disAt + 400000 * s.get uBrk brk_LDIS2_TOPEN) = true →
      s.get uBrk brk_LDIS0_ROUTE ≠ 1 →
      s.sel (uStage 2) 1 = 0 →
      ∃ s', exec (.dischargeOpenWaitEnd t) s = .next s' ∧
        s'.get uBrk brk_LSTAT_DISSTATE = 2) ∧
  (∀ (t : Nat) (d : Nat) (s : State),
      s.get uBrk brk_LSTAT_DISSTATE = 3 →
      s.linkOn = true →
      s.link.nextPulse = d →
      (s.at t).due d = true →
      s.pulseTicks ≠ 0 →
      ∃ s', exec (.dischargePulse t) s = .next s' ∧
        s'.link.pulseEnd = some (d + s.pulseTicks) ∧
        s'.link.nextPulse = d + s.pulsePer ∧
        s'.regs = s.regs ∧
        (∀ a, s'.byte a = s.byte a)) ∧
  (∀ (t : Nat) (e : Nat) (s : State),
      s.link.pulseEnd = some e →
      (s.at t).due e = true →
      ∃ s', exec (.dischargePulseEnd t) s = .next s' ∧
        s'.link.pulseEnd = none ∧
        s'.regs = s.regs ∧
        (∀ a, s'.byte a = s.byte a)) ∧
  (∀ (t : Nat) (e : Nat) (vdc : Int) (s : State),
      s.link.events.head? = some e →
      (s.at t).due (e + s.get uBrk brk_LCFG_OFS) = true →
      s.linkOn = true →
      uBrk.page ∉ s.failedCheck →
      s.badParity = [] →
      vdc = lo16 (s.sig (s.get uBrk brk_LSIG0_VDC)) →
      ∃ s', exec (.linkSupervisionInstant t) s = .next s' ∧
        s'.link.vdc = vdc ∧
        s'.link.pack = lo16 (s.sig (s.get uBrk brk_LSIG1_PACK)) ∧
        ((s.get uBrk brk_LOV2_OV2 : Int) ≤ vdc → s'.evBit uBrk 18 = true) ∧
        (∀ a, s'.byte a = s.byte a))

/-- Precharge: its command, its steps, its end by abort, by timeout or by OPEN. R293 to R296: PRECHARGE_GO, PRECHARGE_ABORT,
CONTACTOR_OPEN, PRECHARGE_CLOSE_TIMER, PRECHARGE_TIMEOUT. -/
def Obligations.Precharge : Prop :=
  (∀ (t : Nat) (s : State),
      s.serves uBrk 0xC0 →
      s.inMode .run = true →
      s.get uBrk brk_LPRECMD_GO = 0 →
      s.linkOn = true →
      s.get uBrk brk_LCONT_NEGEN = 1 →
      s.get uBrk brk_LCONT_POSEN = 1 →
      (s.get uBrk brk_LPRE1_PACKMIN : Int) ≤ s.link.pack →
      (s.link.vdc - s.link.pack) * 1024 ≤ s.link.pack * s.get uBrk brk_LPRE0_WIN →
      s.enabled uReg = true →
      s.get uSess sess_SSTAT_ILK = 0 →
      ∃ s', exec (.prechargeGo t) s = .next s' ∧
        s'.get uBrk brk_LPRECMD_GO = 1 ∧
        s'.get uBrk brk_LSTAT_PRESTATE = 1 ∧
        s'.get uBrk brk_LSTAT_NEG = 1 ∧
        s'.link.preAt = (s.at t).tick ∧
        s'.mem = s.mem) ∧
  (∀ (t : Nat) (ps : Nat) (s : State),
      s.serves uBrk 0xC0 →
      s.get uBrk brk_LPRECMD_GO = 1 →
      s.get uBrk brk_LSTAT_PRESTATE = ps →
      1 ≤ ps →
      ps ≤ 3 →
      ∃ s', exec (.prechargeAbort t) s = .next s' ∧
        s'.get uBrk brk_LPRECMD_GO = 0 ∧
        s'.get uBrk brk_LSTAT_PRESTATE = 0 ∧
        s'.get uBrk brk_LPRERES_ABORTED = 1 ∧
        (s.get uBrk brk_LPRERES_CAUSE = 0 → s'.get uBrk brk_LPRERES_CAUSE = 8) ∧
        s'.evBit uBrk 19 = true) ∧
  (∀ (t : Nat) (s : State),
      s.serves uBrk 0xC8 →
      ∃ s', exec (.contactorOpen t) s = .next s' ∧
        s'.get uBrk brk_LSTAT_NEG = 0 ∧
        s'.get uBrk brk_LSTAT_POS = 0 ∧
        s'.get uBrk brk_LSTAT_PRESTATE = 0 ∧
        s'.mem = s.mem) ∧
  (∀ (t : Nat) (s : State),
      s.get uBrk brk_LSTAT_PRESTATE = 1 →
      ((s.at t).due (s.link.stateAt + 400000 * (if s.get uBrk brk_LCONT_TCLOSE = 0 then 1 else s.get uBrk brk_LCONT_TCLOSE)) = true) →
      s.sel (uStage 2) 1 = 0 →
      ∃ s', exec (.prechargeCloseTimer t) s = .next s' ∧
        s'.get uBrk brk_LSTAT_PRESTATE = 2 ∧
        s'.link.stateAt = (s.at t).tick) ∧
  (∀ (t : Nat) (s : State),
      s.get uBrk brk_LSTAT_PRESTATE = 3 →
      ((s.at t).due (s.link.stateAt + 400000 * (if s.get uBrk brk_LCONT_TCLOSE = 0 then 1 else s.get uBrk brk_LCONT_TCLOSE)) = true) →
      s.sel (uStage 2) 1 = 0 →
      ∃ s', exec (.prechargeCloseTimer t) s = .next s' ∧
        s'.get uBrk brk_LSTAT_PRESTATE = 4 ∧
        s'.get uBrk brk_LPRECMD_GO = 0 ∧
        s'.get uBrk brk_LPRERES_DONE = 1 ∧
        s'.evBit uBrk 19 = true) ∧
  (∀ (t : Nat) (ps : Nat) (s : State),
      s.get uBrk brk_LSTAT_PRESTATE = ps →
      1 ≤ ps →
      ps ≤ 2 →
      (∀ e ∈ s.link.events.take 1, (s.at t).due (e + s.get uBrk brk_LCFG_OFS) = false) →
      ((s.at t).due (s.link.preAt + 400000 * (if s.get uBrk brk_LPRE2_TMAX = 0 then 1 else s.get uBrk brk_LPRE2_TMAX)) = true) →
      ∃ s', exec (.prechargeTimeout t) s = .next s' ∧
        s'.get uBrk brk_LSTAT_PRESTATE = 0 ∧
        s'.get uBrk brk_LPRERES_ABORTED = 1 ∧
        (s.get uBrk brk_LPRERES_CAUSE = 0 → s'.get uBrk brk_LPRERES_CAUSE = 6) ∧
        s'.get uBrk hdr_USTAT_OWNF = 1 ∧
        s'.evBit uBrk 19 = true)

/-- The converter's phase pulses, the shedding of phases, and its start, stop, supervision and retries. R309, R310:
PHASE_VALLEY_CROSSING, PHASE_PEAK_CROSSING, PHASE_MIN_ON_END, PHASE_MIN_OFF_END, INTERLEAVE_WINDOW_OPEN,
PHASE_ZERO_CURRENT. R319, R321: SHED_DWELL_EXPIRY and OVT_CROSSING. R313 to R323: REG_START, REG_STOP, REG_START_ABORT,
VSUP_SUPERVISION_INSTANT, REG_RETRY_WAIT_END, STOP_RUNDOWN_END, REG_DIS_TIMEOUT. -/
def Obligations.Regulator : Prop :=
  (∀ (t : Nat) (n : Nat) (s : State),
      n < 4 →
      s.phState n = 1 →
      s.get (uPhase n) ph_PHSTAT_ONP = 0 →
      n ∉ s.conv.join →
      s.conv.ovt = none →
      s.rank n = 0 →
      s.afterMinOff n 0 ≤ (s.at t).tick + 1 →
      s.sel (uStage 2) 1 = 0 →
      ∃ s', exec (.phaseValleyCrossing t n) s = .next s' ∧
        s'.get (uPhase n) ph_PHSTAT_ONP = 1 ∧
        s'.get (uPhase n) ph_PHSTAT_WAITW = 0 ∧
        s'.get (uPhase n) ph_PHPULSE_COUNT = (s.get (uPhase n) ph_PHPULSE_COUNT + 1) % 2 ^ ph_PHPULSE_COUNT.w ∧
        (s'.phase n).on = some ((s.at t).tick + 1)) ∧
  (∀ (t : Nat) (n : Nat) (s : State),
      n < 4 →
      s.phState n = 1 →
      s.get (uPhase n) ph_PHSTAT_ONP = 0 →
      n ∉ s.conv.join →
      s.conv.ovt = none →
      s.rank n = 0 →
      s.afterMinOff n 0 ≤ (s.at t).tick + 1 →
      s.sel (uStage 2) 1 = 0 →
      (s.phase n).wait ≠ none →
      s.get (uPhase n) ph_PHSTAT_WAITW = 0 →
      ∃ s', exec (.phaseMinOffEnd t n) s = .next s' ∧
        s'.get (uPhase n) ph_PHSTAT_ONP = 1 ∧
        s'.get (uPhase n) ph_PHSTAT_WAITW = 0 ∧
        s'.get (uPhase n) ph_PHPULSE_COUNT = (s.get (uPhase n) ph_PHPULSE_COUNT + 1) % 2 ^ ph_PHPULSE_COUNT.w ∧
        (s'.phase n).wait = none) ∧
  (∀ (t : Nat) (n : Nat) (t0 : Nat) (s : State),
      n < 4 →
      s.get (uPhase n) ph_PHSTAT_ONP = 1 →
      (s.phase n).on = some t0 →
      t0 + s.get uReg reg_RPULSE_MINON ≤ (s.at t).tick + 1 →
      ∃ s', exec (.phasePeakCrossing t n) s = .next s' ∧
        s'.get (uPhase n) ph_PHSTAT_ONP = 0 ∧
        (s'.phase n).off = some ((s.at t).tick + 1) ∧
        s'.mem = s.mem) ∧
  (∀ (t : Nat) (n : Nat) (t0 : Nat) (s : State),
      n < 4 →
      s.get (uPhase n) ph_PHSTAT_ONP = 1 →
      (s.phase n).on = some t0 →
      (s.at t).tick + 1 < t0 + s.get uReg reg_RPULSE_MINON →
      ∃ s', exec (.phasePeakCrossing t n) s = .next s' ∧
        s'.get (uPhase n) ph_PHSTAT_ONP = 1 ∧
        (s'.phase n).peak = true ∧
        s'.regs = s.regs) ∧
  (∀ (t : Nat) (n : Nat) (t0 : Nat) (s : State),
      n < 4 →
      s.get (uPhase n) ph_PHSTAT_ONP = 1 →
      (s.phase n).peak = true →
      (s.phase n).on = some t0 →
      (s.at t).due (t0 + s.get uReg reg_RPULSE_MINON) = true →
      ∃ s', exec (.phaseMinOnEnd t n) s = .next s' ∧
        s'.get (uPhase n) ph_PHSTAT_ONP = 0 ∧
        (s'.phase n).off = some (s.at t).tick ∧
        (s'.phase n).peak = false) ∧
  (∀ (t : Nat) (n : Nat) (s : State),
      n < 4 →
      n ∉ s.conv.join →
      s.get (uPhase n) ph_PHSTAT_WAITW = 1 →
      s.conv.ovt = none →
      (s.window n).1 ≤ ((s.at t).tick : Int) →
      s.sel (uStage 2) 1 = 0 →
      ∃ s', exec (.interleaveWindowOpen t n) s = .next s' ∧
        s'.get (uPhase n) ph_PHSTAT_ONP = 1 ∧
        s'.get (uPhase n) ph_PHSTAT_WAITW = 0 ∧
        s'.get (uPhase n) ph_PHPULSE_COUNT = (s.get (uPhase n) ph_PHPULSE_COUNT + 1) % 2 ^ ph_PHPULSE_COUNT.w) ∧
  (∀ (t : Nat) (n : Nat) (s : State),
      n < 4 →
      s.get (uPhase n) ph_PHSTAT_ONP = 0 →
      s.phState n = 2 →
      s.get uReg reg_RSTAT_STATE ≠ 3 →
      ∃ s', exec (.phaseZeroCurrent t n) s = .next s' ∧
        s'.phState n = 0 ∧
        s'.mem = s.mem) ∧
  (∀ (t : Nat) (d : Nat) (s : State),
      s.get uReg reg_RSTAT_STATE = 2 →
      s.conv.below = some d →
      (s.at t).due (d + s.get uReg reg_RDWELL_TICKS) = true →
      (∀ k ∈ List.range 4, s.phState k ≠ 2) →
      s.activePhases ≠ [] →
      ∃ s', exec (.shedDwellExpiry t) s = .next s' ∧
        s'.get uReg reg_RSHEDCNT_COUNT = (s.get uReg reg_RSHEDCNT_COUNT + 1) % 2 ^ reg_RSHEDCNT_COUNT.w ∧
        s'.evBit uReg 3 = true) ∧
  (∀ (t : Nat) (d : Nat) (s : State),
      s.get uReg reg_RSTAT_STATE = 2 →
      s.conv.below = none →
      s.conv.above = some d →
      (s.at t).due (d + s.get uReg reg_RDWELL_TICKS) = true →
      (((List.range s.nmax).find? fun k => s.phState k = 0) ≠ none) →
      s.sel (uStage 2) 1 = 0 →
      ∃ s', exec (.shedDwellExpiry t) s = .next s' ∧
        s'.get uReg reg_RADDCNT_COUNT = (s.get uReg reg_RADDCNT_COUNT + 1) % 2 ^ reg_RADDCNT_COUNT.w ∧
        s'.evBit uReg 4 = true) ∧
  (∀ (t : Nat) (s : State),
      s.get uReg reg_ROVT_EN = 1 →
      s.get uReg reg_RSTAT_DIR = 0 →
      (∃ k ∈ List.range 4, s.get (uPhase k) ph_PHSTAT_ONP = 1) →
      ∃ s', exec (.ovtCrossing t true) s = .next s' ∧
        s'.get uReg reg_ROVTCNT_COUNT = (s.get uReg reg_ROVTCNT_COUNT + 1) % 2 ^ reg_ROVTCNT_COUNT.w ∧
        s'.evBit uReg 5 = true ∧
        (∀ k ∈ List.range 4, s'.get (uPhase k) ph_PHSTAT_ONP = 0)) ∧
  (∀ (t : Nat) (d : Nat) (s : State),
      s.conv.ovt = some d →
      s.sel (uStage 2) 1 = 0 →
      ∃ s', exec (.ovtCrossing t false) s = .next s' ∧
        s'.conv.ovt = none ∧
        s'.mem = s.mem) ∧
  (∀ (t : Nat) (dir : Nat) (s : State),
      s.serves uReg 0xC0 →
      dir < 2 →
      s.inMode .run = true →
      s.enabled uReg = true →
      uReg.page ∉ s.failedCheck →
      s.get uReg reg_RSTAT_STATE = 0 →
      s.get uReg reg_RCTL_START = 0 →
      s.get uBrk brk_LSTAT_PRESTATE = 0 →
      s.sel (uStage 2) 1 = 0 →
      ∃ s', exec (.regStart t dir) s = .next s' ∧
        s'.get uReg reg_RSTAT_HOSTREQ = 1 ∧
        s'.get uReg reg_RCTL_START = 1 ∧
        s'.get uReg reg_RSTAT_GOV = 1 ∧
        s'.get uReg reg_RSTAT_STATE = 1 ∧
        s'.get uReg reg_RSTAT_DIR = dir ∧
        s'.conv.softAt = (s.at t).tick) ∧
  (∀ (t : Nat) (s : State),
      s.serves uReg 0xC0 →
      ∃ s', exec (.regStop t) s = .next s' ∧
        s'.get uReg reg_RSTAT_HOSTREQ = 0 ∧
        s'.get uReg reg_RCTL_START = 0 ∧
        (s.get uReg reg_RCTL_START = 1 → s'.get uReg reg_RRES_ABORTED = 1)) ∧
  (∀ (t : Nat) (s : State),
      s.serves uReg 0xC0 →
      s.get uReg reg_RCTL_START = 1 →
      ∃ s', exec (.regStartAbort t) s = .next s' ∧
        s'.get uReg reg_RSTAT_HOSTREQ = 0 ∧
        s'.get uReg reg_RCTL_START = 0 ∧
        s'.get uReg reg_RRES_ABORTED = 1 ∧
        (s.get uReg reg_RRES_CAUSE = 0 → s'.get uReg reg_RRES_CAUSE = 4)) ∧
  (∀ (t : Nat) (e : Nat) (s : State),
      s.conv.events.head? = some e →
      (s.at t).due (e + s.get uVsup vsup_VCFG_OFS) = true →
      s.enabled uVsup = true →
      s.badParity = [] →
      s.get uReg reg_RSTAT_STATE = 1 →
      s.get uReg reg_RSTAT_DIR = 0 →
      (s.get uReg reg_RTGT_VT : Int) * 15 ≤ s.sigI (s.get uVsup vsup_VSIG_VOUT) * 16 →
      s.sel (uStage 2) 1 = 0 →
      ∃ s', exec (.vsupSupervisionInstant t) s = .next s' ∧
        s'.get uReg reg_RSTAT_STATE = 2 ∧
        s'.evBit uReg 10 = true ∧
        (s.get uReg reg_RCTL_START = 1 → s.get uReg reg_RSTAT_GOV = 1 → s'.get uReg reg_RRES_DONE = 1 ∧ s'.get uReg reg_RCTL_START
            = 0)) ∧
  (∀ (t : Nat) (e : Nat) (s : State),
      s.conv.events.head? = some e →
      (s.at t).due (e + s.get uVsup vsup_VCFG_OFS) = true →
      s.enabled uVsup = true →
      s.badParity = [] →
      s.get uReg reg_RSTAT_STATE ≠ 1 →
      s.get uReg reg_RSTAT_DIR = 0 →
      s.get uVsup vsup_VSTAT_DIS = 0 →
      ∃ s', exec (.vsupSupervisionInstant t) s = .next s' ∧
        s'.geti uVsup vsup_VSTAT_VOUT = signed vsup_VSTAT_VOUT.w (unsigned vsup_VSTAT_VOUT.w (s.sigI (s.get uVsup vsup_VSIG_VOUT))) ∧
        s'.get uReg reg_RSTAT_STATE = s.get uReg reg_RSTAT_STATE) ∧
  (∀ (t : Nat) (s : State),
      s.get uReg reg_RSTAT_STATE = 4 →
      (s.at t).due s.conv.waitEnd = true →
      s.regRequest = 0 →
      ∃ s', exec (.regRetryWaitEnd t) s = .next s' ∧
        s'.get uReg reg_RSTAT_STATE = 0 ∧
        s'.get uReg reg_RSTAT_GOV = 0) ∧
  (∀ (t : Nat) (s : State),
      s.get uReg reg_RSTAT_STATE = 4 →
      (s.at t).due s.conv.waitEnd = true →
      s.regRequest ≠ 0 →
      s.sel (uStage 2) 1 = 0 →
      ∃ s', exec (.regRetryWaitEnd t) s = .next s' ∧
        s'.get uReg reg_RSTAT_STATE = 1 ∧
        s'.get uReg reg_RSTAT_GOV = s.regRequest) ∧
  (∀ (t : Nat) (s : State),
      s.get uReg reg_RSTAT_STATE = 3 →
      (s.at t).due (s.conv.stopAt + s.get uReg reg_RDOWN_TICKS) = true →
      (s.conv.stopTo = 1 ∨ s.conv.stopTo = 2 ∨ (s.conv.stopTo = 0 ∧ s.get uReg reg_RSTAT_GOV = 0)) →
      ∃ s', exec (.stopRundownEnd t) s = .next s' ∧
        (s'.get uReg reg_RSTAT_STATE = (if s.conv.stopTo = 1 then 4 else if s.conv.stopTo = 2 then 5 else 0)) ∧
        (∀ k ∈ List.range 4, s'.phState k = 0)) ∧
  (∀ (t : Nat) (s : State),
      s.get uVsup vsup_VSTAT_DIS = 1 →
      ((s.at t).due (s.regDisAt + 400000 * (if s.get uVsup vsup_VDIS_TMAX = 0 then 1 else s.get uVsup vsup_VDIS_TMAX)) = true) →
      ∃ s', exec (.regDisTimeout t) s = .next s' ∧
        s'.get uVsup vsup_VSTAT_DIS = 0 ∧
        s'.get uVsup vsup_VDISDUR_TICKS = ((s.at t).tick - s.regDisAt) % 2 ^ vsup_VDISDUR_TICKS.w ∧
        s'.evBit uReg 9 = true ∧
        s'.get uReg hdr_USTAT_OWNF = 1)

/-- The on-board charger's load points, the control pilot and proximity. R331 to R334: OBA_LOAD_POINT and OBD_LOAD_POINT. R335
to R342: PILOT_EDGE, PILOT_LEVEL_SAMPLE, PILOT_STEADY_EVALUATION, PROXIMITY_MEASUREMENT, OEXP_ARM_WRITE. -/
def Obligations.Charger : Prop :=
  (∀ (t : Nat) (d : Nat) (va : Int) (vb : Int) (vdc : Int) (s : State),
      s.obRuns 3 = true →
      (s.at t).carrierDue 3 true = some d →
      (∀ q ∈ s.pods.map Prod.fst, (s.at t).applyDue q = false) →
      s.get (uStage 3) ob_OCFG_GRID = 0 →
      s.badParity = [] →
      s.ref 3 0 = va →
      s.ref 3 1 = vb →
      lo16 (s.sig (s.get (uStage 3) ob_OVDC_SIG)) = vdc →
      0 < vdc →
      (s.get (uStage 3) ob_OVDC_MIN : Int) ≤ vdc →
      ∃ s', exec (.obaLoadPoint t true) s = .next s' ∧
        s'.get (uStage 3) ob_OSTAT_VALUE = modIndex (va * va + vb * vb).toNat vdc.toNat ∧
        (s'.get (uStage 3) ob_OSTAT_VLIM = if overLinear (va * va + vb * vb).toNat vdc.toNat = true then 1 else 0) ∧
        (s'.tr 3).vdcLow = false) ∧
  (∀ (t : Nat) (d : Nat) (s : State),
      s.obRuns 3 = true →
      (s.at t).carrierDue 3 false = some d →
      ∃ s', exec (.obaLoadPoint t false) s = .next s' ∧
        (s'.tr 3).period = s.get (uStage 3) ob_OCAR_PERIOD ∧
        (s'.tr 3).valley = d ∧
        (s'.tr 3).next = some (d + s.get (uStage 3) ob_OCAR_PERIOD / 2) ∧
        (s'.tr 3).nextPeak = true) ∧
  (∀ (t : Nat) (d : Nat) (tg : Int) (s : State),
      s.obRuns 4 = true →
      (s.at t).carrierDue 4 true = some d →
      (∀ q ∈ s.pods.map Prod.fst, (s.at t).applyDue q = false) →
      clampI (-(min (s.get (uStage 4) ob_ODAB_PHIMAX : Int) 0x6000)) (min (s.get (uStage 4) ob_ODAB_PHIMAX : Int) 0x6000) (s.ref 4 0)
          = tg →
      (0 ≤ tg ∨ s.get uSess sess_SSTAT_EXPOK = 1) →
      ∃ s', exec (.obdLoadPoint t true) s = .next s' ∧
        s'.geti (uStage 4) ob_OSTAT_VALUE = signed ob_OSTAT_VALUE.w (unsigned ob_OSTAT_VALUE.w (s.geti (uStage 4) ob_OSTAT_VALUE
            + clampI (-(atLeast1 (s.get (uStage 4) ob_ODAB_DSTEP) : Int)) (atLeast1 (s.get (uStage 4) ob_ODAB_DSTEP) : Int) (tg - s.geti (uStage 4) ob_OSTAT_VALUE))) ∧
        s'.get (uStage 4) ob_OSTAT_CLAMPED = 0) ∧
  (∀ (t : Nat) (d : Nat) (s : State),
      s.obRuns 4 = true →
      (s.at t).carrierDue 4 true = some d →
      (∀ q ∈ s.pods.map Prod.fst, (s.at t).applyDue q = false) →
      clampI (-(min (s.get (uStage 4) ob_ODAB_PHIMAX : Int) 0x6000)) (min (s.get (uStage 4) ob_ODAB_PHIMAX : Int) 0x6000) (s.ref 4 0) < 0 →
      s.get uSess sess_SSTAT_EXPOK = 0 →
      ∃ s', exec (.obdLoadPoint t true) s = .next s' ∧
        s'.geti (uStage 4) ob_OSTAT_VALUE = signed ob_OSTAT_VALUE.w (unsigned ob_OSTAT_VALUE.w (s.geti (uStage 4) ob_OSTAT_VALUE
            + clampI (-(atLeast1 (s.get (uStage 4) ob_ODAB_DSTEP) : Int)) (atLeast1 (s.get (uStage 4) ob_ODAB_DSTEP) : Int) (0 - s.geti (uStage 4) ob_OSTAT_VALUE))) ∧
        s'.get (uStage 4) ob_OSTAT_CLAMPED = 1) ∧
  (∀ (t : Nat) (r : Nat) (s : State),
      s.ppxRuns = true →
      s.pilot.rise = some r →
      r < (s.at t).tick →
      (s.at t).tick < r + 2 ^ 20 →
      ∃ s', exec (.pilotEdge t true) s = .next s' ∧
        s'.get uPpx ppx_PPER_TICKS = (s.at t).tick - r ∧
        s'.get uPpx ppx_PSTAT_OSC = 1 ∧
        (s'.get uPpx ppx_PSTAT_FREQOK = if 392000 ≤ (s.at t).tick - r ∧ (s.at t).tick - r ≤ 408000 then 1 else 0) ∧
        s'.pilot.rise = some (s.at t).tick) ∧
  (∀ (t : Nat) (r : Nat) (s : State),
      s.ppxRuns = true →
      s.pilot.rise = some r →
      ∃ s', exec (.pilotEdge t false) s = .next s' ∧
        s'.pilot.high = (s.at t).tick - r ∧
        s'.pilot.edge = (s.at t).tick ∧
        s'.regs = s.regs ∧
        (∀ a, s'.byte a = s.byte a)) ∧
  (∀ (t : Nat) (mv : Int) (s : State),
      s.ppxRuns = true →
      ∃ s', exec (.pilotLevelSample t true mv) s = .next s' ∧
        s'.geti uPpx ppx_PLVL_HI = satQ15 mv ∧
        (∀ a, s'.byte a = s.byte a) ∧
        s.keeps s' [uPpx.addr ppx_PLVL_HI.off]) ∧
  (∀ (t : Nat) (mv : Int) (s : State),
      s.ppxRuns = true →
      ∃ s', exec (.pilotLevelSample t false mv) s = .next s' ∧
        s'.geti uPpx ppx_PLVL_LO = satQ15 mv ∧
        (∀ a, s'.byte a = s.byte a) ∧
        s.keeps s' [uPpx.addr ppx_PLVL_LO.off]) ∧
  (∀ (t : Nat) (mv : Int) (s : State),
      s.ppxRuns = true →
      s.pilot.steady = none →
      s.pilot.edge + 800000 ≤ (s.at t).tick →
      ∃ s', exec (.pilotSteadyEvaluation t mv) s = .next s' ∧
        s'.geti uPpx ppx_PLVL_HI = satQ15 mv ∧
        (s'.get uPpx ppx_PDUTY_DUTY = if 0 < mv then 1000 else 0) ∧
        s'.get uPpx ppx_PDUTY_ICP = 0 ∧
        s'.get uPpx ppx_PSTAT_OSC = 0 ∧
        s'.get uPpx ppx_PSTAT_FREQOK = 0 ∧
        s'.pilot.steady = some (s.pilot.edge + 800000)) ∧
  (∀ (t : Nat) (ohms : Nat) (s : State),
      s.ppxRuns = true →
      (s.at t).due s.pilot.ppNext = true →
      s.pilot.pp = (proximity ohms).1 →
      s.get uPpx ppx_PPCFG_PPDEB ≤ s.pilot.ppCount + 1 →
      (proximity ohms).1 ≠ s.get uPpx ppx_PSTAT_PP →
      ∃ s', exec (.proximityMeasurement t ohms) s = .next s' ∧
        s'.get uPpx ppx_PRES_OHMS = min ohms 0xFFFF ∧
        s'.get uPpx ppx_PSTAT_PP = (proximity ohms).1 ∧
        s'.get uPpx ppx_PRES_IPP = (proximity ohms).2 ∧
        s'.evBit uPpx 2 = true) ∧
  (∀ (t : Nat) (arm : Bool) (s : State),
      s.serves uSess 0x4C →
      ∃ s', exec (.oexpArmWrite t arm) s = .next s' ∧
        (s'.get uSess sess_OEXP_ARM = if arm then 1 else 0) ∧
        s'.mem = s.mem)

/-- An actuator channel starts, aligns, ramps, runs, catches and brakes. R355 to R361, R367: AC_START, AC_START_ABORT,
AC_STOP, ALIGN_END, RAMP_COMMUTATION, AC_LOAD_POINT. R354 to R367: ZERO_CROSS_ARM, ZERO_CROSSING, COMMUTATION,
CROSSING_DEADLINE, CATCH_END, BRAKE_END, HALL_EDGE. -/
def Obligations.Actuators : Prop :=
  (∀ (t : Nat) (n : Nat) (dir : Bool) (y : Int) (s : State),
      s.serves (uCm n) 0x80 →
      n < 3 →
      s.inMode .run = true →
      s.enabled (uCm n) = true →
      (uCm n).page ∉ s.failedCheck →
      s.glatch (5 + n) = false →
      s.cmState n = 0 →
      s.get (uCm n) cm_ACFG_HALL = 0 →
      s.curve1 s.activeBank (s.get (uCm n) cm_ARAMP0_TABLE) 0 = some y →
      s.flips = [] →
      ∃ s', exec (.acStart t n dir) s = .next s' ∧
        s'.get (uCm n) cm_ACTL_START = 1 ∧
        s'.cmState n = 1 ∧
        s'.cmSector n = 0 ∧
        (s'.get (uCm n) cm_ASTAT_DIR = if dir then 1 else 0) ∧
        (s'.kn n).stateAt = (s.at t).tick) ∧
  (∀ (t : Nat) (n : Nat) (c : Nat) (s : State),
      s.serves (uCm n) 0x80 →
      n < 3 →
      s.inMode .run = true →
      s.enabled (uCm n) = true →
      (uCm n).page ∉ s.failedCheck →
      s.glatch (5 + n) = false →
      s.cmState n = 0 →
      s.get (uCm n) cm_ACFG_HALL = 1 →
      c = (s.sig (s.get (uCm n) cm_AHALL_SIG)).toNat % 8 →
      s.get (uCm n) cm_AHMAP_MAP / 8 ^ c % 8 < 6 →
      s.badParity = [] →
      ∃ s', exec (.acStart t n false) s = .next s' ∧
        s'.get (uCm n) cm_ACTL_START = 0 ∧
        s'.get (uCm n) cm_ARES_DONE = 1 ∧
        s'.cmState n = 3 ∧
        s'.cmSector n = s.get (uCm n) cm_AHMAP_MAP / 8 ^ c % 8 ∧
        s'.get (uCm n) cm_ASTARTCNT_COUNT = (s.get (uCm n) cm_ASTARTCNT_COUNT + 1) % 2 ^ cm_ASTARTCNT_COUNT.w ∧
        s'.evBit (uCm n) 0 = true) ∧
  (∀ (t : Nat) (n : Nat) (c : Nat) (s : State),
      s.serves (uCm n) 0x80 →
      n < 3 →
      s.cmState n = c →
      1 ≤ c →
      c ≤ 3 →
      s.get (uCm n) cm_ACTL_START = 1 →
      ∃ s', exec (.acStop t n) s = .next s' ∧
        s'.get (uCm n) cm_ACTL_START = 0 ∧
        s'.get (uCm n) cm_ARES_ABORTED = 1 ∧
        (s.get (uCm n) cm_ARES_CAUSE = 0 → s'.get (uCm n) cm_ARES_CAUSE = 5) ∧
        (s'.kn n).stopping = true ∧
        s'.cmState n = c ∧
        s'.mem = s.mem ∧
        s.keepsRegs s' [(uCm n).addr cm_ACTL_START.off, (uCm n).addr cm_ARES_ABORTED.off, (uCm n).addr cm_ARES_CAUSE.off, (uCm n).addr cm_ASTAT_STATE.off]) ∧
  (∀ (t : Nat) (n : Nat) (c : Nat) (s : State),
      s.serves (uCm n) 0x80 →
      n < 3 →
      s.cmState n = c →
      1 ≤ c →
      c ≤ 3 →
      s.get (uCm n) cm_ACTL_START = 1 →
      ∃ s', exec (.acStartAbort t n) s = .next s' ∧
        s'.get (uCm n) cm_ACTL_START = 0 ∧
        s'.get (uCm n) cm_ARES_ABORTED = 1 ∧
        (s.get (uCm n) cm_ARES_CAUSE = 0 → s'.get (uCm n) cm_ARES_CAUSE = 5) ∧
        (s'.kn n).stopping = true ∧
        s'.cmState n = c ∧
        s'.mem = s.mem ∧
        s.keepsRegs s' [(uCm n).addr cm_ACTL_START.off, (uCm n).addr cm_ARES_ABORTED.off, (uCm n).addr cm_ARES_CAUSE.off, (uCm n).addr cm_ASTAT_STATE.off]) ∧
  (∀ (t : Nat) (n : Nat) (t60 : Nat) (s : State),
      n < 3 →
      s.cmState n = 1 →
      (s.kn n).next = none →
      (s.at t).due ((s.kn n).stateAt + ms (atLeast1 (s.get (uCm n) cm_AALIGN_MS))) = true →
      s.get (uCm n) cm_ARAMP2_NMAX ≠ 0 →
      s.rampT60 n 0 = some t60 →
      s.cmSector n < 6 →
      ∃ s', exec (.alignEnd t n) s = .next s' ∧
        s'.cmState n = 2 ∧
        s'.cmSector n = nextSector (s.cmSector n) (s.cmDir n) ∧
        (s'.kn n).t60j = t60 ∧
        (s'.kn n).rampAt = (s.at t).tick ∧
        (s'.kn n).j = 0) ∧
  (∀ (t : Nat) (n : Nat) (t60 : Nat) (s : State),
      n < 3 →
      s.cmState n = 2 →
      (s.kn n).j = 2 →
      (s.kn n).next = none →
      (s.at t).due ((s.kn n).rampAt + (s.kn n).t60j) = true →
      3 < s.get (uCm n) cm_ARAMP2_NMAX →
      s.rampT60 n 3 = some t60 →
      s.cmSector n < 6 →
      ∃ s', exec (.rampCommutation t n) s = .next s' ∧
        s'.cmState n = 2 ∧
        s'.cmSector n = nextSector (s.cmSector n) (s.cmDir n) ∧
        (s'.kn n).t60j = t60 ∧
        (s'.kn n).j = 3) ∧
  (∀ (t : Nat) (n : Nat) (d : Nat) (s : State),
      n < 3 →
      s.acRuns n = true →
      (s.at t).carrierDue (5 + n) false = some d →
      ∃ s', exec (.acLoadPoint t n) s = .next s' ∧
        (s'.tr (5 + n)).period = s.get (uCm n) cm_ACAR_PERIOD ∧
        (s'.tr (5 + n)).valley = d ∧
        (s'.tr (5 + n)).next = some (d + s.get (uCm n) cm_ACAR_PERIOD) ∧
        ((s.kn n).stopping = true → (s'.kn n).stopping = false ∧ s'.cmState n = if s.on (uCm n) cm_ACFG_BRAKE then 5 else 0)) ∧
  (∀ (t : Nat) (n : Nat) (z : Nat) (s : State),
      n < 3 →
      (s.kn n).outZero = some z →
      (s.at t).due (z + s.get (uCm n) cm_AZB_ZBLANK) = true →
      ∃ s', exec (.zeroCrossArm t n) s = .next s' ∧
        (s'.kn n).armed = true ∧
        s'.regs = s.regs ∧
        (∀ a, s'.byte a = s.byte a)) ∧
  (∀ (t : Nat) (n : Nat) (k : Nat) (up : Bool) (t0 : Nat) (tz : Nat) (s : State),
      n < 3 →
      k < 3 →
      s.cmState n = 3 →
      s.get (uCm n) cm_ACFG_HALL = 0 →
      (s.kn n).armed = true →
      (s.kn n).next = none →
      (s.kn n).hard = false →
      (sectorPhases (s.cmSector n)).2.2 = k →
      crossRising (s.cmSector n) (s.cmDir n) = up →
      (s.kn n).cross = some t0 →
      t0 < tz →
      tz ≤ (s.at t).tick →
      tz - t0 < 2 ^ cm_AT60_TICKS.w →
      ∃ s', exec (.zeroCrossing t n k up tz) s = .next s' ∧
        s'.get (uCm n) cm_AT60_TICKS = tz - t0 ∧
        s'.get (uCm n) cm_ASTAT_MISS = 0 ∧
        (s'.kn n).cross = some tz ∧
        (s'.kn n).next = some ⟨tz + (roundDiv ((tz - t0 : Nat) : Int) 2).toNat, s.softWindow n (tz - t0), s.cmSector n, nextSector (s.cmSector n) (s.cmDir n),
            false⟩ ∧
        s'.cmState n = 3) ∧
  (∀ (t : Nat) (n : Nat) (c : Commut) (s : State),
      n < 3 →
      s.cmState n = 3 →
      (s.kn n).next = some c →
      (s.at t).due c.at_ = true →
      c.goal < 6 →
      ∃ s', exec (.commutation t n) s = .next s' ∧
        s'.cmSector n = c.goal ∧
        (s'.kn n).prev = some c ∧
        (s'.kn n).next = none ∧
        (s'.kn n).armed = false ∧
        (s'.geti (uCm n) cm_ASTEPS_COUNT = signed cm_ASTEPS_COUNT.w (unsigned cm_ASTEPS_COUNT.w (s.geti (uCm n) cm_ASTEPS_COUNT
            + (if s.cmDir n then -1 else 1)))) ∧
        s'.mem = s.mem ∧
        s.keepsRegs s' [(uCm n).addr cm_ASTAT_SECTOR.off, (uCm n).addr cm_ASTEPS_COUNT.off]) ∧
  (∀ (t : Nat) (n : Nat) (tz : Nat) (s : State),
      n < 3 →
      s.cmState n = 3 →
      (s.kn n).timed = true →
      (s.kn n).cross = some tz →
      (s.at t).due (tz + 3 * s.get (uCm n) cm_AT60_TICKS / 2) = true →
      s.get (uCm n) cm_ASTAT_MISS = 0 →
      ∃ s', exec (.crossingDeadline t n) s = .next s' ∧
        s'.get (uCm n) cm_ASTAT_MISS = 1 ∧
        s'.cmState n = 3 ∧
        (s'.kn n).hard = true ∧
        (s'.kn n).cross = some (tz + s.get (uCm n) cm_AT60_TICKS) ∧
        s'.get (uCm n) cm_AMISSCNT_COUNT = (s.get (uCm n) cm_AMISSCNT_COUNT + 1) % 2 ^ cm_AMISSCNT_COUNT.w ∧
        s'.evBit (uCm n) 2 = true) ∧
  (∀ (t : Nat) (n : Nat) (tz : Nat) (s : State),
      n < 3 →
      s.cmState n = 3 →
      (s.kn n).timed = true →
      (s.kn n).cross = some tz →
      (s.at t).due (tz + 3 * s.get (uCm n) cm_AT60_TICKS / 2) = true →
      s.get (uCm n) cm_ASTAT_MISS = 1 →
      ∃ s', exec (.crossingDeadline t n) s = .next s' ∧
        s'.cmState n = 4 ∧
        s'.evBit (uCm n) 3 = true ∧
        (s'.kn n).lost = true ∧
        s'.get (uCm n) cm_AMISSCNT_COUNT = (s.get (uCm n) cm_AMISSCNT_COUNT + 1) % 2 ^ cm_AMISSCNT_COUNT.w) ∧
  (∀ (t : Nat) (n : Nat) (s : State),
      n < 3 →
      s.cmState n = 4 →
      (s.kn n).restart = false →
      (s.at t).due ((s.kn n).stateAt + ms (atLeast1 (s.get (uCm n) cm_ACATCH_MS))) = true →
      s.sel (uCm n) 1 = 0 →
      ∃ s', exec (.catchEnd t n) s = .next s' ∧
        s'.cmState n = 6 ∧
        s'.evBit (uCm n) 5 = true ∧
        s'.get (uCm n) hdr_USTAT_OWNF = 1) ∧
  (∀ (t : Nat) (n : Nat) (s : State),
      n < 3 →
      s.cmState n = 5 →
      (s.at t).due ((s.kn n).stateAt + ms (s.get (uCm n) cm_ABRK_MS)) = true →
      ∃ s', exec (.brakeEnd t n) s = .next s' ∧
        s'.cmState n = 0 ∧
        (s'.kn n).prev = none ∧
        s'.mem = s.mem) ∧
  (∀ (t : Nat) (n : Nat) (sec : Nat) (s : State),
      n < 3 →
      s.cmState n = 3 →
      s.get (uCm n) cm_ACFG_HALL = 1 →
      s.badParity = [] →
      s.hallSector n = some sec →
      (sec = (s.cmSector n + 1) % 6 ∨ sec = (s.cmSector n + 5) % 6) →
      ∃ s', exec (.hallEdge t n) s = .next s' ∧
        s'.cmSector n = sec ∧
        s'.cmState n = 3 ∧
        (s'.kn n).cross = some (s.at t).tick ∧
        s'.get (uCm n) cm_ASTAT_MISS = 0)

/-- Quadrature steps, index edges, Hall states and wire faults of a feedback channel. R375 to R385: QUAD_STEP, Z_EDGE, ZARM,
HALL_STATE_CHANGE, WIRE_FAULT, WIRE_FAULT_END, CHANNEL_ALIGN. -/
def Obligations.FeedbackCounting : Prop :=
  (∀ (t : Nat) (c : Nat) (a : Bool) (x : Bool) (stamp : Nat) (s : State),
      c < 6 →
      s.chOn c = true →
      s.counts c = true →
      (quadPlace a x + 4 - quadPlace ((s.ch c).levels.testBit 0) ((s.ch c).levels.testBit 1)) % 4 = 1 →
      ∃ s', exec (.quadStep t c a x stamp) s = .next s' ∧
        (s'.chRaw c = signed 32 (unsigned 32 (s.chRaw c + if s.on (uChan c) fb_CHCFG_QDIR then -1 else 1))) ∧
        s'.get (uDec c) dec_DSTEP_STAMP = (s.at t).stamp ∧
        s'.get (uDec c) dec_DILLCNT_COUNT = s.get (uDec c) dec_DILLCNT_COUNT) ∧
  (∀ (t : Nat) (c : Nat) (a : Bool) (x : Bool) (stamp : Nat) (s : State),
      c < 6 →
      s.chOn c = true →
      s.counts c = true →
      (quadPlace a x + 4 - quadPlace ((s.ch c).levels.testBit 0) ((s.ch c).levels.testBit 1)) % 4 = 2 →
      ∃ s', exec (.quadStep t c a x stamp) s = .next s' ∧
        s'.get (uDec c) dec_DILLCNT_COUNT = (s.get (uDec c) dec_DILLCNT_COUNT + 1) % 2 ^ dec_DILLCNT_COUNT.w ∧
        s'.evBit (uChan c) 1 = true ∧
        s'.chRaw c = s.chRaw c) ∧
  (∀ (t : Nat) (c : Nat) (stamp : Nat) (s : State),
      c < 6 →
      s.chOn c = true →
      s.chMode c = 1 →
      s.get (uChan c) fb_CHCFG_ZEN = 1 →
      s.get (uChan c) fb_CHCTL_ZARM = 1 →
      ∃ s', exec (.zEdge t c stamp) s = .next s' ∧
        s'.get (uChan c) fb_CHCTL_ZARM = 0 ∧
        s'.chRaw c = 0 ∧
        s'.chPos c = 0 ∧
        s'.get (uDec c) dec_DZLAT_COUNT = 0 ∧
        s'.evBit (uChan c) 2 = true) ∧
  (∀ (t : Nat) (c : Nat) (stamp : Nat) (s : State),
      c < 6 →
      s.chOn c = true →
      s.chMode c = 1 →
      s.get (uChan c) fb_CHCFG_ZEN = 1 →
      s.get (uChan c) fb_CHCTL_ZARM = 0 →
      ∃ s', exec (.zEdge t c stamp) s = .next s' ∧
        s'.get (uDec c) dec_DZLAT_COUNT = s.get (uDec c) dec_DRAW_COUNT ∧
        s'.chRaw c = s.chRaw c ∧
        s'.evBit (uChan c) 2 = true ∧
        (∀ a, s'.byte a = s.byte a) ∧
        s.keeps s' ([(uDec c).addr dec_DZLAT_COUNT.off, (uDec c).addr dec_DRAW_COUNT.off, (uChan c).addr 0x10] ++ routerWords)) ∧
  (∀ (t : Nat) (c : Nat) (s : State),
      c < 6 →
      s.serves (uChan c) 0xAC →
      ∃ s', exec (.zarm t c) s = .next s' ∧
        s'.get (uChan c) fb_CHCTL_ZARM = 1 ∧
        (∀ a, a ≠ (uChan c).addr fb_CHCTL_ZARM.off → s'.getW a = s.getW a) ∧
        (∀ a, s'.byte a = s.byte a)) ∧
  (∀ (t : Nat) (c : Nat) (code : Nat) (s : State),
      c < 6 →
      code < 8 →
      s.chOn c = true →
      s.chMode c = 2 →
      (s.ch c).levels ≠ code →
      ∃ s', exec (.hallStateChange t c code) s = .next s' ∧
        (s'.ch c).levels = code ∧
        s'.mem = s.mem ∧
        s.keepsRegs s' []) ∧
  (∀ (t : Nat) (c : Nat) (j : Nat) (s : State),
      c < 6 →
      j < 3 →
      s.chOn c = true →
      s.pairUsed c j = true →
      (s.get (uChan c) fb_CHSTAT_WIRE).testBit j = false →
      s.get (uChan c) fb_CHSTAT_WIRE < 8 →
      s.sel (uChan c) 0 = 0 →
      ∃ s', exec (.wireFault t c j) s = .next s' ∧
        s'.get (uChan c) fb_CHSTAT_WIRE = s.get (uChan c) fb_CHSTAT_WIRE + 2 ^ j ∧
        s'.get (uChan c) hdr_USTAT_OWNF = 1 ∧
        s'.evBit (uChan c) 0 = true) ∧
  (∀ (t : Nat) (c : Nat) (j : Nat) (s : State),
      c < 6 →
      j < 3 →
      (s.get (uChan c) fb_CHSTAT_WIRE).testBit j = true →
      ∃ s', exec (.wireFaultEnd t c j) s = .next s' ∧
        s'.get (uChan c) fb_CHSTAT_WIRE = s.get (uChan c) fb_CHSTAT_WIRE - 2 ^ j ∧
        (∀ a, a ≠ (uChan c).addr fb_CHSTAT_WIRE.off → s'.getW a = s.getW a) ∧
        (∀ a, s'.byte a = s.byte a)) ∧
  (∀ (t : Nat) (c : Nat) (s : State),
      c < 6 →
      s.serves (uChan c) 0xAC →
      ∃ s', exec (.channelAlign t c) s = .next s' ∧
        s'.get (uChan c) fb_CHSTAT_ALIGNED = 0 ∧
        s'.get (uChan c) fb_CHCTL_ALIGN = 1 ∧
        (s'.ch c).frameOld = (s.ch c).frame.isSome ∧
        s'.mem = s.mem)

/-- SSI frames, the feedback latch and encoder emulation. R379 to R391: SSI_FRAME_START, SSI_FRAME_END, FEEDBACK_LATCH,
EMULATION_STEP. -/
def Obligations.FeedbackFrames : Prop :=
  (∀ (t : Nat) (c : Nat) (e : Nat) (t0 : Nat) (s : State),
      c < 6 →
      s.chOn c = true →
      s.framed c = true →
      s.runsMode = true →
      s.inMode .shadow = false →
      (s.ch c).starts.head? = some e →
      t0 = e + s.get (uSsi c) ssi_SSTRIG_OFS →
      (s.at t).due t0 = true →
      (s.ch c).rise = none →
      ∃ s', exec (.ssiFrameStart t c) s = .next s' ∧
        (s'.ch c).frame = some (t0, s.chPos c) ∧
        (s'.ch c).rise = some (t0 + (2 * (s.ssiLen c + 1) - 1) * s.get (uSsi c) ssi_SSCLK_DIV) ∧
        s'.regs = s.regs ∧
        (∀ a, s'.byte a = s.byte a)) ∧
  (∀ (t : Nat) (c : Nat) (r : Nat) (e : Nat) (t0 : Nat) (s : State),
      c < 6 →
      s.chOn c = true →
      s.framed c = true →
      s.runsMode = true →
      s.inMode .shadow = false →
      (s.ch c).starts.head? = some e →
      t0 = e + s.get (uSsi c) ssi_SSTRIG_OFS →
      (s.at t).due t0 = true →
      (s.ch c).rise = some r →
      t0 < r + s.get (uSsi c) ssi_SSGAP_TICKS →
      ∃ s', exec (.ssiFrameStart t c) s = .next s' ∧
        s'.get (uSsi c) ssi_SSSKIP_COUNT = (s.get (uSsi c) ssi_SSSKIP_COUNT + 1) % 2 ^ ssi_SSSKIP_COUNT.w ∧
        (s'.ch c).frame = (s.ch c).frame ∧
        (∀ a, s'.byte a = s.byte a) ∧
        s.keeps s' [(uSsi c).addr ssi_SSSKIP_COUNT.off]) ∧
  (∀ (t : Nat) (c : Nat) (t0 : Nat) (p0 : Int) (raw : Nat) (s : State),
      c < 6 →
      s.chOn c = true →
      s.framed c = true →
      (s.ch c).frame = some (t0, p0) →
      (s.at t).due (t0 + 2 * s.ssiLen c * s.get (uSsi c) ssi_SSCLK_DIV + s.get (uSsi c) ssi_SSCLK_SDLY) = true →
      s.frameCause c raw = 0 →
      s.ssiPw c ≤ 32 →
      ∃ s', exec (.ssiFrameEnd t c raw) s = .next s' ∧
        s'.get (uSsi c) ssi_SSSTAT_GOOD = 1 ∧
        s'.get (uSsi c) ssi_SSSTAT_BADRUN = 0 ∧
        (s'.get (uSsi c) ssi_SSPOS_VALUE = if s.on (uSsi c) ssi_SSFRM0_GRAY then grayToBin (s.ssiPw c) (raw / 2 ^ (s.ssiCw c + s.ssiEw c) % 2 ^ s.ssiPw c)
            else raw / 2 ^ (s.ssiCw c + s.ssiEw c) % 2 ^ s.ssiPw c) ∧
        s'.get (uSsi c) ssi_SSGOOD_COUNT = (s.get (uSsi c) ssi_SSGOOD_COUNT + 1) % 2 ^ ssi_SSGOOD_COUNT.w ∧
        (s'.ch c).frame = none) ∧
  (∀ (t : Nat) (c : Nat) (k : Nat) (t0 : Nat) (p0 : Int) (s : State),
      c < 6 →
      s.chOn c = true →
      s.framed c = true →
      (s.ch c).frame = some (t0, p0) →
      (s.at t).due (t0 + 2 * s.ssiLen c * s.get (uSsi c) ssi_SSCLK_DIV + s.get (uSsi c) ssi_SSCLK_SDLY) = true →
      s.frameCause c 0xABCD = k →
      k ≠ 0 →
      ∃ s', exec (.ssiFrameEnd t c 0xABCD) s = .next s' ∧
        s'.get (uSsi c) ssi_SSSTAT_GOOD = 0 ∧
        s'.get (uSsi c) ssi_SSSTAT_CAUSE = k ∧
        s'.get (uSsi c) ssi_SSBAD_COUNT = (s.get (uSsi c) ssi_SSBAD_COUNT + 1) % 2 ^ ssi_SSBAD_COUNT.w ∧
        s'.evBit (uChan c) 3 = true ∧
        (s'.ch c).frame = none) ∧
  (∀ (t : Nat) (c : Nat) (e : Nat) (s : State),
      c < 6 →
      s.chOn c = true →
      s.counts c = true →
      (s.ch c).latches.head? = some e →
      (s.at t).due (e + s.get (uChan c) fb_CHLAT_OFS) = true →
      ∃ s', exec (.feedbackLatch t c) s = .next s' ∧
        s'.get (uDec c) dec_DANGLE_ANGLE = s.countAngle c (s.chPos c) ∧
        s'.geti (uDec c) dec_DSPEED_SPEED = (s.at t).countSpeed c ∧
        s'.chPos c = s.chPos c ∧
        s'.mem = s.mem ∧
        s.keepsRegs s' [(uDec c).addr dec_DANGLE_ANGLE.off, (uDec c).addr dec_DSPEED_SPEED.off, (uDec c).addr dec_DPOS_COUNT.off]) ∧
  (∀ (t : Nat) (c : Nat) (e0 : Nat) (s : State),
      c < 2 →
      s.emulates c = true →
      s.emuHold c = false →
      (s.ch c).emuAt = some e0 →
      (s.at t).due (e0 + 40) = true →
      s.emuDiff c ≠ 0 →
      ∃ s', exec (.emulationStep t c) s = .next s' ∧
        (s'.geti (uChan c) fb_CHEMUPOS_COUNT = signed fb_CHEMUPOS_COUNT.w (unsigned fb_CHEMUPOS_COUNT.w (s.geti (uChan c) fb_CHEMUPOS_COUNT
            + (if s.emuDiff c < 0 then -1 else 1)))) ∧
        (s'.ch c).emuAt = some (s.at t).tick ∧
        s'.mem = s.mem)

/-- A converter samples, converts, compares and calibrates, and is released and restored. R400 to R414: CONVERTER_SAMPLE,
CONVERSION_COMPLETE, WINDOW_COMPARATOR_ACTIVE, URGENT_HOST_TRIGGER, CONVERTER_CAL, CONVERTER_CAL_DONE. R410, R411:
CONVERTER_RELEASE and CONVERTER_RESTORE. -/
def Obligations.Converters : Prop :=
  (∀ (t : Nat) (n : Nat) (i : CvItem) (s : State),
      n < 8 →
      s.cvMay n = true →
      s.cvReleased (partner n) = false →
      (s.cv n).due = [i] →
      (s.cv (partner n)).due = [] →
      i.owner = n →
      i.slot < 32 →
      i.check = false →
      i.due ≤ (s.at t).tick →
      ∃ s', exec (.converterSample t n) s = .next s' ∧
        ((s'.cv n).run = (s.cv n).run ++ [⟨i, (s.at t).tick, decide (i.input < 64 ∧ sget (fun _ => 0) s.gainInv i.input ≠ 0)⟩]) ∧
        (s'.cv n).due = [] ∧
        (s'.cv n).last = some (s.at t).tick ∧
        (∀ a, s'.byte a = s.byte a)) ∧
  (∀ (t : Nat) (n : Nat) (i : CvItem) (raw : Int) (r : List CvConv) (s : State),
      n < 8 →
      (s.cv n).run = ⟨i, 8, false⟩ :: r →
      i.owner = n →
      i.slot < 32 →
      i.check = false →
      i.fk = 0 →
      s.get (uCv n) (cv_QSLOTA_REC i.slot) = 0 →
      -8192 ≤ raw →
      raw ≤ 8191 →
      ∃ s', exec (.conversionComplete t n raw) s = .next s' ∧
        (s'.cv n).run = r ∧
        s'.get (uCv n) cv_CVCONV_COUNT = (s.get (uCv n) cv_CVCONV_COUNT + 1) % 2 ^ cv_CVCONV_COUNT.w ∧
        s'.geti (uCv n) (cv_QRES_VALUE i.slot) = satQ15 (4 * (s.cvCode n raw).1) ∧
        (s'.get (uCv n) (cv_QRES_CLIP i.slot) = if (s.cvCode n raw).2 then 1 else 0) ∧
        s'.get (uCv n) (cv_QRES_INV i.slot) = 0 ∧
        (∀ a, s'.byte a = s.byte a)) ∧
  (∀ (t : Nat) (n : Nat) (s : State),
      n < 24 →
      s.cmpOn n = true →
      s.get (uWg (n / 8)) (wg_WIN_HI (n % 8)) / 16 ≠ 0x7FF →
      (s.get (uWg (n / 8)) wg_WSTAT_ABOVE).testBit (n % 8) = false →
      (s.get (uWg (n / 8)) wg_WSTAT_BELOW).testBit (n % 8) = false →
      ∃ s', exec (.windowComparatorActive t n 1) s = .next s' ∧
        (s'.get (uWg (n / 8)) wg_WSTAT_ABOVE).testBit (n % 8) = true ∧
        s'.get (uWg (n / 8)) (wg_WACT_COUNT (n % 8)) = (s.get (uWg (n / 8)) (wg_WACT_COUNT (n % 8)) + 1) % 2 ^ (wg_WACT_COUNT (n % 8)).w ∧
        s'.evBit (uWg (n / 8)) (n % 8) = true) ∧
  (∀ (t : Nat) (n : Nat) (s : State),
      n < 24 →
      ∃ s', exec (.windowComparatorActive t n 0) s = .next s' ∧
        (s'.get (uWg (n / 8)) wg_WSTAT_ABOVE).testBit (n % 8) = false ∧
        (s'.get (uWg (n / 8)) wg_WSTAT_BELOW).testBit (n % 8) = false ∧
        (∀ a, s'.byte a = s.byte a)) ∧
  (∀ (t : Nat) (n : Nat) (e : Nat) (s : State),
      s.serves (uCv n) 0x44 →
      n < 8 →
      e < 2 →
      s.get (uCv n) (cv_UREQA_EN e) = 1 →
      s.get (uCv n) (cv_UREQA_KIND e) = 2 →
      s.cvWorks n = true →
      (s.cv n).due = [] →
      ∃ s', exec (.urgentHostTrigger t n e) s = .next s' ∧
        (s'.cv n).due = [⟨n, 32 + e, (s.at t).tick, s.get (uCv n) (cv_UREQB_IN e), 0, false⟩] ∧
        s'.evBit (uCv n) 5 = true ∧
        (∀ a, s'.byte a = s.byte a) ∧
        s.keepsRegs s' ([(uCv n).addr 0x10] ++ routerWords)) ∧
  (∀ (t : Nat) (n : Nat) (s : State),
      s.serves (uCv n) 0x44 →
      n < 8 →
      s.inMode .config = true →
      s.get (uCv n) cv_CVSTAT_CALIB = 0 →
      ∃ s', exec (.converterCal t n) s = .next s' ∧
        s'.get (uCv n) cv_CVSTAT_CALIB = 1 ∧
        s'.get (uCv n) cv_CVCTL_CAL = 1 ∧
        s'.mem = s.mem ∧
        s.keepsRegs s' [(uCv n).addr cv_CVSTAT_CALIB.off, (uCv n).addr cv_CVCTL_CAL.off]) ∧
  (∀ (t : Nat) (n : Nat) (gain : Nat) (ofs : Int) (s : State),
      n < 8 →
      s.get (uCv n) cv_CVSTAT_CALIB = 1 →
      ofs.natAbs ≤ 256 →
      0x3C00 ≤ gain →
      gain ≤ 0x4400 →
      (s.at t).hostWrote (uCv n) cv_CALF_GAIN.off = false →
      ∃ s', exec (.converterCalDone t n gain ofs) s = .next s' ∧
        s'.get (uCv n) cv_CALF_GAIN = gain ∧
        s'.geti (uCv n) cv_CALF_OFS = ofs ∧
        s'.get (uCv n) cv_CVSTAT_CALIB = 0 ∧
        s'.get (uCv n) cv_CVCTL_CAL = 0 ∧
        s'.evBit (uCv n) 3 = true ∧
        (s.get (uCv n) cv_CVCTL_CAL = 1 → s'.get (uCv n) cv_CVRES_DONE = 1) ∧
        s.keeps s' ([(uCv n).addr cv_CALF_GAIN.off, (uCv n).addr cv_CALF_OFS.off, (uCv n).addr cv_CVSTAT_CALIB.off, (uCv n).addr cv_CVCTL_CAL.off,
            (uCv n).addr cv_CVRES_DONE.off, (uCv n).addr 0x10] ++ routerWords)) ∧
  (∀ (t : Nat) (n : Nat) (s : State),
      s.serves (uCv n) 0x44 →
      n < 8 →
      s.runsMode = true →
      s.get (uCv n) cv_CVCTL_REL = 0 →
      s.cvReleased n = false →
      s.cvReleased (partner n) = false →
      s.get (uCv n) cv_CVSTAT_CALIB = 0 →
      (s.cv n).last = none →
      ∃ s', exec (.converterRelease t n) s = .next s' ∧
        s'.cvReleased n = true ∧
        s'.get (uCv n) cv_CVCTL_REL = 0 ∧
        s'.get (uCv (partner n)) cv_CVSTAT_COVERING = 1 ∧
        s'.get (uPair (n / 2)) pr_PSTAT_SUSP = 1 ∧
        s'.get (uCv n) cv_CVRES_DONE = 1 ∧
        s'.evBit (uCv n) 4 = true) ∧
  (∀ (t : Nat) (n : Nat) (s : State),
      s.serves (uCv n) 0x44 →
      n < 8 →
      s.get (uCv n) cv_CVCTL_RESTORE = 0 →
      s.cvReleased n = true →
      s.get (uCv n) cv_CVSTAT_CALIB = 0 →
      (s.cv (partner n)).covered = none →
      ∃ s', exec (.converterRestore t n) s = .next s' ∧
        s'.cvReleased n = false ∧
        s'.get (uCv n) cv_CVCTL_RESTORE = 0 ∧
        s'.get (uCv (partner n)) cv_CVSTAT_COVERING = 0 ∧
        s'.get (uPair (n / 2)) pr_PSTAT_SUSP = 0 ∧
        (s'.cv n).filt = [] ∧
        s'.get (uCv n) cv_CVRES_DONE = 1)

/-- Bank checks, bank switches and map evaluators. R428 to R438: BANK_CHECK, BANK_CHECK_DONE, BANK_SWITCH, BANK_SWITCH_ABORT,
BANK_SWITCH_BOUNDARY, MAP_EVALUATION. -/
def Obligations.TableBanks : Prop :=
  (∀ (t : Nat) (bank : Nat) (s : State),
      s.serves uTbk 0x40 →
      bank < 2 →
      s.inMode .config = true →
      s.get uTbk tbk_TBSTAT_CHKBUSY = 0 →
      s.get uTbk tbk_TBSTAT_PEND = 0 →
      ∃ s', exec (.bankCheck t bank) s = .next s' ∧
        s'.get uTbk tbk_TBSTAT_CHKBUSY = 1 ∧
        s'.get uTbk tbk_TBCTL_CHECK = 1 ∧
        s'.get uTbk tbk_TBCTL_CBANK = bank ∧
        (s'.get uTbk tbk_TBSTAT_BANKOK).testBit bank = false ∧
        s'.checkBankNo = bank ∧
        s'.mem = s.mem ∧
        s.keepsRegs s' [uTbk.addr tbk_TBSTAT_CHKBUSY.off, uTbk.addr tbk_TBCTL_CHECK.off, uTbk.addr tbk_TBCTL_CBANK.off, uTbk.addr tbk_TBSTAT_BANKOK.off]) ∧
  (∀ (t : Nat) (k : Nat) (r : Breach) (s1 : State) (s : State),
      s.get uTbk tbk_TBSTAT_CHKBUSY = 1 →
      s.checkBankNo = k →
      k < 2 →
      (s.at t).checkBank k = (r, s1) →
      r = none →
      ∃ s', exec (.bankCheckDone t) s = .next s' ∧
        s'.get uTbk tbk_TBSTAT_CHKBUSY = 0 ∧
        s'.get uTbk tbk_TBCTL_CHECK = 0 ∧
        (s'.get uTbk tbk_TBSTAT_BANKOK).testBit k = true ∧
        s'.get uTbk (tbk_TBIMG_IMGID k) = (s1.tw k 8).toNat ∧
        s'.get uTbk tbk_TBRES_DONE = 1 ∧
        s'.evBit uTbk 0 = true) ∧
  (∀ (t : Nat) (k : Nat) (r : Breach) (s1 : State) (c : Nat) (tn : Nat) (s : State),
      s.get uTbk tbk_TBSTAT_CHKBUSY = 1 →
      s.checkBankNo = k →
      k < 2 →
      (s.at t).checkBank k = (r, s1) →
      r = some (c, some tn) →
      ∃ s', exec (.bankCheckDone t) s = .next s' ∧
        s'.get uTbk tbk_TBSTAT_CHKBUSY = 0 ∧
        s'.get uTbk tbk_TBFAIL_CAUSE = c % 2 ^ tbk_TBFAIL_CAUSE.w ∧
        s'.get uTbk tbk_TBFAIL_TABLE = tn % 2 ^ tbk_TBFAIL_TABLE.w ∧
        s'.get uTbk tbk_TBRES_REFUSED = 1 ∧
        s'.evBit uTbk 0 = true) ∧
  (∀ (t : Nat) (cad : Nat) (s : State),
      s.serves uTbk 0x40 →
      cad < 8 →
      s.inMode .config = false →
      s.bankOk (1 - s.activeBank) = true →
      s.get uTbk tbk_TBSTAT_CHKBUSY = 0 →
      s.get uTbk tbk_TBSTAT_PEND = 0 →
      ∃ s', exec (.bankSwitch t cad) s = .next s' ∧
        s'.get uTbk tbk_TBCTL_SWITCH = 1 ∧
        s'.get uTbk tbk_TBSTAT_PEND = 1 ∧
        s'.get uTbk tbk_TBCTL_CAD = cad ∧
        s'.switchCad = cad ∧
        s'.activeBank = s.activeBank ∧
        s'.mem = s.mem) ∧
  (∀ (t : Nat) (cad : Nat) (s : State),
      s.serves uTbk 0x40 →
      cad < 8 →
      s.inMode .config = true →
      s.bankOk (1 - s.activeBank) = true →
      s.get uTbk tbk_TBSTAT_CHKBUSY = 0 →
      s.get uTbk tbk_TBSTAT_PEND = 0 →
      ∃ s', exec (.bankSwitch t cad) s = .next s' ∧
        s'.activeBank = 1 - s.activeBank ∧
        s'.get uTbk tbk_TBSWCNT_COUNT = (s.get uTbk tbk_TBSWCNT_COUNT + 1) % 2 ^ tbk_TBSWCNT_COUNT.w ∧
        s'.get uTbk tbk_TBSWSTAMP_STAMP = (s.at t).stamp ∧
        s'.get uTbk tbk_TBRES_DONE = 1 ∧
        s'.evBit uTbk 1 = true) ∧
  (∀ (t : Nat) (s : State),
      s.serves uTbk 0x40 →
      s.get uTbk tbk_TBSTAT_PEND = 1 →
      ∃ s', exec (.bankSwitchAbort t) s = .next s' ∧
        s'.get uTbk tbk_TBSTAT_PEND = 0 ∧
        s'.get uTbk tbk_TBCTL_SWITCH = 0 ∧
        s'.get uTbk tbk_TBRES_ABORTED = 1 ∧
        s'.activeBank = s.activeBank ∧
        s'.mem = s.mem ∧
        s.keepsRegs s' [uTbk.addr tbk_TBSTAT_PEND.off, uTbk.addr tbk_TBCTL_SWITCH.off, uTbk.addr tbk_TBRES_ABORTED.off, uTbk.addr tbk_TBSTAT_ACTIVE.off]) ∧
  (∀ (t : Nat) (d : Nat) (s : State),
      s.get uTbk tbk_TBSTAT_PEND = 1 →
      s.cadRuns s.switchCad = true →
      (s.cad s.switchCad).due.head? = some d →
      (s.at t).due d = true →
      s.activeBank ≤ 1 →
      ∃ s', exec (.bankSwitchBoundary t) s = .next s' ∧
        s'.activeBank = 1 - s.activeBank ∧
        s'.get uTbk tbk_TBSTAT_PEND = 0 ∧
        s'.get uTbk tbk_TBCTL_SWITCH = 0 ∧
        s'.get uTbk tbk_TBSWCNT_COUNT = (s.get uTbk tbk_TBSWCNT_COUNT + 1) % 2 ^ tbk_TBSWCNT_COUNT.w ∧
        s'.get uTbk tbk_TBRES_DONE = 1 ∧
        s'.evBit uTbk 1 = true) ∧
  (∀ (t : Nat) (m : Nat) (e : Nat) (v : Int) (s : State),
      m < 8 →
      (s.mapEvents m).head? = some e →
      (s.at t).due (e + s.get uTbk (tbk_MAPC_OFS m)) = true →
      s.get uTbk (tbk_MAPA_EN m) = 1 →
      s.enabled uTbk = true →
      s.flips = [] →
      s.badParity = [] →
      s.curve2 s.activeBank (s.get uTbk (tbk_MAPA_TABLE m)) (s.sigI (s.get uTbk (tbk_MAPB_XSIG m))) (s.sigI (s.get uTbk (tbk_MAPB_YSIG m)))
          = some v →
      -32768 ≤ v →
      v ≤ 32767 →
      ∃ s', exec (.mapEvaluation t m) s = .next s' ∧
        s'.geti uTbk (tbk_MAPD_VALUE m) = v ∧
        s'.mem = s.mem) ∧
  (∀ (t : Nat) (m : Nat) (e : Nat) (s : State),
      m < 8 →
      (s.mapEvents m).head? = some e →
      (s.at t).due (e + s.get uTbk (tbk_MAPC_OFS m)) = true →
      s.get uTbk (tbk_MAPA_EN m) = 1 →
      s.enabled uTbk = true →
      s.table s.activeBank (s.get uTbk (tbk_MAPA_TABLE m)) 2 = none →
      s.badParity = [] →
      ∃ s', exec (.mapEvaluation t m) s = .next s' ∧
        s'.evBit uTbk 2 = true ∧
        s'.get uTbk (tbk_MAPD_VALUE m) = s.get uTbk (tbk_MAPD_VALUE m) ∧
        s'.mem = s.mem)

/-- The steps of a sequencer and its restart. R430 to R442: SEQUENCER_STEP and SEQUENCER_RESTART. -/
def Obligations.SequencerSteps : Prop :=
  (∀ (t : Nat) (n : Nat) (f : Fsm) (s : State),
      n < 32 →
      s.sqWorks n = true →
      (s.at t).sqTriggered n = true →
      (s.sq n).run = none →
      s.flips = [] →
      s.sqFsm n = some f →
      s.get (uSq n) sq_SQSTAT_ENTERING = 1 →
      actsOf (s.tw f.bank (f.stateAt f.init + 4)) = [] →
      ∃ s', exec (.sequencerStep t n) s = .next s' ∧
        s'.get (uSq n) sq_SQSTAT_STATE = f.init ∧
        s'.get (uSq n) sq_SQSTAT_ENTERING = 0 ∧
        s'.get (uSq n) sq_SQCTL_RESTART = 0 ∧
        s'.get (uSq n) sq_SQENTRY_STAMP = (s.at t).tick % 2 ^ 32 ∧
        s'.get (uSq n) sq_SQSTEPS_COUNT = (s.get (uSq n) sq_SQSTEPS_COUNT + 1) % 2 ^ sq_SQSTEPS_COUNT.w) ∧
  (∀ (t : Nat) (n : Nat) (f : Fsm) (j : Nat) (s : State),
      n < 32 →
      s.sqWorks n = true →
      (s.at t).sqTriggered n = true →
      (s.sq n).run = none →
      s.flips = [] →
      s.sqFsm n = some f →
      s.get (uSq n) sq_SQSTAT_ENTERING = 0 →
      s.get (uSq n) sq_SQSTAT_STATE < f.nstate →
      s.badParity = [] →
      ((List.range (bits (s.tw f.bank (f.stateAt (s.get (uSq n) sq_SQSTAT_STATE))) 16 9)).map (bits (s.tw f.bank (f.stateAt (s.get (uSq n) sq_SQSTAT_STATE))) 0 8
          + ·)).find? ((s.at t).sqGuard n f) = some j →
      actsOf (s.tw f.bank (f.transAt j + 12)) = [] →
      actsOf (s.tw f.bank (f.stateAt (bits (s.tw f.bank (f.transAt j)) 24 6) + 4)) = [] →
      ∃ s', exec (.sequencerStep t n) s = .next s' ∧
        s'.get (uSq n) sq_SQSTAT_STATE = bits (s.tw f.bank (f.transAt j)) 24 6 ∧
        s'.get (uSq n) sq_SQSTAT_LASTTR = j % 2 ^ sq_SQSTAT_LASTTR.w ∧
        s'.get (uSq n) sq_SQENTRY_STAMP = (s.at t).tick % 2 ^ 32 ∧
        s'.get (uSq n) sq_SQSTEPS_COUNT = (s.get (uSq n) sq_SQSTEPS_COUNT + 1) % 2 ^ sq_SQSTEPS_COUNT.w) ∧
  (∀ (t : Nat) (n : Nat) (f : Fsm) (s : State),
      n < 32 →
      s.sqWorks n = true →
      (s.at t).sqTriggered n = true →
      (s.sq n).run = none →
      s.flips = [] →
      s.sqFsm n = some f →
      s.get (uSq n) sq_SQSTAT_ENTERING = 0 →
      s.get (uSq n) sq_SQSTAT_STATE < f.nstate →
      s.badParity = [] →
      ((List.range (bits (s.tw f.bank (f.stateAt (s.get (uSq n) sq_SQSTAT_STATE))) 16 9)).map (bits (s.tw f.bank (f.stateAt (s.get (uSq n) sq_SQSTAT_STATE))) 0 8
          + ·)).find? ((s.at t).sqGuard n f) = none →
      ∃ s', exec (.sequencerStep t n) s = .next s' ∧
        s'.get (uSq n) sq_SQSTAT_STATE = s.get (uSq n) sq_SQSTAT_STATE ∧
        s'.get (uSq n) sq_SQENTRY_STAMP = s.get (uSq n) sq_SQENTRY_STAMP ∧
        s'.get (uSq n) sq_SQSTEPS_COUNT = (s.get (uSq n) sq_SQSTEPS_COUNT + 1) % 2 ^ sq_SQSTEPS_COUNT.w) ∧
  (∀ (t : Nat) (n : Nat) (s : State),
      n < 32 →
      s.sqWorks n = true →
      (s.at t).sqTriggered n = true →
      (s.sq n).run ≠ none →
      s.get (uSq n) sq_SQSTAT_PEND = 0 →
      ∃ s', exec (.sequencerStep t n) s = .next s' ∧
        s'.get (uSq n) sq_SQSTAT_PEND = 1 ∧
        (s'.sq n).run = (s.sq n).run ∧
        (∀ a, a ≠ (uSq n).addr sq_SQSTAT_PEND.off → s'.getW a = s.getW a) ∧
        (∀ a, s'.byte a = s.byte a)) ∧
  (∀ (t : Nat) (n : Nat) (s : State),
      s.serves (uSq n) 0x4C →
      n < 32 →
      ∃ s', exec (.sequencerRestart t n) s = .next s' ∧
        s'.get (uSq n) sq_SQCTL_RESTART = 1 ∧
        s'.get (uSq n) sq_SQSTAT_ENTERING = 1 ∧
        s'.get (uSq n) sq_SQSTAT_STOPPED = 0 ∧
        (∀ a, s'.byte a = s.byte a) ∧
        s.keepsRegs s' [(uSq n).addr sq_SQCTL_RESTART.off, (uSq n).addr sq_SQSTAT_ENTERING.off, (uSq n).addr sq_SQSTAT_STOPPED.off])

/-- The six actions of a sequencer. R432, R444: WREG, SETSIG, POD_ACTION, AREQ_ACTION, EMIT, CANTX. -/
def Obligations.SequencerActions : Prop :=
  (∀ (t : Nat) (n : Nat) (a0 : Word) (a1 : Word) (k : Nat) (s : State),
      n < 32 →
      s.sqAction n 2 = some (a0, a1, k) →
      (1 < ((s.sq n).run.map fun r => r.acts.length).getD 0) →
      s.get (uSq n) (sq_SQSIG_EN (bits a0 0 3)) = 1 →
      a0.getLsbD 8 = false →
      s.dir (s.get (uSq n) (sq_SQSIG_SIG (bits a0 0 3))) dir_WCLASS = 2 →
      s.dir (s.get (uSq n) (sq_SQSIG_SIG (bits a0 0 3))) dir_WINST = n →
      s.dir (s.get (uSq n) (sq_SQSIG_SIG (bits a0 0 3))) dir_TYPE = 1 →
      s.isHeld ⟨.sq, n⟩ = false →
      ∃ s', exec (.setsig t n) s = .next s' ∧
        s'.sig (s.get (uSq n) (sq_SQSIG_SIG (bits a0 0 3))) = a1 ∧
        ((s'.sq n).run = ((s.sq n).run.map fun r => { r with acts := r.acts.tail })) ∧
        (∀ a, s'.byte a = s.byte a)) ∧
  (∀ (t : Nat) (n : Nat) (a0 : Word) (a1 : Word) (k : Nat) (s : State),
      n < 32 →
      s.sqAction n 5 = some (a0, a1, k) →
      (1 < ((s.sq n).run.map fun r => r.acts.length).getD 0) →
      ∃ s', exec (.emit t n) s = .next s' ∧
        s'.evBit (uSq n) (8 + bits a0 0 3) = true ∧
        ((s'.sq n).run = ((s.sq n).run.map fun r => { r with acts := r.acts.tail })) ∧
        (∀ a, s'.byte a = s.byte a)) ∧
  (∀ (t : Nat) (n : Nat) (a0 : Word) (a1 : Word) (k : Nat) (s : State),
      n < 32 →
      s.sqAction n 4 = some (a0, a1, k) →
      (1 < ((s.sq n).run.map fun r => r.acts.length).getD 0) →
      s.get (uQuad (bits a0 16 4)) (arq_ACOMP_EN (bits a0 16 4 % 4) (bits a0 8 3)) = 1 →
      s.get (uQuad (bits a0 16 4)) (arq_ACOMP_KIND (bits a0 16 4 % 4) (bits a0 8 3)) = 1 →
      a0.getLsbD 0 = false →
      s.badParity = [] →
      (s.at t).hostWrote (uQuad (bits a0 16 4)) (0x140 + 0x80 * (bits a0 16 4 % 4) + 4 * bits a0 8 3) = false →
      ∃ s', exec (.areqAction t n) s = .next s' ∧
        s'.get (uQuad (bits a0 16 4)) (arq_AREQ_VALUE (bits a0 16 4 % 4) (bits a0 8 3)) = bits a1 0 16 ∧
        (s'.get (uQuad (bits a0 16 4)) (arq_AREQ_ACTIVE (bits a0 16 4 % 4) (bits a0 8 3)) = if a0.getLsbD 4 then 1 else 0) ∧
        ((s'.sq n).run = ((s.sq n).run.map fun r => { r with acts := r.acts.tail }))) ∧
  (∀ (t : Nat) (n : Nat) (a0 : Word) (a1 : Word) (k : Nat) (s1 : State) (s : State),
      n < 32 →
      s.sqAction n 1 = some (a0, a1, k) →
      (1 < ((s.sq n).run.map fun r => r.acts.length).getD 0) →
      wregDenied (bits a0 0 22 * 4) = false →
      bits a0 0 22 * 4 < 0xF01000 →
      (s.at t).hostWrite 2 (bits a0 0 22 * 4) a1 (bits a0 24 4) false = (0, s1) →
      (s1.sq n).run = (s.sq n).run →
      ∃ s', exec (.wreg t n) s = .next s' ∧
        ((s'.sq n).run = ((s.sq n).run.map fun r => { r with acts := r.acts.tail })) ∧
        s'.regs = s1.regs ∧
        s'.mem = s1.mem) ∧
  (∀ (t : Nat) (n : Nat) (a0 : Word) (a1 : Word) (k : Nat) (s1 : State) (s : State),
      n < 32 →
      s.sqAction n 3 = some (a0, a1, k) →
      (1 < ((s.sq n).run.map fun r => r.acts.length).getD 0) →
      ((s.at t).hostWrite 2 ((uPod (bits a0 0 7)).addr 0xC) (BitVec.ofNat 32 (bits a0 8 1)) 1 false).2 = s1 →
      (s1.sq n).run = (s.sq n).run →
      ∃ s', exec (.podAction t n) s = .next s' ∧
        ((s'.sq n).run = ((s.sq n).run.map fun r => { r with acts := r.acts.tail })) ∧
        s'.regs = s1.regs ∧
        s'.mem = s1.mem) ∧
  (∀ (t : Nat) (n : Nat) (a0 : Word) (a1 : Word) (k : Nat) (m : Fmt) (s : State),
      n < 32 →
      s.sqAction n 6 = some (a0, a1, k) →
      (1 < ((s.sq n).run.map fun r => r.acts.length).getD 0) →
      s.fmt s.activeBank (bits a0 0 16) = some m →
      m.dir = 1 →
      m.tb < 3 →
      s.get (uCn m.cn) (cn_TXCMD_REQ m.tb) = 0 →
      s.txRefusal m.cn m.ide m.fdf m.brs m.bytes m.ident = none →
      s.flips = [] →
      s.badParity = [] →
      ∃ s', exec (.cantx t n) s = .next s' ∧
        s'.get (uCn m.cn) (cn_TXCMD_REQ m.tb) = 1 ∧
        s'.get (uCn m.cn) (cn_TXID_ID m.tb) = m.ident ∧
        s'.get (uCn m.cn) (cn_TXCTL_BYTES m.tb) = m.bytes ∧
        ((s'.sq n).run = ((s.sq n).run.map fun r => { r with acts := r.acts.tail })))

/-- Requests, aborts, selection and the end of an attempt of a CAN controller. R462 to R465: CAN_TX_REQUEST, CAN_TX_ABORT,
CAN_SELECTION_INSTANT, CAN_TX_SUCCESS, CAN_TX_ATTEMPT_FAIL. -/
def Obligations.CanTransmit : Prop :=
  (∀ (t : Nat) (n : Nat) (k : Nat) (s : State),
      s.serves (uCn n) (0x10C + 0x80 * k) →
      n < 4 →
      k < 3 →
      s.get (uCn n) (cn_TXCMD_REQ k) = 0 →
      s.txRefusal n (s.on (uCn n) (cn_TXCTL_IDE k)) (s.on (uCn n) (cn_TXCTL_FDF k)) (s.on (uCn n) (cn_TXCTL_BRS k)) (s.get (uCn n) (cn_TXCTL_BYTES k)) (s.get (uCn n) (cn_TXID_ID k))
          = none →
      ∃ s', exec (.canTxRequest t n k) s = .next s' ∧
        s'.get (uCn n) (cn_TXCMD_REQ k) = 1 ∧
        (∀ a, a ≠ (uCn n).addr (cn_TXCMD_REQ k).off → s'.getW a = s.getW a) ∧
        (∀ a, s'.byte a = s.byte a)) ∧
  (∀ (t : Nat) (n : Nat) (k : Nat) (c : Nat) (s : State),
      s.serves (uCn n) (0x10C + 0x80 * k) →
      n < 4 →
      k < 3 →
      s.get (uCn n) (cn_TXCMD_REQ k) = 0 →
      s.txRefusal n (s.on (uCn n) (cn_TXCTL_IDE k)) (s.on (uCn n) (cn_TXCTL_FDF k)) (s.on (uCn n) (cn_TXCTL_BRS k)) (s.get (uCn n) (cn_TXCTL_BYTES k)) (s.get (uCn n) (cn_TXID_ID k))
          = some c →
      ∃ s', exec (.canTxRequest t n k) s = .next s' ∧
        s'.get (uCn n) (cn_TXCMD_REQ k) = 0 ∧
        s'.get (uCn n) (cn_TXRES_REFUSED k) = 1 ∧
        (s.get (uCn n) (cn_TXRES_CAUSE k) = 0 → s'.get (uCn n) (cn_TXRES_CAUSE k) = c) ∧
        s'.mem = s.mem ∧
        s.keepsRegs s' [(uCn n).addr (cn_TXCMD_REQ k).off, (uCn n).addr (cn_TXRES_REFUSED k).off, (uCn n).addr (cn_TXRES_CAUSE k).off]) ∧
  (∀ (t : Nat) (n : Nat) (k : Nat) (s : State),
      s.serves (uCn n) (0x10C + 0x80 * k) →
      n < 4 →
      k < 3 →
      s.get (uCn n) (cn_TXCMD_REQ k) = 1 →
      (s.can n).sending ≠ some k →
      ∃ s', exec (.canTxAbort t n k) s = .next s' ∧
        s'.get (uCn n) (cn_TXCMD_REQ k) = 0 ∧
        s'.get (uCn n) (cn_TXRES_ABORTED k) = 1 ∧
        (s.get (uCn n) (cn_TXRES_CAUSE k) = 0 → s'.get (uCn n) (cn_TXRES_CAUSE k) = 8) ∧
        s'.mem = s.mem ∧
        s.keepsRegs s' [(uCn n).addr (cn_TXCMD_REQ k).off, (uCn n).addr (cn_TXRES_ABORTED k).off, (uCn n).addr (cn_TXRES_CAUSE k).off]) ∧
  (∀ (t : Nat) (n : Nat) (k : Nat) (s : State),
      n < 4 →
      s.cnOn n = true →
      (s.can n).sending = none →
      s.txChoice n = some k →
      ∃ s', exec (.canSelectionInstant t n) s = .next s' ∧
        (s'.can n).sending = some k ∧
        s'.get (uCn n) cn_CNSTAT_TXING = 1 ∧
        s'.mem = s.mem ∧
        s.keeps s' [(uCn n).addr cn_CNSTAT_TXING.off]) ∧
  (∀ (t : Nat) (n : Nat) (k : Nat) (sof : Nat) (tdcv : Nat) (s : State),
      n < 4 →
      k < 3 →
      (s.can n).sending = some k →
      s.cnOn n = true →
      s.get (uCn n) cn_CNERR_TEC ≤ 128 →
      s.get (uCn n) cn_CNERR_REC ≤ 127 →
      ∃ s', exec (.canTxSuccess t n sof tdcv) s = .next s' ∧
        s'.get (uCn n) (cn_TXCMD_REQ k) = 0 ∧
        s'.get (uCn n) (cn_TXRES_DONE k) = 1 ∧
        s'.get (uCn n) (cn_TXSTAMP_STAMP k) = sof % 2 ^ 32 ∧
        s'.get (uCn n) cn_CNTXCNT_COUNT = (s.get (uCn n) cn_CNTXCNT_COUNT + 1) % 2 ^ (cn_CNTXCNT_COUNT).w ∧
        s'.get (uCn n) cn_CNERR_TEC = s.get (uCn n) cn_CNERR_TEC - 1 ∧
        s'.get (uCn n) cn_CNSTAT_STATE = 2 ∧
        s'.evBit (uCn n) 2 = true ∧
        (s'.can n).sending = none) ∧
  (∀ (t : Nat) (n : Nat) (k : Nat) (c : Nat) (s : State),
      n < 4 →
      k < 3 →
      c < 16 →
      (s.can n).sending = some k →
      (s.can n).aborting = false →
      s.get (uCn n) (cn_TXCTL_OS k) = 1 →
      ∃ s', exec (.canTxAttemptFail t n c none) s = .next s' ∧
        s'.get (uCn n) (cn_TXCMD_REQ k) = 0 ∧
        s'.get (uCn n) (cn_TXRES_ABORTED k) = 1 ∧
        (s.get (uCn n) (cn_TXRES_CAUSE k) = 0 → s'.get (uCn n) (cn_TXRES_CAUSE k) = c) ∧
        s'.evBit (uCn n) 3 = true ∧
        (s'.can n).sending = none ∧
        s.keeps s' ([(uCn n).addr (cn_TXCMD_REQ k).off, (uCn n).addr (cn_TXRES_ABORTED k).off, (uCn n).addr (cn_TXRES_CAUSE k).off,
            (uCn n).addr 0x10] ++ routerWords)) ∧
  (∀ (t : Nat) (n : Nat) (k : Nat) (c : Nat) (s : State),
      n < 4 →
      k < 3 →
      (s.can n).sending = some k →
      (s.can n).aborting = false →
      s.get (uCn n) (cn_TXCTL_OS k) = 0 →
      ∃ s', exec (.canTxAttemptFail t n c none) s = .next s' ∧
        s'.get (uCn n) (cn_TXCMD_REQ k) = s.get (uCn n) (cn_TXCMD_REQ k) ∧
        s'.get (uCn n) cn_CNSTAT_TXING = 0 ∧
        (s'.can n).sending = none ∧
        s'.mem = s.mem ∧
        s.keeps s' [(uCn n).addr (cn_TXCMD_REQ k).off, (uCn n).addr cn_CNSTAT_TXING.off])

/-- Reception, acknowledgement, errors and the states of a CAN controller. R452 to R468: CAN_FRAME_ACCEPTED, CAN_REMOTE_FRAME,
CAN_RX_ACK, CAN_ERROR, CAN_RECOVER, BUS_OFF_RECOVERY_DONE, CAN_INTEGRATION_DONE, CAN_PROTOCOL_EXCEPTION. -/
def Obligations.CanReceiveAndErrors : Prop :=
  (∀ (t : Nat) (n : Nat) (f : CanFrame) (s : State),
      n < 4 →
      s.cnOn n = true →
      (s.can n).sending = none →
      f.fdf = false →
      ((s.can n).objs.findIdx? (fun o => decide (o.key = canKey f.ide f.ident)) = none) →
      ∃ s', exec (.canFrameAccepted t n f 55) s = .next s' ∧
        s'.get (uCn n) cn_CNUNMCNT_COUNT = (s.get (uCn n) cn_CNUNMCNT_COUNT + 1) % 2 ^ (cn_CNUNMCNT_COUNT).w ∧
        s'.evBit (uCn n) 8 = true ∧
        (∀ a, s'.byte a = s.byte a)) ∧
  (∀ (t : Nat) (n : Nat) (f : CanFrame) (base : Nat) (len : Nat) (s : State),
      n < 4 →
      s.cnOn n = true →
      (s.can n).sending = none →
      f.fdf = false →
      s.region (0x20 + n) = some (base, len) →
      s.flips = [] →
      poolBase ≤ base →
      (s.can n).objs = [⟨canKey f.ide f.ident, true, none⟩] →
      ∃ s', exec (.canFrameAccepted t n f 55) s = .next s' ∧
        s'.memWord (base + 0x814) = BitVec.ofNat 32 (f.ident % 2 ^ 29) ∧
        s'.memWord (base + 0x818) = 55 ∧
        bits (s'.memWord (base + 0x810)) 30 2 = 3 ∧
        bits (s'.memWord (base + 0x810)) 0 16 = (bits (s.memWord (base + 0x810)) 0 16 + 1) % 65536 ∧
        s'.get (uCn n) cn_CNRXCNT_COUNT = (s.get (uCn n) cn_CNRXCNT_COUNT + 1) % 2 ^ (cn_CNRXCNT_COUNT).w ∧
        (s'.get (uCn n) (cn_RXNEW_NEW 0)).testBit 0 = true ∧
        s'.evBit (uCn n) 0 = true) ∧
  (∀ (t : Nat) (n : Nat) (s : State),
      n < 4 →
      s.cnOn n = true →
      (s.can n).sending = none →
      ∃ s', exec (.canRemoteFrame t n) s = .next s' ∧
        s'.get (uCn n) cn_CNRTRCNT_COUNT = (s.get (uCn n) cn_CNRTRCNT_COUNT + 1) % 2 ^ (cn_CNRTRCNT_COUNT).w ∧
        (∀ a, s'.byte a = s.byte a)) ∧
  (∀ (t : Nat) (n : Nat) (obj : Nat) (seq : Nat) (base : Nat) (len : Nat) (s : State),
      s.serves (uCn n) 0x60 →
      s.serves (uCn n) 0x60 →
      n < 4 →
      s.region (0x20 + n) = some (base, len) →
      s.flips = [] →
      obj < (s.can n).objs.length →
      obj < 256 →
      bits (s.memWord (base + 0x810 + 80 * obj)) 0 16 = seq →
      poolBase ≤ base →
      ∃ s', exec (.canRxAck t n obj seq) s = .next s' ∧
        (s'.get (uCn n) (cn_RXNEW_NEW (obj / 32))).testBit (obj % 32) = false ∧
        bits (s'.memWord (base + 0x810 + 80 * obj)) 29 2 = 0 ∧
        bits (s'.memWord (base + 0x810 + 80 * obj)) 0 16 = seq) ∧
  (∀ (t : Nat) (n : Nat) (c : Nat) (s : State),
      n < 4 →
      c < 8 →
      s.cnOn n = true →
      s.get (uCn n) cn_CNERR_TEC ≤ 247 →
      ∃ s', exec (.canError t n c true false false) s = .next s' ∧
        s'.get (uCn n) cn_CNERRCNT_COUNT = (s.get (uCn n) cn_CNERRCNT_COUNT + 1) % 2 ^ (cn_CNERRCNT_COUNT).w ∧
        s'.get (uCn n) cn_CNERR_TEC = s.get (uCn n) cn_CNERR_TEC + 8 ∧
        (s.get (uCn n) cn_CNLEC_ERR = 0 → s'.get (uCn n) cn_CNLEC_CAUSE = c) ∧
        s'.get (uCn n) cn_CNLEC_ERR = 1) ∧
  (∀ (t : Nat) (n : Nat) (s : State),
      s.serves (uCn n) 0x50 →
      n < 4 →
      s.cnState n = 4 →
      ∃ s', exec (.canRecover t n) s = .next s' ∧
        s'.cnState n = 5 ∧
        s'.get (uCn n) cn_CNCTL_RECOVER = 1 ∧
        s'.mem = s.mem ∧
        s.keepsRegs s' [(uCn n).addr cn_CNSTAT_STATE.off, (uCn n).addr cn_CNCTL_RECOVER.off]) ∧
  (∀ (t : Nat) (n : Nat) (s : State),
      n < 4 →
      s.cnState n = 5 →
      ∃ s', exec (.busOffRecoveryDone t n) s = .next s' ∧
        s'.cnState n = 2 ∧
        s'.get (uCn n) cn_CNERR_TEC = 0 ∧
        s'.get (uCn n) cn_CNERR_REC = 0 ∧
        s'.get (uCn n) cn_CNCTL_RECOVER = 0 ∧
        s'.evBit (uCn n) 7 = true ∧
        s.keeps s' ([(uCn n).addr cn_CNSTAT_STATE.off, (uCn n).addr cn_CNERR_TEC.off, (uCn n).addr cn_CNERR_REC.off, (uCn n).addr cn_CNCTL_RECOVER.off,
            (uCn n).addr 0x10] ++ routerWords)) ∧
  (∀ (t : Nat) (n : Nat) (s : State),
      n < 4 →
      s.cnState n = 1 →
      s.get (uCn n) cn_CNERR_TEC ≤ 127 →
      s.get (uCn n) cn_CNERR_REC ≤ 127 →
      ∃ s', exec (.canIntegrationDone t n) s = .next s' ∧
        s'.cnState n = 2 ∧
        s'.mem = s.mem) ∧
  (∀ (t : Nat) (n : Nat) (s : State),
      n < 4 →
      s.cnOn n = true →
      s.get (uCn n) cn_CNCFG_PXE = 1 →
      ∃ s', exec (.canProtocolException t n) s = .next s' ∧
        s'.cnState n = 1 ∧
        s'.evBit (uCn n) 10 = true ∧
        (∀ a, s'.byte a = s.byte a) ∧
        s.keeps s' ([(uCn n).addr cn_CNSTAT_STATE.off, (uCn n).addr 0x10] ++ routerWords))

/-- The claim of the serve and the swap drill. R478, R479, R506: SERVE_CLAIM, SWAP_DRILL, DRILL_TEST_END. -/
def Obligations.PairClaimAndDrill : Prop :=
  (∀ (t : Nat) (s : State),
      s.serves uSrv 0x48 →
      s.inMode .ready = true →
      s.get uRly rly_RLSTAT_UP = 1 →
      s.get uRly rly_RLSTAT_PRXOK = 1 →
      s.pair.heard = false →
      ∃ s', exec (.serveClaim t) s = .next s' ∧
        s'.get uSrv srv_SVSTAT_TOKEN = 1 ∧
        s'.get uSrv srv_SVSEQ_SEQ = (max (s.get uSrv srv_SVSEQ_SEQ) (s.get uSrv srv_SVPSEQ_SEQ) + 1) % 2 ^ 32 ∧
        s'.get uSrv srv_SVRES_DONE = 1 ∧
        s'.get uSrv srv_SVSTAT_AUTH = 0 ∧
        s'.mem = s.mem ∧
        s.keepsRegs s' [uSrv.addr srv_SVSTAT_TOKEN.off, uSrv.addr srv_SVSEQ_SEQ.off, uSrv.addr srv_SVRES_DONE.off, uSrv.addr srv_SVSTAT_AUTH.off]) ∧
  (∀ (t : Nat) (s : State),
      s.serves uSrv 0x48 →
      s.inMode .ready = false →
      ∃ s', exec (.serveClaim t) s = .next s' ∧
        s'.get uSrv srv_SVRES_REFUSED = 1 ∧
        (s.get uSrv srv_SVRES_CAUSE = 0 → s'.get uSrv srv_SVRES_CAUSE = 1) ∧
        s'.get uSrv srv_SVSTAT_TOKEN = s.get uSrv srv_SVSTAT_TOKEN ∧
        s'.mem = s.mem ∧
        s.keepsRegs s' [uSrv.addr srv_SVRES_REFUSED.off, uSrv.addr srv_SVRES_CAUSE.off, uSrv.addr srv_SVSTAT_TOKEN.off]) ∧
  (∀ (t : Nat) (s : State),
      s.serves uSrv 0x48 →
      s.get uSrv srv_SVCMD_DRILL = 0 →
      s.inMode .run = true →
      s.get uSrv srv_SVSTAT_TOKEN = 1 →
      s.trans = none →
      s.get uRly rly_RLSTAT_UP = 1 →
      s.get uRly rly_RLSTAT_PRXOK = 1 →
      s.pair.heard = true →
      bits s.pair.msg 24 4 = 5 →
      s.pair.msg.getLsbD 17 = true →
      s.pair.msg.getLsbD 16 = true →
      (∀ st ∈ List.range 2, (s.geti (uStage st) trac_TSPD_SPEED).natAbs ≤ s.get uSrv srv_SVCFG_DRSPD) →
      ∃ s', exec (.swapDrill t) s = .next s' ∧
        s'.get uSrv srv_SVCMD_DRILL = 1 ∧
        s'.pair.drill = 1 ∧
        s'.pair.armBefore = s.getW (uSrv.addr srv_TAKEOVER_ARM_ARM.off) ∧
        s'.getW (uSrv.addr srv_TAKEOVER_ARM_ARM.off) = 15 ∧
        s'.pair.release = some (s.at t).handoverTick ∧
        s'.mem = s.mem ∧
        s.keepsRegs s' [uSrv.addr srv_SVCMD_DRILL.off, uSrv.addr srv_TAKEOVER_ARM_ARM.off]) ∧
  (∀ (t : Nat) (s : State),
      s.inMode .run = true →
      s.get uSrv srv_SVSTAT_TOKEN = 1 →
      s.pair.drill = 0 →
      s.pair.release = none →
      (s.at t).due (s.pair.tookAt + ms (atLeast1 (s.get uSrv srv_SVCFG_DRTIME))) = true →
      ∃ s', exec (.drillTestEnd t true) s = .next s' ∧
        s'.pair.drill = 3 ∧
        s'.pair.release = some (s.at t).handoverTick ∧
        s'.regs = s.regs) ∧
  (∀ (t : Nat) (s : State),
      s.inMode .run = true →
      s.get uSrv srv_SVSTAT_TOKEN = 1 →
      s.pair.drill = 0 →
      s.pair.release = none →
      s.sel uSrv 1 = 0 →
      ∃ s', exec (.drillTestEnd t false) s = .next s' ∧
        s'.pair.flt = true ∧
        s'.get uSrv hdr_USTAT_OWNF = 1)

/-- The Rally link, its messages and its frames. R478 to R490: RALLY_LINK_TRAINED, RALLY_LINK_DOWN, HB_SEND, HB_MESSAGE,
CLAIM_MESSAGE, PARTNER_SILENT, CARRIER_SYNC_RECEIVE, RALLY_FRAME_RECEIVE. -/
def Obligations.RallyLinkAndMessages : Prop :=
  (∀ (t : Nat) (lat : Nat) (s : State),
      lat < 65536 →
      s.get uRly rly_RLCFG_EN = 1 →
      s.enabled uRly = true →
      s.runsMode = true →
      ∃ s', exec (.rallyLinkTrained t lat) s = .next s' ∧
        s'.get uRly rly_RLLAT_LAT = lat % 2 ^ rly_RLLAT_LAT.w ∧
        s'.get uRly rly_RLSTAT_TRAINED = 1 ∧
        s'.get uRly rly_RLSTAT_UP = 1 ∧
        s'.pair.silent = false ∧
        s'.evBit uRly 0 = true ∧
        (∀ a, s'.byte a = s.byte a) ∧
        s.keeps s' ([uRly.addr rly_RLLAT_LAT.off, uRly.addr rly_RLSTAT_TRAINED.off, uRly.addr rly_RLSTAT_UP.off, uRly.addr 0x10]
            ++ routerWords)) ∧
  (∀ (t : Nat) (lost : Bool) (s : State),
      ∃ s', exec (.rallyLinkDown t lost) s = .next s' ∧
        s'.get uRly rly_RLSTAT_UP = 0 ∧
        s'.get uRly rly_RLSTAT_PRXOK = 0 ∧
        (s'.get uRly rly_RLSTAT_TRAINED = if lost then 0 else s.get uRly rly_RLSTAT_TRAINED) ∧
        s'.pair.resync = true ∧
        (s.get uRly rly_RLSTAT_UP = 1 → s'.evBit uRly 1 = true) ∧
        (∀ a, s'.byte a = s.byte a)) ∧
  (∀ (t : Nat) (w : List Word) (s : State),
      s.get uRly rly_RLSTAT_TRAINED = 1 →
      (s.at t).due s.pair.hbAt = true →
      w = [(s.at t).msgWord 1, BitVec.ofNat 32 (s.get uSrv srv_SVSEQ_SEQ), BitVec.ofNat 32 (s.at t).stamp] →
      ∃ s', exec (.hbSend t) s = .next s' ∧
        s'.pair.hbAt = s.pair.hbAt + atLeast1 (s.get uRly rly_RLHB_HBPER) ∧
        s'.pair.sent = w ++ [crc32 (w.flatMap wordBytes)] ∧
        s'.regs = s.regs ∧
        (∀ a, s'.byte a = s.byte a)) ∧
  (∀ (t : Nat) (w0 : Word) (w1 : Word) (w2 : Word) (w3 : Word) (s : State),
      s.hears = true →
      goodMsg 1 w0 w1 w2 w3 = true →
      s.inMode .shadow = false →
      ∃ s', exec (.hbMessage t w0 w1 w2 w3) s = .next s' ∧
        s'.pair.msg = w0 ∧
        s'.pair.heard = true ∧
        s'.pair.lastWord = (s.at t).tick ∧
        s'.get uSrv srv_SVPSEQ_SEQ = w1.toNat ∧
        s'.get uSrv srv_SVSTAT_PMODE = bits w0 24 4 % 2 ^ srv_SVSTAT_PMODE.w ∧
        s'.get uRly rly_RLSTAT_PRXOK = bits w0 19 1 ∧
        s'.mem = s.mem) ∧
  (∀ (t : Nat) (w0 : Word) (w1 : Word) (w2 : Word) (w3 : Word) (s : State),
      s.hears = true →
      goodMsg 1 w0 w1 w2 w3 = false →
      ∃ s', exec (.hbMessage t w0 w1 w2 w3) s = .next s' ∧
        s'.get uRly rly_RLCRC_COUNT = (s.get uRly rly_RLCRC_COUNT + 1) % 2 ^ (rly_RLCRC_COUNT).w ∧
        s'.pair = s.pair ∧
        (∀ a, s'.byte a = s.byte a) ∧
        s.keeps s' [uRly.addr rly_RLCRC_COUNT.off]) ∧
  (∀ (t : Nat) (w0 : Word) (w1 : Word) (w2 : Word) (w3 : Word) (s : State),
      s.hears = true →
      goodMsg 2 w0 w1 w2 w3 = true →
      s.inMode .ready = true →
      s.get uSrv srv_SVSTAT_TOKEN = 1 →
      s.get uSrv srv_SVSEQ_SEQ < w1.toNat →
      ∃ s', exec (.claimMessage t w0 w1 w2 w3) s = .next s' ∧
        s'.get uSrv srv_SVSTAT_TOKEN = 0 ∧
        s'.get uSrv srv_SVSEQ_SEQ = w1.toNat ∧
        s'.evBit uSrv 3 = true ∧
        s'.mem = s.mem) ∧
  (∀ (t : Nat) (l : Nat) (s : State),
      s.runsMode = true →
      s.get uRly rly_RLCFG_EN = 1 →
      s.pair.silent = false →
      s.pair.heard = true →
      s.pair.lastWord = l →
      s.inMode .shadow = false →
      (s.at t).due (l + s.get uRly rly_RLHB_HBTO) = true →
      ∃ s', exec (.partnerSilent t) s = .next s' ∧
        s'.pair.silent = true ∧
        s'.evBit uSrv 5 = true ∧
        (∀ a, s'.byte a = s.byte a) ∧
        s.keeps s' ([uSrv.addr 0x10] ++ routerWords)) ∧
  (∀ (t : Nat) (st : Nat) (delay : Nat) (v : Nat) (s : State),
      st < 9 →
      st ≠ 2 →
      s.lead st = st →
      v = (s.at t).tick - (delay + s.get uRly rly_RLLAT_LAT + 16) / 32 →
      2 < ((v : Int) - (s.tr st).valley) % ((s.tr st).len : Int) →
      ((v : Int) - (s.tr st).valley) % ((s.tr st).len : Int) + 2 < (s.tr st).len →
      s.inMode .shadow = true →
      s.get uRly rly_RLSTAT_TRAINED = 1 →
      s.carrierRuns st = true →
      ∃ s', exec (.carrierSyncReceive t st delay) s = .next s' ∧
        (s'.tr st).valley = v ∧
        ((s'.tr st).next = some (if (s.at t).tick < v + (s.tr st).len / 2 then v + (s.tr st).len / 2 else v + (s.tr st).len)) ∧
        (s'.tr st).nextPeak = decide ((s.at t).tick < v + (s.tr st).len / 2) ∧
        s'.regs = s.regs ∧
        (∀ a, s'.byte a = s.byte a)) ∧
  (∀ (t : Nat) (w : List Word) (s : State),
      s.inMode .shadow = true →
      s.get uRly rly_RLSTAT_TRAINED = 1 →
      s.enabled uRly = true →
      s.pair.take = none →
      s.pair.resync = false →
      7 ≤ w.length ∧ w.getD (w.length - 1) 0 = crc32 ((w.take (w.length - 1)).flatMap wordBytes) ∧ w.getD 0 0 = BitVec.ofNat 32 (0xA7010000
          + w.length % 65536) →
      unsigned 32 ((w.getD 1 0).toNat - (s.get uRly rly_RLFRNUM_NUM : Int)) = 1 →
      ∃ s', exec (.rallyFrameReceive t w) s = .next s' ∧
        s'.getW (uRly.addr rly_RLFRNUM_NUM.off) = w.getD 1 0 ∧
        s'.get uRly rly_RLAPPLY_STAMP = (s.at t).stamp ∧
        s'.get uSrv srv_SVSTAT_PRIMED = 1 ∧
        s'.pair.appliedAt = some (s.at t).tick) ∧
  (∀ (t : Nat) (w : List Word) (s : State),
      s.inMode .shadow = true →
      s.get uRly rly_RLSTAT_TRAINED = 1 →
      s.enabled uRly = true →
      s.pair.take = none →
      ¬ (7 ≤ w.length ∧ w.getD (w.length - 1) 0 = crc32 ((w.take (w.length - 1)).flatMap wordBytes) ∧ w.getD 0 0 = BitVec.ofNat 32 (0xA7010000
          + w.length % 65536)) →
      ∃ s', exec (.rallyFrameReceive t w) s = .next s' ∧
        s'.get uRly rly_RLCRC_COUNT = (s.get uRly rly_RLCRC_COUNT + 1) % 2 ^ (rly_RLCRC_COUNT).w ∧
        s'.evBit uRly 2 = true ∧
        s'.pair.appliedAt = s.pair.appliedAt ∧
        s'.mem = s.mem)

/-- Takeover, handover and their ends. R495 to R499: TAKEOVER_GUARD_END, TAKEOVER_ENTRY, OFFER_MESSAGE, HANDOVER_TAKE,
SERVE_IN_RISE, HANDOVER_DEADLINE. -/
def Obligations.TakeoverAndHandover : Prop :=
  (∀ (t : Nat) (k : Nat × Nat × Nat) (s : State),
      s.pair.take = some k →
      (s.at t).due (k.2.1 + 3960) = true →
      ∃ s', exec (.takeoverGuardEnd t) s = .next s' ∧
        s'.pair.guardOver = true ∧
        s'.pair.take = some k ∧
        s'.regs = s.regs ∧
        (∀ a, s'.byte a = s.byte a)) ∧
  (∀ (t : Nat) (k : Nat × Nat × Nat) (s : State),
      s.pair.take = some k →
      (k.1 = 1 ∨ k.1 = 2) →
      s.inMode .shadow = true →
      s.pair.guardOver = true →
      (s.at t).takeNow (k.2.1 + 3960) = true →
      s.pair.units = [] →
      s.pair.drill = 0 →
      s.get uSrv srv_SVSTAT_SERVEI = 0 →
      s.get uSrv srv_SVCFG_PAIREN = 1 →
      ∃ s', exec (.takeoverEntry t) s = .next s' ∧
        s'.inMode .run = true ∧
        s'.get uSys sys_MODESTAT_ENTRY = 2 ∧
        s'.get uSrv srv_SVSTAT_TOKEN = 1 ∧
        s'.get uSrv srv_SVSTAT_AUTH = 1 ∧
        s'.get uSrv srv_TKCNT_COUNT = (s.get uSrv srv_TKCNT_COUNT + 1) % 2 ^ (srv_TKCNT_COUNT).w ∧
        s'.get uSrv srv_TKSTAT_TRIG = k.1 ∧
        s'.get uSrv srv_TKSTAMP_STAMP = k.2.2 % 2 ^ 32 ∧
        s'.get uSrv srv_TKDUR_TICKS = ((s.at t).tick - k.2.1) % 2 ^ srv_TKDUR_TICKS.w ∧
        s'.pair.take = none ∧
        s'.evBit uSrv 0 = true) ∧
  (∀ (t : Nat) (w0 : Word) (w1 : Word) (w2 : Word) (w3 : Word) (s : State),
      s.hears = true →
      goodMsg 3 w0 w1 w2 w3 = true →
      s.inMode .shadow = true →
      s.pair.take = none →
      s.armed 3 = true →
      (s.at t).primed = true →
      s.get uSrv srv_SVSTAT_PRI ≠ bits w0 18 1 →
      w0.getLsbD 20 = false →
      s.pair.units = [] →
      s.pair.offerV = none →
      ∃ s', exec (.offerMessage t w0 w1 w2 w3) s = .next s' ∧
        s'.pair.offerV = some ((s.at t).tick + unsigned 32 ((w2.toNat : Int) - (s.at t).stamp)) ∧
        s'.inMode .run = true) ∧
  (∀ (t : Nat) (v : Nat) (s : State),
      s.pair.offerV = some v →
      s.inMode .run = true →
      (s.at t).due v = true →
      s.pair.drill = 0 →
      ∃ s', exec (.handoverTake t) s = .next s' ∧
        s'.pair.offerV = none ∧
        s'.get uSrv srv_SVSTAT_TOKEN = 1 ∧
        s'.get uSrv srv_SVSTAT_AUTH = 1 ∧
        s'.get uSrv srv_SVSEQ_SEQ = (max (s.get uSrv srv_SVSEQ_SEQ) (s.get uSrv srv_SVPSEQ_SEQ) + 1) % 2 ^ 32 ∧
        s'.mem = s.mem ∧
        s.keeps s' [uSrv.addr srv_SVSTAT_TOKEN.off, uSrv.addr srv_SVSTAT_AUTH.off, uSrv.addr srv_SVSEQ_SEQ.off]) ∧
  (∀ (t : Nat) (v : Nat) (s : State),
      s.pair.release = some v →
      s.pair.drill = 0 →
      s.get uSrv srv_SVCFG_PAIREN = 1 →
      ∃ s', exec (.serveInRise t) s = .next s' ∧
        s'.get uSrv srv_SVSTAT_SERVEI = 1 ∧
        s'.get uSrv srv_SVSTAT_TOKEN = 0 ∧
        s'.get uSrv srv_SVSTAT_AUTH = 0 ∧
        s'.inMode .shadow = true ∧
        s'.pair.release = none ∧
        s'.evBit uSrv 6 = true) ∧
  (∀ (t : Nat) (s : State),
      s.pair.release = none →
      s.inMode .safeHold = false →
      s.get uSrv srv_SVSTAT_AUTH = 1 →
      s.get uSrv srv_SVSTAT_TOKEN = 1 →
      s.pair.cont = none →
      ∃ s', exec (.serveInRise t) s = .next s' ∧
        s'.get uSrv srv_SVSTAT_SERVEI = 1 ∧
        s'.get uSrv srv_SVSTAT_CONT = 1 ∧
        s'.pair.cont = some ((s.at t).tick - 3) ∧
        s'.get uSrv srv_CONTCNT_COUNT = (s.get uSrv srv_CONTCNT_COUNT + 1) % 2 ^ (srv_CONTCNT_COUNT).w ∧
        s'.evBit uSrv 2 = true ∧
        (∀ a, s'.byte a = s.byte a)) ∧
  (∀ (t : Nat) (v : Nat) (s : State),
      s.pair.release = some v →
      s.pair.drill = 0 →
      (s.at t).due (v + 40) = true →
      ∃ s', exec (.handoverDeadline t) s = .next s' ∧
        s'.pair.release = none ∧
        (s.get uSys sys_MODESTAT_TRANS = 1 → s'.get uSys sys_MODERES_ABORTED = 1 ∧ s'.get uSys sys_MODESTAT_TRANS = 0 ∧ (s.get uSys sys_MODERES_CAUSE
            = 0 → s'.get uSys sys_MODERES_CAUSE = 6)) ∧
        s'.get uSrv srv_SVSTAT_TOKEN = s.get uSrv srv_SVSTAT_TOKEN ∧
        s'.mem = s.mem)

/-- Contention is decided by claim, priority and time, and a readback failure gives the serve up. R477, R501:
CONTENTION_DECISION, CONTENTION_BACKSTOP, CONTENTION_LIMIT, READBACK_FAILURE. -/
def Obligations.ContentionAndReadback : Prop :=
  (∀ (t : Nat) (c : Nat) (s : State),
      s.pair.cont = some c →
      (s.at t).due (c + 40) = true →
      ∃ s', exec (.contentionDecision t false) s = .next s' ∧
        s'.pair.cont = none ∧
        s'.get uSrv srv_SVSTAT_CONT = 0 ∧
        s'.get uSrv srv_SVSTAT_SERVEI = 0 ∧
        s'.get uSrv srv_SVSTAT_TOKEN = s.get uSrv srv_SVSTAT_TOKEN ∧
        s'.mem = s.mem) ∧
  (∀ (t : Nat) (c : Nat) (s : State),
      s.pair.cont = some c →
      (s.at t).due (c + 40) = true →
      s.inMode .run = true →
      s.get uSrv srv_SVCFG_PAIREN = 1 →
      (s.at t).losesClaim = true →
      ∃ s', exec (.contentionDecision t true) s = .next s' ∧
        s'.get uSrv srv_SVSTAT_TOKEN = 0 ∧
        s'.get uSrv srv_SVSTAT_CONT = 0 ∧
        s'.pair.cont = none ∧
        s'.inMode .shadow = true ∧
        s'.evBit uSrv 3 = true) ∧
  (∀ (t : Nat) (c : Nat) (s : State),
      s.pair.cont = some c →
      (s.at t).due (c + 72) = true →
      ∃ s', exec (.contentionBackstop t false) s = .next s' ∧
        s'.pair.cont = none ∧
        s'.get uSrv srv_SVSTAT_CONT = 0 ∧
        s'.get uSrv srv_SVSTAT_SERVEI = 0 ∧
        s'.get uSrv srv_SVSTAT_TOKEN = s.get uSrv srv_SVSTAT_TOKEN ∧
        s'.mem = s.mem) ∧
  (∀ (t : Nat) (c : Nat) (s : State),
      s.pair.cont = some c →
      (s.at t).due (c + 72) = true →
      s.inMode .run = true →
      s.get uSrv srv_SVCFG_PAIREN = 1 →
      (s.get uSrv srv_SVSTAT_PRI = 0 ∨ s.get uSrv srv_SVSTAT_PRICONF = 1) →
      ∃ s', exec (.contentionBackstop t true) s = .next s' ∧
        s'.get uSrv srv_SVSTAT_TOKEN = 0 ∧
        s'.get uSrv srv_SVSTAT_CONT = 0 ∧
        s'.pair.cont = none ∧
        s'.inMode .shadow = true ∧
        s'.evBit uSrv 3 = true) ∧
  (∀ (t : Nat) (c : Nat) (s : State),
      s.pair.cont = some c →
      (s.at t).due (c + 400) = true →
      ∃ s', exec (.contentionLimit t false) s = .next s' ∧
        s'.pair.cont = none ∧
        s'.get uSrv srv_SVSTAT_CONT = 0 ∧
        s'.get uSrv srv_SVSTAT_SERVEI = 0 ∧
        s'.get uSrv srv_SVSTAT_TOKEN = s.get uSrv srv_SVSTAT_TOKEN ∧
        s'.mem = s.mem) ∧
  (∀ (t : Nat) (c : Nat) (s : State),
      s.pair.cont = some c →
      (s.at t).due (c + 400) = true →
      s.inMode .run = true →
      s.get uSrv srv_SVCFG_PAIREN = 1 →
      ∃ s', exec (.contentionLimit t true) s = .next s' ∧
        s'.get uSrv srv_SVSTAT_TOKEN = 0 ∧
        s'.get uSrv srv_SVSTAT_CONT = 0 ∧
        s'.pair.cont = none ∧
        s'.inMode .shadow = true ∧
        s'.evBit uSrv 3 = true ∧
        s'.get uSrv srv_SVSTAT_PRICONF = 1 ∧
        s'.evBit uSrv 9 = true) ∧
  (∀ (t : Nat) (s : State),
      s.sel uSrv 0 = 0 →
      ∃ s', exec (.readbackFailure t) s = .next s' ∧
        s'.get uSrv srv_SVSTAT_TOKEN = 0 ∧
        s'.get uSrv srv_SVSTAT_AUTH = 0 ∧
        s'.pair.cont = none ∧
        s'.pair.flt = true ∧
        s'.get uSrv hdr_USTAT_OWNF = 1 ∧
        s'.evBit uSrv 8 = true)

/-- Safety requests and their causes, safe torque off, and the safety functions on speed. R512, R513, R516: SHCMD_REQUEST and
SHCMD_CLEAR. R517, R519: STO_INPUT_CHANGE, STO_SOFT_RELEASE, STO_DISCREPANCY. R522 to R527: SAFETY_SAMPLE,
SAFETY_EVALUATION, SFCMD_WRITE, SLS_DECEL_END, SS1_TIMEOUT. -/
def Obligations.SafetyFunctionsAndSto : Prop :=
  (∀ (t : Nat) (s : State),
      s.serves uSsv 0x8C →
      s.get uSsv ssv_SHFIRST_VALID = 0 →
      s.stmode = false →
      ∃ s', exec (.shcmdRequest t) s = .next s' ∧
        (s'.get uSsv ssv_SHCAUSE_CAUSE).testBit 15 = true ∧
        s'.get uSsv ssv_SHCNT_COUNT = (s.get uSsv ssv_SHCNT_COUNT + 1) % 2 ^ (ssv_SHCNT_COUNT).w ∧
        s'.get uSsv ssv_SHFIRST_VALID = 1 ∧
        s'.get uSsv ssv_SHFIRST_CAUSE = 15 ∧
        s'.get uSsv ssv_SHSTAMP_STAMP = (s.at t).stamp ∧
        s'.evBit uSsv 0 = true ∧
        (s.inMode .calibrate = true ∨ s.inMode .ready = true ∨ s.inMode .run = true ∨ s.inMode .shadow = true ∨ s.inMode .discharge
            = true → s'.inMode .safeHold = true ∧ s'.get uSys sys_MODESTAT_ENTRY = 1) ∧
        (s.inMode .config = true ∨ s.inMode .safeHold = true → s'.get uSys sys_MODESTAT_MODE = s.get uSys sys_MODESTAT_MODE)) ∧
  (∀ (t : Nat) (k : Nat) (s : State),
      s.serves uSsv 0x8C →
      k < 16 →
      ∃ s', exec (.shcmdClear t) s = .next s' ∧
        (s'.get uSsv ssv_SHCAUSE_CAUSE).testBit k = ((s.get uSsv ssv_SHCAUSE_CAUSE).testBit k && !(s.at t).causeGone k) ∧
        (∀ a, s'.byte a = s.byte a)) ∧
  (∀ (t : Nat) (x : Bool) (y : Bool) (s : State),
      s.inD4 = false →
      s.get uSsv ssv_STOCFG_MODE = 0 →
      (x && y) = false →
      s.stoIn = false →
      s.get uSsv ssv_STOSTAT_INT = 0 →
      s.get uSsv ssv_STOSTAT_ACTIVE = 0 →
      ∃ s', exec (.stoInputChange t x y) s = .next s' ∧
        s'.stoIn = true ∧
        s'.get uSsv ssv_STOSTAT_ACTIVE = 1 ∧
        s'.stoSoft = true ∧
        (s'.get uSsv ssv_SHCAUSE_CAUSE).testBit 0 = true ∧
        (s'.get uSsv ssv_STOSTAT_INA = if x then 1 else 0) ∧
        (s'.get uSsv ssv_STOSTAT_INB = if y then 1 else 0) ∧
        (s'.get uSsv ssv_STOSTAT_DISC = if x = y then 0 else 1)) ∧
  (∀ (t : Nat) (s : State),
      s.inD4 = false →
      s.get uSsv ssv_STOCFG_MODE = 0 →
      s.stoIn = true →
      s.get uSsv ssv_STOSTAT_INT = 0 →
      s.get uSsv ssv_STOSTAT_ACTIVE = 1 →
      ∃ s', exec (.stoInputChange t true true) s = .next s' ∧
        s'.stoIn = false ∧
        s'.get uSsv ssv_STOSTAT_ACTIVE = 0 ∧
        s'.stoSoft = false ∧
        s'.get uSsv ssv_SHCAUSE_CAUSE = s.get uSsv ssv_SHCAUSE_CAUSE) ∧
  (∀ (t : Nat) (s : State),
      (s.at t).dueOff (s.stoSoftAt + s.stoSoftTime) = true →
      ∃ s', exec (.stoSoftRelease t) s = .next s' ∧
        s'.stoSoft = false ∧
        s'.regs = s.regs ∧
        (∀ a, s'.byte a = s.byte a)) ∧
  (∀ (t : Nat) (s : State),
      s.get uSsv ssv_STOSTAT_DISC = 1 →
      (s.at t).due (s.stoDiff + ms (atLeast1 (s.get uSsv ssv_STOCFG_DISC))) = true →
      ∃ s', exec (.stoDiscrepancy t) s = .next s' ∧
        s'.stoDisc = true ∧
        (s'.get uSsv ssv_SHCAUSE_CAUSE).testBit 1 = true) ∧
  (∀ (t : Nat) (s : State),
      s.sfkRuns = true →
      s.locked = true →
      (s.at t).tick % 20000 = 0 →
      s.sfk.sampled ≠ some (s.at t).tick →
      s.badParity = [] →
      ∃ s', exec (.safetySample t) s = .next s' ∧
        s'.get uSfk sfk_SFSPD_V = min (max ((atLeast1 (s.get uSfk sfk_SPDMUL_MULA) : Int) * lo16 (s.sig (s.get uSfk sfk_SPDSRC_SIGA))).natAbs ((atLeast1 (s.get uSfk sfk_SPDMUL_MULB) : Int) * lo16 (s.sig (s.get uSfk sfk_SPDSRC_SIGB))).natAbs) 0x7FFF ∧
        s'.sfk.vs = ((max ((atLeast1 (s.get uSfk sfk_SPDMUL_MULA) : Int) * lo16 (s.sig (s.get uSfk sfk_SPDSRC_SIGA))).natAbs ((atLeast1 (s.get uSfk sfk_SPDMUL_MULB) : Int) * lo16 (s.sig (s.get uSfk sfk_SPDSRC_SIGB))).natAbs) :: s.sfk.vs).take 64) ∧
  (∀ (t : Nat) (m : Nat) (s : State),
      s.sfkRuns = true →
      s.locked = true →
      (s.at t).tick % 80000 = 0 →
      s.sfk.sampled = some (s.at t).tick →
      s.sfk.evaluated ≠ some (s.at t).tick →
      clamp 1 64 (s.get uSfk sfk_SFCFG_M) = m →
      ∃ s', exec (.safetyEvaluation t) s = .next s' ∧
        s'.get uSfk sfk_SFSPD_MEAN = min ((s.sfk.vs.take m).foldl (· + ·) 0 / m) 0x7FFF) ∧
  (∀ (t : Nat) (w : Word) (s : State),
      w.extractLsb' 16 16 = ~~~ (w.extractLsb' 0 16) →
      bits w 8 8 = 0 →
      bits w 3 1 = 0 →
      s.calm →
      s.unheld uSfk →
      s.idlePort 1 →
      s.sfkRuns = false →
      ∃ s', exec (.sfcmdWrite t 1 w 15) s = .next s' ∧
        s'.getW (uSfk.addr 0x80) = w ∧
        (s'.get uSfk sfk_SFSTAT_SDION = if s'.sdiOn then 1 else 0) ∧
        (s'.get uSfk sfk_SFSTAT_SLPON = if s'.slpOn then 1 else 0)) ∧
  (∀ (t : Nat) (w : Word) (s : State),
      (w.extractLsb' 16 16 ≠ ~~~ (w.extractLsb' 0 16) ∨ bits w 8 8 ≠ 0 ∨ bits w 3 1 ≠ 0) →
      s.calm →
      s.unheld uSfk →
      s.idlePort 1 →
      ∃ s', exec (.sfcmdWrite t 1 w 15) s = .next s' ∧
        s'.getW (uSfk.addr 0x80) = s.getW (uSfk.addr 0x80) ∧
        s'.evBit uSfk 3 = true ∧
        s'.get uSys sys_ACCERR_ERR = 1 ∧
        (s.get uSys sys_ACCERR_ERR = 0 → s'.get uSys sys_ACCERR_CAUSE = 3 ∧ s'.get uSys sys_ACCERR_PORT = 1) ∧
        (∀ a, s'.byte a = s.byte a)) ∧
  (∀ (t : Nat) (k : Nat) (s : State),
      k ≤ 4 →
      s.get uSfk sfk_SFSTAT_DECRUN = 1 →
      s.sfk.decTo = k →
      (s.at t).due s.sfk.decEnd = true →
      ∃ s', exec (.slsDecelEnd t) s = .next s' ∧
        s'.get uSfk sfk_SFSTAT_SLSSEL = k ∧
        s'.get uSfk sfk_SFSTAT_DECRUN = 0 ∧
        s'.evBit uSfk 5 = true ∧
        (∀ a, s'.byte a = s.byte a) ∧
        s.keepsRegs s' ([uSfk.addr sfk_SFSTAT_SLSSEL.off, uSfk.addr sfk_SFSTAT_DECRUN.off, uSfk.addr 0x10] ++ routerWords)) ∧
  (∀ (t : Nat) (s : State),
      s.get uSfk sfk_SFSTAT_SS1PH = 1 →
      (s.at t).due (s.sfk.ss1At + ms (atLeast1 (s.get uSfk sfk_SS1T_TIME))) = true →
      ∃ s', exec (.ss1Timeout t) s = .next s' ∧
        s'.get uSfk sfk_SFSTAT_SS1PH = 2 ∧
        s'.get uSsv ssv_STOSTAT_INT = 1 ∧
        s'.evBit uSfk 4 = true ∧
        (s'.get uSsv ssv_SHCAUSE_CAUSE).testBit 2 = true)

/-- The VCORE monitor, the supply monitors, the timebase monitor and the loss of diagnostics. R66, R535 to R537:
VCORE_CROSSING, VCMEAS_SAMPLE, SUPPLY_TRIP, SUPPLY_RETURN, TIMEBASE_MONITOR_WINDOW, DIAGNOSTIC_LOSS_TIMEOUT. -/
def Obligations.SupplyAndTimebaseMonitors : Prop :=
  (∀ (t : Nat) (mv : Nat) (s : State),
      s.boot = .done →
      700 ≤ s.vcore →
      s.vcore ≤ 860 →
      (860 < mv ∨ mv < 700) →
      ∃ s', exec (.vcoreCrossing t mv) s = .next s' ∧
        s'.vcore = mv ∧
        (860 < mv → s'.get uVmon vmon_VCSTAT_OVTRIP = 1) ∧
        (mv < 700 → s'.get uVmon vmon_VCSTAT_UVTRIP = 1 ∧ s'.get uVmon vmon_VCSTAT_UVWARN = 1) ∧
        (s'.get uSsv ssv_SHCAUSE_CAUSE).testBit 4 = true) ∧
  (∀ (t : Nat) (mv : Nat) (s : State),
      s.boot = .done →
      700 ≤ mv →
      mv ≤ 860 →
      ∃ s', exec (.vcoreCrossing t mv) s = .next s' ∧
        s'.vcore = mv ∧
        (s'.get uVmon vmon_VCSTAT_UVWARN = if mv < clamp 705 800 (s.get uVmon vmon_VCWARN_MV) then 1 else 0) ∧
        s'.get uSsv ssv_SHCAUSE_CAUSE = s.get uSsv ssv_SHCAUSE_CAUSE ∧
        (∀ a, s'.byte a = s.byte a)) ∧
  (∀ (t : Nat) (mv : Nat) (s : State),
      s.locked = true →
      (s.at t).tick % 4000 = 0 →
      ∃ s', exec (.vcmeasSample t mv) s = .next s' ∧
        s'.get uVmon vmon_VCMEAS_MV = min mv 1023 ∧
        (∀ a, a ≠ uVmon.addr vmon_VCMEAS_MV.off → s'.getW a = s.getW a) ∧
        (∀ a, s'.byte a = s.byte a)) ∧
  (∀ (t : Nat) (i : Nat) (s : State),
      i < 5 →
      s.boot = .done →
      ∃ s', exec (.supplyTrip t i) s = .next s' ∧
        (s'.get uDgk dgk_DGSTAT_SUPPLY).testBit i = true ∧
        (s'.get uSsv ssv_SHCAUSE_CAUSE).testBit 5 = true ∧
        s'.get uDgk hdr_USTAT_OWNF = 1) ∧
  (∀ (t : Nat) (i : Nat) (s : State),
      i < 5 →
      ∃ s', exec (.supplyReturn t i) s = .next s' ∧
        (s'.get uDgk dgk_DGSTAT_SUPPLY).testBit i = false ∧
        (∀ a, a ≠ uDgk.addr dgk_DGSTAT_SUPPLY.off → s'.getW a = s.getW a) ∧
        (∀ a, s'.byte a = s.byte a)) ∧
  (∀ (t : Nat) (n : Nat) (s : State),
      n < 1200 →
      (s.at t).due (s.tbWin + 40000) = true →
      ((n : Int) - 800).natAbs * 1000 ≤ 800 * s.get uDgk dgk_DGCFG_TBTOL →
      ∃ s', exec (.timebaseMonitorWindow t n) s = .next s' ∧
        s'.get uDgk dgk_TBMCNT_COUNT = n ∧
        s'.tbBad = 0 ∧
        s'.get uDgk dgk_TBMERR_COUNT = s.get uDgk dgk_TBMERR_COUNT ∧
        (∀ a, s'.byte a = s.byte a)) ∧
  (∀ (t : Nat) (n : Nat) (s : State),
      (800 * s.get uDgk dgk_DGCFG_TBTOL < ((n : Int) - 800).natAbs * 1000 ∨ 1200 ≤ n) →
      (1200 ≤ n ∨ (s.at t).due (s.tbWin + 40000) = true) →
      ∃ s', exec (.timebaseMonitorWindow t n) s = .next s' ∧
        s'.get uDgk dgk_TBMCNT_COUNT = min n 65535 ∧
        s'.get uDgk dgk_TBMERR_COUNT = (s.get uDgk dgk_TBMERR_COUNT + 1) % 2 ^ (dgk_TBMERR_COUNT).w ∧
        (s.tbBad + 1 = clamp 1 4 (s.get uDgk dgk_DGCFG_TBN) → (s'.get uSsv ssv_SHCAUSE_CAUSE).testBit 6 = true ∧ s'.get uDgk hdr_USTAT_OWNF
            = 1)) ∧
  (∀ (t : Nat) (k : Nat) (s : State),
      1 ≤ k →
      k < 3 →
      (s.get uDgk dgk_DGSTAT_LOSS).testBit k = true →
      s.get uDgk dgk_DGLT_PAIR ≠ 0 →
      ((s.at t).due (sget (fun _ => 0) s.lossAt k + ms (s.get uDgk dgk_DGLT_PAIR)) = true) →
      ∃ s', exec (.diagnosticLossTimeout t k) s = .next s' ∧
        (s'.get uSsv ssv_SHCAUSE_CAUSE).testBit 12 = true ∧
        s'.get uDgk hdr_USTAT_OWNF = 1) ∧
  (∀ (t : Nat) (s : State),
      (s.get uDgk dgk_DGSTAT_LOSS).testBit 0 = true →
      s.get uDgk dgk_DGLT_LANE ≠ 0 →
      ((s.at t).due (sget (fun _ => 0) s.lossAt 0 + ms (60000 * s.get uDgk dgk_DGLT_LANE)) = true) →
      ∃ s', exec (.diagnosticLossTimeout t 0) s = .next s' ∧
        (s'.get uSsv ssv_SHCAUSE_CAUSE).testBit 12 = true ∧
        s'.get uDgk hdr_USTAT_OWNF = 1)

/-- Safe outputs: command, readback, overload and tests. R531 to R534: SAFE_OUTPUT_COMMAND_CHANGE,
SAFE_OUTPUT_READBACK_SAMPLE, SAFE_OUTPUT_OVERLOAD, SAFE_OUTPUT_TEST_DUE, SAFE_OUTPUT_TEST_TIMEOUT, TESTALL. -/
def Obligations.SafeOutputs : Prop :=
  (∀ (t : Nat) (k : Nat) (on : Bool) (s : State),
      k < 8 →
      s.serves (uSo k) 0x44 →
      ∃ s', exec (.safeOutputCommandChange t k on) s = .next s' ∧
        (s'.get (uSo k) so_SOCTL_ON = if on then 1 else 0) ∧
        s'.mem = s.mem) ∧
  (∀ (t : Nat) (k : Nat) (x : Bool) (y : Bool) (s : State),
      k < 8 →
      (s.at t).soSampleDue k = true →
      (s.so k).phase = 0 →
      (s.enabled (uSo k) = false ∨ s.get (uSo k) so_SOSTAT_FLT = 1 ∨ (s.so k).bad < 7) →
      ∃ s', exec (.safeOutputReadbackSample t k x y) s = .next s' ∧
        (s'.get (uSo k) so_SOSTAT_RBH = if x then 1 else 0) ∧
        (s'.get (uSo k) so_SOSTAT_RBL = if y then 1 else 0) ∧
        s'.get (uSo k) so_SOSTAT_FLT = s.get (uSo k) so_SOSTAT_FLT ∧
        (∀ a, s'.byte a = s.byte a)) ∧
  (∀ (t : Nat) (k : Nat) (s : State),
      k < 8 →
      s.enabled (uSo k) = true →
      s.get (uSo k) so_SOSTAT_FLT = 0 →
      s.sel (uSo k) 0 = 0 →
      ∃ s', exec (.safeOutputOverload t k) s = .next s' ∧
        s'.get (uSo k) so_SOSTAT_FLT = 1 ∧
        s'.get (uSo k) hdr_USTAT_OWNF = 1 ∧
        s'.get (uSo k) so_SOFC_VALID = 1 ∧
        (s.get (uSo k) so_SOFC_VALID = 0 → s'.get (uSo k) so_SOFC_CAUSE = 6) ∧
        s'.evBit (uSo k) 0 = true) ∧
  (∀ (t : Nat) (k : Nat) (p : Nat) (s : State),
      k < 8 →
      (s.so k).phase = 2 →
      (s.so k).testAt = p →
      (s.at t).due (p + 4000000) = true →
      ∃ s', exec (.safeOutputTestDue t k) s = .next s' ∧
        (s'.so k).phase = 3 ∧
        (s'.so k).testAt = (s.at t).tick ∧
        (s'.so k).good = 0 ∧
        s.keeps s' [(uSo k).addr so_SOSTAT_FLT.off] ∧
        (∀ a, s'.byte a = s.byte a)) ∧
  (∀ (t : Nat) (k : Nat) (p : Nat) (s : State),
      k < 8 →
      (s.so k).phase = 1 →
      (s.so k).testAt = p →
      (s.at t).due (p + us (clamp 40 300 (s.get uSos sos_SOTCFG_TPW))) = true →
      s.get (uSo k) so_SOSTAT_RBH = 1 →
      s.sel (uSo k) 0 = 0 →
      ∃ s', exec (.safeOutputTestTimeout t k) s = .next s' ∧
        s'.get (uSo k) so_SOSTAT_FLT = 1 ∧
        (s.get (uSo k) so_SOFC_VALID = 0 → s'.get (uSo k) so_SOFC_CAUSE = 1) ∧
        s'.evBit (uSo k) 0 = true) ∧
  (∀ (t : Nat) (s : State),
      s.serves uSos 0x84 →
      s.get uSos sos_SOTCMD_TESTALL = 0 →
      s.inMode .ready = false →
      s.inMode .run = false →
      ∃ s', exec (.testall t) s = .next s' ∧
        s'.get uSos sos_SOTRES_REFUSED = 1 ∧
        (s.get uSos sos_SOTRES_CAUSE = 0 → s'.get uSos sos_SOTRES_CAUSE = 1) ∧
        s'.get uSos sos_SOTCMD_TESTALL = 0 ∧
        s'.mem = s.mem ∧
        s.keepsRegs s' [uSos.addr sos_SOTRES_REFUSED.off, uSos.addr sos_SOTRES_CAUSE.off, uSos.addr sos_SOTCMD_TESTALL.off]) ∧
  (∀ (t : Nat) (k : Nat) (s : State),
      s.serves uSos 0x84 →
      k < 8 →
      s.get uSos sos_SOTCMD_TESTALL = 0 →
      (s.inMode .ready = true ∨ s.inMode .run = true) →
      (∀ j ∈ List.range 8, (s.so j).phase = 0 ∧ (s.so j).due = false ∧ (s.so j).batch = false) →
      s.soEligible k = true →
      (∀ j ∈ List.range k, s.soEligible j = false) →
      ∃ s', exec (.testall t) s = .next s' ∧
        s'.get uSos sos_SOTCMD_TESTALL = 1 ∧
        (s'.so k).phase = 1 ∧
        (s'.so k).testAt = (s.at t).tick ∧
        (s'.so k).batch = true ∧
        s'.testFail = false ∧
        s.keeps s' [uSos.addr sos_SOTCMD_TESTALL.off, (uSo k).addr so_SOSTAT_FLT.off] ∧
        s'.mem = s.mem) ∧
  (∀ (t : Nat) (s : State),
      s.serves uSos 0x84 →
      s.get uSos sos_SOTCMD_TESTALL = 0 →
      (s.inMode .ready = true ∨ s.inMode .run = true) →
      (∀ j ∈ List.range 8, (s.so j).phase = 0 ∧ (s.so j).batch = false ∧ s.soEligible j = false) →
      ∃ s', exec (.testall t) s = .next s' ∧
        s'.get uSos sos_SOTCMD_TESTALL = 0 ∧
        s'.get uSos sos_SOTRES_DONE = 1 ∧
        s'.mem = s.mem ∧
        s.keepsRegs s' [uSos.addr sos_SOTCMD_TESTALL.off, uSos.addr sos_SOTRES_DONE.off])

/-- A loss instant adds its energies, and a thermal instant forms the junction temperature. R551 to R554: LOSS_INSTANT and
THERMAL_INSTANT. -/
def Obligations.ThermalInstants : Prop :=
  (∀ (t : Nat) (k : Nat) (h : Nat) (n : Nat) (s : State),
      k < 24 →
      s.lossWorks = true →
      s.get uLoss (loss_SLCFG_EN k) = 1 →
      s.badParity = [] →
      (s.at t).lossTick (s.get uLoss (loss_SLCFG_STAGE k)) = true →
      ∃ s', exec (.lossInstant t k h n) s = .next s' ∧
        (s'.slot k).a1 = (s.slot k).a1 + h * ((lo16 (s.sig (s.get uLoss (loss_SLCFG_ISIG k)))).natAbs : Int) ∧
        (s'.slot k).a2 = (s.slot k).a2 + h * ((lo16 (s.sig (s.get uLoss (loss_SLCFG_ISIG k)))).natAbs : Int) * ((lo16 (s.sig (s.get uLoss (loss_SLCFG_ISIG k)))).natAbs : Int) ∧
        (s'.slot k).a3 = (s.slot k).a3 + n * ((lo16 (s.sig (s.get uLoss (loss_SLCFG_ISIG k)))).natAbs : Int) * lo16 (s.sig (s.get uLoss (loss_SLSIG_VSIG k))) ∧
        (∀ a, s'.byte a = s.byte a)) ∧
  (∀ (t : Nat) (k : Nat) (dl : Nat) (s : State),
      k < 24 →
      s.lossWorks = true →
      s.runsMode = true →
      s.slotsOn = [k] →
      s.thermDue = some (7, dl) →
      dl ≠ 0 →
      (s.at t).due 7 = true →
      s.badParity = [] →
      ∃ s', exec (.thermalInstant t) s = .next s' ∧
        (s'.slotTj k = satQ15 (lo16 (s.sig (s.get uLoss (loss_SLSIG_NTCSIG k))) + roundDiv (((s.slot k).temp.zipIdx.map fun x => fosterStep (s.get uLoss (loss_FOST_RTH k x.2)) (s.get uLoss (loss_FOST_ALPHA k x.2)) (s.slotPower k dl) x.1).foldl (·
            + ·) 0) 65536)) ∧
        ((s'.slot k).temp = ((s.slot k).temp.zipIdx.map fun x => fosterStep (s.get uLoss (loss_FOST_RTH k x.2)) (s.get uLoss (loss_FOST_ALPHA k x.2)) (s.slotPower k dl) x.1)) ∧
        (s'.slot k).a1 = 0 ∧
        s'.geti uThm thm_THSTAT_TJMAX = s'.slotTj k ∧
        s'.get uThm thm_THSTAT_TJMAXSLOT = k ∧
        s'.thermDue = none)

/-- A step takes the command at the front of the queue and runs it on the rest of the queue. Commands are taken first in,
first out: the front of the queue runs, and what waits behind it stays. The queue is the model's own (log entry 4). -/
def Obligations.StepRunsFront : Prop :=
  ∀ (c : Instr) (rest : List Instr) (s : State), s.pending = c :: rest → step s = exec c { s with pending := rest }

/-- On an empty queue the block idles (the model's choice, log entry 4). The model's choice (log entry 4): with no command
waiting nothing happens. -/
def Obligations.EmptyQueueIdles : Prop :=
  ∀ (s : State), s.pending = [] → step s = .next s

/-- Every command goes on, on every state and operands, but for an access to the test pages under test access. No command is
refused or faults where the spec gives an effect. The test pages are mapped only under test access (R586), and the spec
gives no word of them. -/
def Obligations.CommandsGoOn : Prop :=
  ∀ (c : Instr) (s : State), (s.testAccess = false → goesOn (exec c s)) ∧ (goesOn (exec c s) ∨ exec c s = .refused .testPages)

/-- No command changes the queue of commands that wait. exec changes everything but the queue: a device reset and the
configuration reset too, which rebuild all else. -/
def Obligations.CommandsKeepQueue : Prop :=
  ∀ (c : Instr) (s s' : State), exec c s = .next s' → s'.pending = s.pending

/-- The commands that store nothing leave every byte of the pool and of table memory as it was. R33, R39: the pool and table
memory are written by host writes, by ring, record and message deliveries and by corrections alone. -/
def Obligations.MemoryFrame : Prop :=
  (∀ (c : Instr) (s s' : State), storesNothing c = true → exec c s = .next s' → ∀ a, s'.byte a = s.byte a) ∧
  (∀ (c : Instr) (s s' : State), storesAfterReset c = true → (∀ u ∈ allUnits, s.on u hdr_UCTL_URST = false) →
    s.idlePort 0 → s.idlePort 1 → exec c s = .next s' → ∀ a, s'.byte a = s.byte a)

/-- Every step keeps the stored form of memory and registers. So that equal contents are equal data: every write of a word of
a unit and of a byte of memory keeps the stored form, a reset and a wake of the memories included. -/
def Obligations.StepKeepsInv : Prop :=
  ∀ (s s' : State), s.Inv → step s = .next s' → s'.Inv

/-- The stored form holds at reset. The start of StepKeepsInv. -/
def Obligations.InvAtReset : Prop :=
  State.reset.Inv

/-- What stands after a power-on reset. R583, R584, R588. That State.reset is the state just after a power-on release is the
model's choice (log entry 2). -/
def Obligations.ResetValues : Prop :=
  (∀ a, a ≠ uSys.addr sys_MODESTAT_MODE.off → a ≠ uSys.addr sys_RSTSTAT_CAUSE.off → State.reset.getW a = resetWordAt a) ∧
  State.reset.get uSys sys_MODESTAT_MODE = 1 ∧ State.reset.get uSys sys_MODESTAT_TRANS = 1 ∧
  State.reset.get uSys sys_RSTSTAT_CAUSE = 1 ∧ State.reset.get uSys sys_RSTSTAT_MEMKEPT = 0 ∧
  State.reset.get uSrv srv_SVSEQ_SEQ = 0 ∧ State.reset.get uSrv srv_DRELAPSE_SECONDS = 2 ^ 32 - 1 ∧
  State.reset.get uTbk tbk_TBSTAT_BANKOK = 0 ∧ State.reset.get ⟨.tbase, 0⟩ tb_TBSTAT_LOCK = 0 ∧
  (∀ a, State.reset.byte a = 0) ∧ (∀ n, State.reset.sig n = 0) ∧ State.reset.ballLow 0 = false ∧ State.reset.ballLow 1 = false ∧
  State.reset.trans = none ∧ State.reset.laneAway = []
end

