-- ==== Sys2Proof/Laws/Store.lean ====
section
/-!
SUPPORT. Laws of the keyed stores: what a read gives after a write, and that a write keeps the canonical form.
-/

namespace Sys2Proof.Machine

variable {α : Type} [DecidableEq α] {d : Nat → α}

omit [DecidableEq α] in
theorem sget_serase_same (m : SMap α) (k : Nat) : sget d (serase m k) k = d k := by
  induction m with
  | nil => rfl
  | cons c m ih =>
    obtain ⟨j, v⟩ := c
    by_cases h : j = k <;> simp [serase, sget, h, ih]

omit [DecidableEq α] in
theorem sget_serase_other (m : SMap α) {k j : Nat} (h : j ≠ k) : sget d (serase m k) j = sget d m j := by
  induction m with
  | nil => rfl
  | cons c m ih =>
    obtain ⟨i, v⟩ := c
    by_cases hi : i = k
    · subst hi
      simp [serase, sget, Ne.symm h, ih]
    · simp [serase, sget, hi, ih]

omit [DecidableEq α] in
theorem sget_sins_other (m : SMap α) (v : α) {k j : Nat} (h : j ≠ k) : sget d (sins k v m) j = sget d m j := by
  induction m with
  | nil => simp [sins, sget, Ne.symm h]
  | cons c m ih =>
    obtain ⟨i, w⟩ := c
    by_cases hi : k < i
    · simp [sins, sget, hi, Ne.symm h]
    · simp [sins, sget, hi, ih]

omit [DecidableEq α] in
/-- No key of a store is `k` once `k` is erased, so an insertion of `k` is found. -/
theorem sget_sins_serase (m : SMap α) (k : Nat) (v : α) : sget d (sins k v (serase m k)) k = v := by
  induction m with
  | nil => simp [serase, sins, sget]
  | cons c m ih =>
    obtain ⟨j, w⟩ := c
    by_cases h : j = k
    · simp [serase, h, ih]
    · by_cases hk : k < j
      · simp [serase, h, sins, hk, sget]
      · simp [serase, h, sins, hk, sget, ih]

/-- A read of the key that was set. -/
@[simp] theorem sget_sset_same (m : SMap α) (k : Nat) (v : α) : sget d (sset d m k v) k = v := by
  by_cases h : v = d k
  · subst h
    simp [sset, sget_serase_same]
  · simp [sset, h, sget_sins_serase]

/-- A read of another key. -/
theorem sget_sset_other (m : SMap α) (v : α) {k j : Nat} (h : j ≠ k) : sget d (sset d m k v) j = sget d m j := by
  unfold sset
  split
  · exact sget_serase_other m h
  · rw [sget_sins_other _ _ h, sget_serase_other m h]

/-- Erasing keeps the canonical form. -/
theorem scanonFrom_serase (m : SMap α) (k : Nat) : ∀ {lo : Nat}, scanonFrom d lo m = true →
    scanonFrom d lo (serase m k) = true := by
  induction m with
  | nil => intros; rfl
  | cons c m ih =>
    obtain ⟨j, v⟩ := c
    intro lo h
    simp only [scanonFrom, Bool.and_eq_true, decide_eq_true_eq] at h
    obtain ⟨⟨h1, h2⟩, h3⟩ := h
    by_cases hj : j = k
    · simp only [serase, hj, if_true]
      have h4 := ih h3
      -- a canonical store above `j` is one above `lo`
      have weaken : ∀ (l : SMap α) {a b : Nat}, a ≤ b → scanonFrom d b l = true → scanonFrom d a l = true := by
        intro l a b hab hl
        cases l with
        | nil => rfl
        | cons e l =>
          obtain ⟨i, w⟩ := e
          simp only [scanonFrom, Bool.and_eq_true, decide_eq_true_eq] at hl ⊢
          exact ⟨⟨by omega, hl.1.2⟩, hl.2⟩
      exact weaken _ (by omega) (hj ▸ h4)
    · simp only [serase, hj, if_false, scanonFrom, Bool.and_eq_true, decide_eq_true_eq]
      exact ⟨⟨h1, h2⟩, ih h3⟩

/-- Inserting an erased key with a value other than its default keeps the canonical form. -/
theorem scanonFrom_sins (m : SMap α) {k : Nat} {v : α} (hv : v ≠ d k) : ∀ {lo : Nat}, lo ≤ k →
    scanonFrom d lo (serase m k) = true → scanonFrom d lo (sins k v (serase m k)) = true := by
  induction m with
  | nil => intro lo hlo _; simp [serase, sins, scanonFrom, hlo, hv]
  | cons c m ih =>
    obtain ⟨j, w⟩ := c
    intro lo hlo h
    by_cases hj : j = k
    · simp only [serase, hj, if_true] at h ⊢
      exact ih hlo h
    · simp only [serase, hj, if_false, scanonFrom, Bool.and_eq_true, decide_eq_true_eq] at h ⊢
      by_cases hk : k < j
      · simp only [sins, hk, if_true, scanonFrom, Bool.and_eq_true, decide_eq_true_eq]
        exact ⟨⟨hlo, hv⟩, ⟨by omega, h.1.2⟩, h.2⟩
      · simp only [sins, hk, if_false, scanonFrom, Bool.and_eq_true, decide_eq_true_eq]
        exact ⟨h.1, ih (by omega) h.2⟩

/-- A write keeps the canonical form. -/
theorem scanon_sset {m : SMap α} (h : scanon d m = true) (k : Nat) (v : α) : scanon d (sset d m k v) = true := by
  unfold sset
  split
  · exact scanonFrom_serase m k h
  · rename_i hv
    exact scanonFrom_sins m hv (Nat.zero_le k) (scanonFrom_serase m k h)

/-- Dropping entries keeps the canonical form. -/
theorem scanonFrom_filter (p : Nat × α → Bool) (m : SMap α) : ∀ {lo : Nat}, scanonFrom d lo m = true →
    scanonFrom d lo (m.filter p) = true := by
  induction m with
  | nil => intros; rfl
  | cons c m ih =>
    obtain ⟨j, v⟩ := c
    intro lo h
    simp only [scanonFrom, Bool.and_eq_true, decide_eq_true_eq] at h
    by_cases hp : p (j, v) = true
    · simp only [List.filter_cons, hp, if_true, scanonFrom, Bool.and_eq_true, decide_eq_true_eq]
      exact ⟨h.1, ih h.2⟩
    · simp only [List.filter_cons, hp]
      have h4 := ih h.2
      cases hm : m.filter p with
      | nil => rfl
      | cons e l =>
        obtain ⟨i, w⟩ := e
        rw [hm] at h4
        simp only [scanonFrom, Bool.and_eq_true, decide_eq_true_eq] at h4
        simp only [Bool.false_eq_true, if_false, scanonFrom, Bool.and_eq_true, decide_eq_true_eq]
        exact ⟨⟨by omega, h4.1.2⟩, h4.2⟩

/-- Dropping entries of a canonical store leaves a canonical one. -/
theorem scanon_filter {m : SMap α} (h : scanon d m = true) (p : Nat × α → Bool) : scanon d (m.filter p) = true :=
  scanonFrom_filter p m h

end Sys2Proof.Machine
end

