-- ==== Sys2Proof/Laws/Reg.lean ====
section
/-!
SUPPORT. Laws of the register operations: what a field reads as after a field is set, and that setting a field of one
register leaves every other register alone.
-/

namespace Sys2Proof.Machine

/-! Words at addresses. -/

@[simp] theorem State.getW_setW_same (s : State) (a : Nat) (w : Word) : (s.setW a w).getW a = w := by
  simp [State.getW, State.setW]

theorem State.getW_setW_other (s : State) (w : Word) {a b : Nat} (h : b ≠ a) : (s.setW a w).getW b = s.getW b := by
  simp [State.getW, State.setW, sget_sset_other _ _ h]

/-! Fields of a word. -/

theorem fieldMask_toNat {lo w : Nat} (h : lo + w ≤ 32) : (fieldMask lo w).toNat = (2 ^ w - 1) * 2 ^ lo := by
  have h1 : 2 ^ w * 2 ^ lo ≤ 2 ^ 32 := by rw [← Nat.pow_add]; exact Nat.pow_le_pow_right (by omega) (by omega)
  have h2 : 0 < 2 ^ lo := Nat.two_pow_pos lo
  have h3 : (2 ^ w - 1) * 2 ^ lo < 2 ^ 32 := by
    have : (2 ^ w - 1) * 2 ^ lo < 2 ^ w * 2 ^ lo := by
      apply Nat.mul_lt_mul_of_pos_right _ h2
      have := Nat.two_pow_pos w
      omega
    omega
  simp only [fieldMask, BitVec.toNat_ofNat]
  exact Nat.mod_eq_of_lt h3

/-- Bit `i` of a field's mask. -/
theorem fieldMask_getLsbD {lo w i : Nat} (h : lo + w ≤ 32) :
    (fieldMask lo w).getLsbD i = (decide (lo ≤ i) && decide (i < lo + w)) := by
  rw [BitVec.getLsbD, fieldMask_toNat h, ← Nat.shiftLeft_eq, Nat.testBit_shiftLeft, Nat.testBit_two_pow_sub_one]
  by_cases h1 : lo ≤ i
  · simp [h1]; omega
  · simp [h1]

/-- Bit `i` of a field's value placed in a word. -/
theorem placed_getLsbD {lo w v i : Nat} (h : lo + w ≤ 32) :
    (BitVec.ofNat 32 (v % 2 ^ w * 2 ^ lo)).getLsbD i = (decide (lo ≤ i) && decide (i < lo + w) && v.testBit (i - lo)) := by
  rw [BitVec.getLsbD_ofNat, ← Nat.shiftLeft_eq, Nat.testBit_shiftLeft, Nat.testBit_mod_two_pow]
  by_cases h1 : lo ≤ i
  · by_cases h2 : i < lo + w
    · have h3 : i < 32 := by omega
      have h4 : i - lo < w := by omega
      simp [h1, h2, h3, h4]
    · have h4 : ¬ i - lo < w := by omega
      simp [h2, h4]
  · simp [h1]

/-- Bit `i` of a word with a field replaced. -/
theorem Fld.put_getLsbD (f : Fld) (x : Word) (v i : Nat) (h : f.lo + f.w ≤ 32) :
    (f.put x v).getLsbD i = if f.lo ≤ i ∧ i < f.lo + f.w then v.testBit (i - f.lo) else x.getLsbD i := by
  simp only [Fld.put, BitVec.getLsbD_or, BitVec.getLsbD_and, BitVec.getLsbD_not, fieldMask_getLsbD h, placed_getLsbD h]
  by_cases h1 : f.lo ≤ i ∧ i < f.lo + f.w
  · have : i < 32 := by omega
    simp [h1]
  · by_cases h3 : i < 32
    · have h2 : (decide (f.lo ≤ i) && decide (i < f.lo + f.w)) = false := by
        simp only [Bool.and_eq_false_iff, decide_eq_false_iff_not]; omega
      simp [h2, h1, h3]
    · have h4 : x.getLsbD i = false := BitVec.getLsbD_of_ge x i (by omega)
      have h2 : (decide (f.lo ≤ i) && decide (i < f.lo + f.w)) = false := by
        simp only [Bool.and_eq_false_iff, decide_eq_false_iff_not]; omega
      simp [h2, h1, h4]

/-- The bits of a field's value. -/
theorem Fld.get_testBit (f : Fld) (x : Word) (i : Nat) :
    (f.get x).testBit i = (decide (i < f.w) && x.getLsbD (f.lo + i)) := by
  rw [Fld.get, Nat.testBit_mod_two_pow, Nat.testBit_div_two_pow, BitVec.getLsbD, Nat.add_comm f.lo i]

/-- The field that was set reads as what was set, to its width. -/
theorem Fld.get_put_same (f : Fld) (x : Word) (v : Nat) (h : f.lo + f.w ≤ 32) : f.get (f.put x v) = v % 2 ^ f.w := by
  apply Nat.eq_of_testBit_eq
  intro i
  rw [Fld.get_testBit, Fld.put_getLsbD f x v _ h, Nat.testBit_mod_two_pow]
  by_cases hi : i < f.w
  · have : f.lo ≤ f.lo + i ∧ f.lo + i < f.lo + f.w := by omega
    simp [hi]
  · simp [hi]

/-- A field of other bits of the word is as it was. -/
theorem Fld.get_put_other (f g : Fld) (x : Word) (v : Nat) (h : f.lo + f.w ≤ 32)
    (hd : g.lo + g.w ≤ f.lo ∨ f.lo + f.w ≤ g.lo) : g.get (f.put x v) = g.get x := by
  apply Nat.eq_of_testBit_eq
  intro i
  rw [Fld.get_testBit, Fld.get_testBit, Fld.put_getLsbD f x v _ h]
  by_cases hi : i < g.w
  · have : ¬ (f.lo ≤ g.lo + i ∧ g.lo + i < f.lo + f.w) := by omega
    simp [hi, this]
  · simp [hi]

theorem Fld.get_lt (f : Fld) (x : Word) : f.get x < 2 ^ f.w := Nat.mod_lt _ (Nat.two_pow_pos _)

/-! Fields of pages. -/

/-- Does a field fit its word? Every field of the register map does. -/
def Fld.fits (f : Fld) : Prop := f.lo + f.w ≤ 32

/-- The field that was set. -/
theorem State.get_set_same (s : State) (u : Unit) (f : Fld) (v : Nat) (h : f.fits) :
    (s.set u f v).get u f = v % 2 ^ f.w := by
  simp [State.get, State.set, Fld.get_put_same f _ v h]

/-- Another field of the same register. -/
theorem State.get_set_field (s : State) (u : Unit) (f g : Fld) (v : Nat) (h : f.fits) (ho : g.off = f.off)
    (hd : g.lo + g.w ≤ f.lo ∨ f.lo + f.w ≤ g.lo) : (s.set u f v).get u g = s.get u g := by
  simp [State.get, State.set, ho, Fld.get_put_other f g _ v h hd]

/-- A field of another register. -/
theorem State.get_set_addr (s : State) (u u' : Unit) (f g : Fld) (v : Nat) (h : u'.addr g.off ≠ u.addr f.off) :
    (s.set u f v).get u' g = s.get u' g := by
  simp only [State.get, State.set]
  rw [State.getW_setW_other _ _ h]

/-- A word of another register. -/
theorem State.getW_set_addr (s : State) (u : Unit) (f : Fld) (v : Nat) {a : Nat} (h : a ≠ u.addr f.off) :
    (s.set u f v).getW a = s.getW a := by
  simp only [State.set]
  rw [State.getW_setW_other _ _ h]

/-- A field set in front of another of a disjoint part of the register map is still as it was set. -/
theorem Unit.addr_ne {u u' : Unit} {o o' : Nat} (ho : o < 0x1000) (ho' : o' < 0x1000)
    (h : u.page ≠ u'.page ∨ o ≠ o') : u.addr o ≠ u'.addr o' := by
  simp only [Unit.addr]
  omega

end Sys2Proof.Machine
end

