-- ==== Sys2Proof/Laws/State.lean ====
section
/-!
SUPPORT. One law per field of State and primitive update: the update writes its own field and no other. Every other
operation is built from these updates and from record updates, which reduce by themselves.
-/

namespace Sys2Proof.Machine

variable (s : State)

/-! State.setW writes regs only. -/

@[simp] theorem State.setW_pending : ∀ (a : Nat) (w : Word), (s.setW a w).pending = s.pending := fun _ _ => rfl
@[simp] theorem State.setW_tick : ∀ (a : Nat) (w : Word), (s.setW a w).tick = s.tick := fun _ _ => rfl
@[simp] theorem State.setW_rc : ∀ (a : Nat) (w : Word), (s.setW a w).rc = s.rc := fun _ _ => rfl
@[simp] theorem State.setW_dlAt : ∀ (a : Nat) (w : Word), (s.setW a w).dlAt = s.dlAt := fun _ _ => rfl
@[simp] theorem State.setW_dlPrev : ∀ (a : Nat) (w : Word), (s.setW a w).dlPrev = s.dlPrev := fun _ _ => rfl
@[simp] theorem State.setW_dlStage : ∀ (a : Nat) (w : Word), (s.setW a w).dlStage = s.dlStage := fun _ _ => rfl
@[simp] theorem State.setW_mem : ∀ (a : Nat) (w : Word), (s.setW a w).mem = s.mem := fun _ _ => rfl
@[simp] theorem State.setW_badParity : ∀ (a : Nat) (w : Word), (s.setW a w).badParity = s.badParity := fun _ _ => rfl
@[simp] theorem State.setW_holds : ∀ (a : Nat) (w : Word), (s.setW a w).holds = s.holds := fun _ _ => rfl
@[simp] theorem State.setW_evSeen : ∀ (a : Nat) (w : Word), (s.setW a w).evSeen = s.evSeen := fun _ _ => rfl
@[simp] theorem State.setW_evNow : ∀ (a : Nat) (w : Word), (s.setW a w).evNow = s.evNow := fun _ _ => rfl
@[simp] theorem State.setW_pulse : ∀ (a : Nat) (w : Word), (s.setW a w).pulse = s.pulse := fun _ _ => rfl
@[simp] theorem State.setW_freeCtr : ∀ (a : Nat) (w : Word), (s.setW a w).freeCtr = s.freeCtr := fun _ _ => rfl
@[simp] theorem State.setW_boot : ∀ (a : Nat) (w : Word), (s.setW a w).boot = s.boot := fun _ _ => rfl
@[simp] theorem State.setW_porBoot : ∀ (a : Nat) (w : Word), (s.setW a w).porBoot = s.porBoot := fun _ _ => rfl
@[simp] theorem State.setW_refLate : ∀ (a : Nat) (w : Word), (s.setW a w).refLate = s.refLate := fun _ _ => rfl
@[simp] theorem State.setW_conv : ∀ (a : Nat) (w : Word), (s.setW a w).conv = s.conv := fun _ _ => rfl
@[simp] theorem State.setW_convPhases : ∀ (a : Nat) (w : Word), (s.setW a w).convPhases = s.convPhases := fun _ _ => rfl
@[simp] theorem State.setW_failedCheck : ∀ (a : Nat) (w : Word), (s.setW a w).failedCheck = s.failedCheck := fun _ _ => rfl
@[simp] theorem State.setW_stages : ∀ (a : Nat) (w : Word), (s.setW a w).stages = s.stages := fun _ _ => rfl
@[simp] theorem State.setW_srcActive : ∀ (a : Nat) (w : Word), (s.setW a w).srcActive = s.srcActive := fun _ _ => rfl
@[simp] theorem State.setW_cmpRaw : ∀ (a : Nat) (w : Word), (s.setW a w).cmpRaw = s.cmpRaw := fun _ _ => rfl
@[simp] theorem State.setW_notReady : ∀ (a : Nat) (w : Word), (s.setW a w).notReady = s.notReady := fun _ _ => rfl
@[simp] theorem State.setW_qty : ∀ (a : Nat) (w : Word), (s.setW a w).qty = s.qty := fun _ _ => rfl
@[simp] theorem State.setW_outHold : ∀ (a : Nat) (w : Word), (s.setW a w).outHold = s.outHold := fun _ _ => rfl
@[simp] theorem State.setW_trans : ∀ (a : Nat) (w : Word), (s.setW a w).trans = s.trans := fun _ _ => rfl
@[simp] theorem State.setW_afterDis : ∀ (a : Nat) (w : Word), (s.setW a w).afterDis = s.afterDis := fun _ _ => rfl
@[simp] theorem State.setW_fromReady : ∀ (a : Nat) (w : Word), (s.setW a w).fromReady = s.fromReady := fun _ _ => rfl
@[simp] theorem State.setW_authKeep : ∀ (a : Nat) (w : Word), (s.setW a w).authKeep = s.authKeep := fun _ _ => rfl
@[simp] theorem State.setW_preOn : ∀ (a : Nat) (w : Word), (s.setW a w).preOn = s.preOn := fun _ _ => rfl
@[simp] theorem State.setW_regDisAt : ∀ (a : Nat) (w : Word), (s.setW a w).regDisAt = s.regDisAt := fun _ _ => rfl
@[simp] theorem State.setW_flips : ∀ (a : Nat) (w : Word), (s.setW a w).flips = s.flips := fun _ _ => rfl
@[simp] theorem State.setW_uncorr : ∀ (a : Nat) (w : Word), (s.setW a w).uncorr = s.uncorr := fun _ _ => rfl
@[simp] theorem State.setW_passCorr : ∀ (a : Nat) (w : Word), (s.setW a w).passCorr = s.passCorr := fun _ _ => rfl
@[simp] theorem State.setW_passStart : ∀ (a : Nat) (w : Word), (s.setW a w).passStart = s.passStart := fun _ _ => rfl
@[simp] theorem State.setW_pods : ∀ (a : Nat) (w : Word), (s.setW a w).pods = s.pods := fun _ _ => rfl
@[simp] theorem State.setW_ready : ∀ (a : Nat) (w : Word), (s.setW a w).ready = s.ready := fun _ _ => rfl
@[simp] theorem State.setW_refs : ∀ (a : Nat) (w : Word), (s.setW a w).refs = s.refs := fun _ _ => rfl
@[simp] theorem State.setW_refOwner : ∀ (a : Nat) (w : Word), (s.setW a w).refOwner = s.refOwner := fun _ _ => rfl
@[simp] theorem State.setW_terms : ∀ (a : Nat) (w : Word), (s.setW a w).terms = s.terms := fun _ _ => rfl
@[simp] theorem State.setW_arenaPrev : ∀ (a : Nat) (w : Word), (s.setW a w).arenaPrev = s.arenaPrev := fun _ _ => rfl
@[simp] theorem State.setW_typeSeen : ∀ (a : Nat) (w : Word), (s.setW a w).typeSeen = s.typeSeen := fun _ _ => rfl
@[simp] theorem State.setW_rotNext : ∀ (a : Nat) (w : Word), (s.setW a w).rotNext = s.rotNext := fun _ _ => rfl
@[simp] theorem State.setW_laneAway : ∀ (a : Nat) (w : Word), (s.setW a w).laneAway = s.laneAway := fun _ _ => rfl
@[simp] theorem State.setW_laneBad : ∀ (a : Nat) (w : Word), (s.setW a w).laneBad = s.laneBad := fun _ _ => rfl
@[simp] theorem State.setW_testAt : ∀ (a : Nat) (w : Word), (s.setW a w).testAt = s.testAt := fun _ _ => rfl
@[simp] theorem State.setW_wrote : ∀ (a : Nat) (w : Word), (s.setW a w).wrote = s.wrote := fun _ _ => rfl
@[simp] theorem State.setW_updated : ∀ (a : Nat) (w : Word), (s.setW a w).updated = s.updated := fun _ _ => rfl
@[simp] theorem State.setW_books : ∀ (a : Nat) (w : Word), (s.setW a w).books = s.books := fun _ _ => rfl
@[simp] theorem State.setW_trac : ∀ (a : Nat) (w : Word), (s.setW a w).trac = s.trac := fun _ _ => rfl
@[simp] theorem State.setW_link : ∀ (a : Nat) (w : Word), (s.setW a w).link = s.link := fun _ _ => rfl
@[simp] theorem State.setW_discharged : ∀ (a : Nat) (w : Word), (s.setW a w).discharged = s.discharged := fun _ _ => rfl
@[simp] theorem State.setW_pilot : ∀ (a : Nat) (w : Word), (s.setW a w).pilot = s.pilot := fun _ _ => rfl
@[simp] theorem State.setW_kern : ∀ (a : Nat) (w : Word), (s.setW a w).kern = s.kern := fun _ _ => rfl
@[simp] theorem State.setW_chans : ∀ (a : Nat) (w : Word), (s.setW a w).chans = s.chans := fun _ _ => rfl
@[simp] theorem State.setW_convs : ∀ (a : Nat) (w : Word), (s.setW a w).convs = s.convs := fun _ _ => rfl
@[simp] theorem State.setW_gainInv : ∀ (a : Nat) (w : Word), (s.setW a w).gainInv = s.gainInv := fun _ _ => rfl
@[simp] theorem State.setW_calFailed : ∀ (a : Nat) (w : Word), (s.setW a w).calFailed = s.calFailed := fun _ _ => rfl
@[simp] theorem State.setW_seqs : ∀ (a : Nat) (w : Word), (s.setW a w).seqs = s.seqs := fun _ _ => rfl
@[simp] theorem State.setW_cans : ∀ (a : Nat) (w : Word), (s.setW a w).cans = s.cans := fun _ _ => rfl
@[simp] theorem State.setW_mapDue : ∀ (a : Nat) (w : Word), (s.setW a w).mapDue = s.mapDue := fun _ _ => rfl
@[simp] theorem State.setW_switchCad : ∀ (a : Nat) (w : Word), (s.setW a w).switchCad = s.switchCad := fun _ _ => rfl
@[simp] theorem State.setW_checkBankNo : ∀ (a : Nat) (w : Word), (s.setW a w).checkBankNo = s.checkBankNo := fun _ _ => rfl
@[simp] theorem State.setW_souts : ∀ (a : Nat) (w : Word), (s.setW a w).souts = s.souts := fun _ _ => rfl
@[simp] theorem State.setW_testFail : ∀ (a : Nat) (w : Word), (s.setW a w).testFail = s.testFail := fun _ _ => rfl
@[simp] theorem State.setW_sfk : ∀ (a : Nat) (w : Word), (s.setW a w).sfk = s.sfk := fun _ _ => rfl
@[simp] theorem State.setW_stoIn : ∀ (a : Nat) (w : Word), (s.setW a w).stoIn = s.stoIn := fun _ _ => rfl
@[simp] theorem State.setW_stoSoft : ∀ (a : Nat) (w : Word), (s.setW a w).stoSoft = s.stoSoft := fun _ _ => rfl
@[simp] theorem State.setW_stoSoftAt : ∀ (a : Nat) (w : Word), (s.setW a w).stoSoftAt = s.stoSoftAt := fun _ _ => rfl
@[simp] theorem State.setW_stoD4 : ∀ (a : Nat) (w : Word), (s.setW a w).stoD4 = s.stoD4 := fun _ _ => rfl
@[simp] theorem State.setW_stoDiff : ∀ (a : Nat) (w : Word), (s.setW a w).stoDiff = s.stoDiff := fun _ _ => rfl
@[simp] theorem State.setW_stoDisc : ∀ (a : Nat) (w : Word), (s.setW a w).stoDisc = s.stoDisc := fun _ _ => rfl
@[simp] theorem State.setW_shUnits : ∀ (a : Nat) (w : Word), (s.setW a w).shUnits = s.shUnits := fun _ _ => rfl
@[simp] theorem State.setW_lossAt : ∀ (a : Nat) (w : Word), (s.setW a w).lossAt = s.lossAt := fun _ _ => rfl
@[simp] theorem State.setW_tbBad : ∀ (a : Nat) (w : Word), (s.setW a w).tbBad = s.tbBad := fun _ _ => rfl
@[simp] theorem State.setW_tbWin : ∀ (a : Nat) (w : Word), (s.setW a w).tbWin = s.tbWin := fun _ _ => rfl
@[simp] theorem State.setW_vcore : ∀ (a : Nat) (w : Word), (s.setW a w).vcore = s.vcore := fun _ _ => rfl
@[simp] theorem State.setW_sigBad : ∀ (a : Nat) (w : Word), (s.setW a w).sigBad = s.sigBad := fun _ _ => rfl
@[simp] theorem State.setW_cads : ∀ (a : Nat) (w : Word), (s.setW a w).cads = s.cads := fun _ _ => rfl
@[simp] theorem State.setW_slots : ∀ (a : Nat) (w : Word), (s.setW a w).slots = s.slots := fun _ _ => rfl
@[simp] theorem State.setW_thermDue : ∀ (a : Nat) (w : Word), (s.setW a w).thermDue = s.thermDue := fun _ _ => rfl
@[simp] theorem State.setW_scrubNext : ∀ (a : Nat) (w : Word), (s.setW a w).scrubNext = s.scrubNext := fun _ _ => rfl
@[simp] theorem State.setW_scrubAt : ∀ (a : Nat) (w : Word), (s.setW a w).scrubAt = s.scrubAt := fun _ _ => rfl
@[simp] theorem State.setW_pair : ∀ (a : Nat) (w : Word), (s.setW a w).pair = s.pair := fun _ _ => rfl
@[simp] theorem State.setW_podRecs : ∀ (a : Nat) (w : Word), (s.setW a w).podRecs = s.podRecs := fun _ _ => rfl
@[simp] theorem State.setW_ports : ∀ (a : Nat) (w : Word), (s.setW a w).ports = s.ports := fun _ _ => rfl
@[simp] theorem State.setW_lockBusy : ∀ (a : Nat) (w : Word), (s.setW a w).lockBusy = s.lockBusy := fun _ _ => rfl
@[simp] theorem State.setW_mbxCap : ∀ (a : Nat) (w : Word), (s.setW a w).mbxCap = s.mbxCap := fun _ _ => rfl
@[simp] theorem State.setW_swReset : ∀ (a : Nat) (w : Word), (s.setW a w).swReset = s.swReset := fun _ _ => rfl

/-! State.set writes regs only. -/

@[simp] theorem State.set_pending : ∀ (u : Unit) (f : Fld) (v : Nat), (s.set u f v).pending = s.pending := fun _ _ _ => rfl
@[simp] theorem State.set_tick : ∀ (u : Unit) (f : Fld) (v : Nat), (s.set u f v).tick = s.tick := fun _ _ _ => rfl
@[simp] theorem State.set_rc : ∀ (u : Unit) (f : Fld) (v : Nat), (s.set u f v).rc = s.rc := fun _ _ _ => rfl
@[simp] theorem State.set_dlAt : ∀ (u : Unit) (f : Fld) (v : Nat), (s.set u f v).dlAt = s.dlAt := fun _ _ _ => rfl
@[simp] theorem State.set_dlPrev : ∀ (u : Unit) (f : Fld) (v : Nat), (s.set u f v).dlPrev = s.dlPrev := fun _ _ _ => rfl
@[simp] theorem State.set_dlStage : ∀ (u : Unit) (f : Fld) (v : Nat), (s.set u f v).dlStage = s.dlStage := fun _ _ _ => rfl
@[simp] theorem State.set_mem : ∀ (u : Unit) (f : Fld) (v : Nat), (s.set u f v).mem = s.mem := fun _ _ _ => rfl
@[simp] theorem State.set_badParity : ∀ (u : Unit) (f : Fld) (v : Nat), (s.set u f v).badParity = s.badParity := fun _ _ _ => rfl
@[simp] theorem State.set_holds : ∀ (u : Unit) (f : Fld) (v : Nat), (s.set u f v).holds = s.holds := fun _ _ _ => rfl
@[simp] theorem State.set_evSeen : ∀ (u : Unit) (f : Fld) (v : Nat), (s.set u f v).evSeen = s.evSeen := fun _ _ _ => rfl
@[simp] theorem State.set_evNow : ∀ (u : Unit) (f : Fld) (v : Nat), (s.set u f v).evNow = s.evNow := fun _ _ _ => rfl
@[simp] theorem State.set_pulse : ∀ (u : Unit) (f : Fld) (v : Nat), (s.set u f v).pulse = s.pulse := fun _ _ _ => rfl
@[simp] theorem State.set_freeCtr : ∀ (u : Unit) (f : Fld) (v : Nat), (s.set u f v).freeCtr = s.freeCtr := fun _ _ _ => rfl
@[simp] theorem State.set_boot : ∀ (u : Unit) (f : Fld) (v : Nat), (s.set u f v).boot = s.boot := fun _ _ _ => rfl
@[simp] theorem State.set_porBoot : ∀ (u : Unit) (f : Fld) (v : Nat), (s.set u f v).porBoot = s.porBoot := fun _ _ _ => rfl
@[simp] theorem State.set_refLate : ∀ (u : Unit) (f : Fld) (v : Nat), (s.set u f v).refLate = s.refLate := fun _ _ _ => rfl
@[simp] theorem State.set_conv : ∀ (u : Unit) (f : Fld) (v : Nat), (s.set u f v).conv = s.conv := fun _ _ _ => rfl
@[simp] theorem State.set_convPhases : ∀ (u : Unit) (f : Fld) (v : Nat), (s.set u f v).convPhases = s.convPhases := fun _ _ _ => rfl
@[simp] theorem State.set_failedCheck : ∀ (u : Unit) (f : Fld) (v : Nat), (s.set u f v).failedCheck = s.failedCheck := fun _ _ _ => rfl
@[simp] theorem State.set_stages : ∀ (u : Unit) (f : Fld) (v : Nat), (s.set u f v).stages = s.stages := fun _ _ _ => rfl
@[simp] theorem State.set_srcActive : ∀ (u : Unit) (f : Fld) (v : Nat), (s.set u f v).srcActive = s.srcActive := fun _ _ _ => rfl
@[simp] theorem State.set_cmpRaw : ∀ (u : Unit) (f : Fld) (v : Nat), (s.set u f v).cmpRaw = s.cmpRaw := fun _ _ _ => rfl
@[simp] theorem State.set_notReady : ∀ (u : Unit) (f : Fld) (v : Nat), (s.set u f v).notReady = s.notReady := fun _ _ _ => rfl
@[simp] theorem State.set_qty : ∀ (u : Unit) (f : Fld) (v : Nat), (s.set u f v).qty = s.qty := fun _ _ _ => rfl
@[simp] theorem State.set_outHold : ∀ (u : Unit) (f : Fld) (v : Nat), (s.set u f v).outHold = s.outHold := fun _ _ _ => rfl
@[simp] theorem State.set_trans : ∀ (u : Unit) (f : Fld) (v : Nat), (s.set u f v).trans = s.trans := fun _ _ _ => rfl
@[simp] theorem State.set_afterDis : ∀ (u : Unit) (f : Fld) (v : Nat), (s.set u f v).afterDis = s.afterDis := fun _ _ _ => rfl
@[simp] theorem State.set_fromReady : ∀ (u : Unit) (f : Fld) (v : Nat), (s.set u f v).fromReady = s.fromReady := fun _ _ _ => rfl
@[simp] theorem State.set_authKeep : ∀ (u : Unit) (f : Fld) (v : Nat), (s.set u f v).authKeep = s.authKeep := fun _ _ _ => rfl
@[simp] theorem State.set_preOn : ∀ (u : Unit) (f : Fld) (v : Nat), (s.set u f v).preOn = s.preOn := fun _ _ _ => rfl
@[simp] theorem State.set_regDisAt : ∀ (u : Unit) (f : Fld) (v : Nat), (s.set u f v).regDisAt = s.regDisAt := fun _ _ _ => rfl
@[simp] theorem State.set_flips : ∀ (u : Unit) (f : Fld) (v : Nat), (s.set u f v).flips = s.flips := fun _ _ _ => rfl
@[simp] theorem State.set_uncorr : ∀ (u : Unit) (f : Fld) (v : Nat), (s.set u f v).uncorr = s.uncorr := fun _ _ _ => rfl
@[simp] theorem State.set_passCorr : ∀ (u : Unit) (f : Fld) (v : Nat), (s.set u f v).passCorr = s.passCorr := fun _ _ _ => rfl
@[simp] theorem State.set_passStart : ∀ (u : Unit) (f : Fld) (v : Nat), (s.set u f v).passStart = s.passStart := fun _ _ _ => rfl
@[simp] theorem State.set_pods : ∀ (u : Unit) (f : Fld) (v : Nat), (s.set u f v).pods = s.pods := fun _ _ _ => rfl
@[simp] theorem State.set_ready : ∀ (u : Unit) (f : Fld) (v : Nat), (s.set u f v).ready = s.ready := fun _ _ _ => rfl
@[simp] theorem State.set_refs : ∀ (u : Unit) (f : Fld) (v : Nat), (s.set u f v).refs = s.refs := fun _ _ _ => rfl
@[simp] theorem State.set_refOwner : ∀ (u : Unit) (f : Fld) (v : Nat), (s.set u f v).refOwner = s.refOwner := fun _ _ _ => rfl
@[simp] theorem State.set_terms : ∀ (u : Unit) (f : Fld) (v : Nat), (s.set u f v).terms = s.terms := fun _ _ _ => rfl
@[simp] theorem State.set_arenaPrev : ∀ (u : Unit) (f : Fld) (v : Nat), (s.set u f v).arenaPrev = s.arenaPrev := fun _ _ _ => rfl
@[simp] theorem State.set_typeSeen : ∀ (u : Unit) (f : Fld) (v : Nat), (s.set u f v).typeSeen = s.typeSeen := fun _ _ _ => rfl
@[simp] theorem State.set_rotNext : ∀ (u : Unit) (f : Fld) (v : Nat), (s.set u f v).rotNext = s.rotNext := fun _ _ _ => rfl
@[simp] theorem State.set_laneAway : ∀ (u : Unit) (f : Fld) (v : Nat), (s.set u f v).laneAway = s.laneAway := fun _ _ _ => rfl
@[simp] theorem State.set_laneBad : ∀ (u : Unit) (f : Fld) (v : Nat), (s.set u f v).laneBad = s.laneBad := fun _ _ _ => rfl
@[simp] theorem State.set_testAt : ∀ (u : Unit) (f : Fld) (v : Nat), (s.set u f v).testAt = s.testAt := fun _ _ _ => rfl
@[simp] theorem State.set_wrote : ∀ (u : Unit) (f : Fld) (v : Nat), (s.set u f v).wrote = s.wrote := fun _ _ _ => rfl
@[simp] theorem State.set_updated : ∀ (u : Unit) (f : Fld) (v : Nat), (s.set u f v).updated = s.updated := fun _ _ _ => rfl
@[simp] theorem State.set_books : ∀ (u : Unit) (f : Fld) (v : Nat), (s.set u f v).books = s.books := fun _ _ _ => rfl
@[simp] theorem State.set_trac : ∀ (u : Unit) (f : Fld) (v : Nat), (s.set u f v).trac = s.trac := fun _ _ _ => rfl
@[simp] theorem State.set_link : ∀ (u : Unit) (f : Fld) (v : Nat), (s.set u f v).link = s.link := fun _ _ _ => rfl
@[simp] theorem State.set_discharged : ∀ (u : Unit) (f : Fld) (v : Nat), (s.set u f v).discharged = s.discharged := fun _ _ _ => rfl
@[simp] theorem State.set_pilot : ∀ (u : Unit) (f : Fld) (v : Nat), (s.set u f v).pilot = s.pilot := fun _ _ _ => rfl
@[simp] theorem State.set_kern : ∀ (u : Unit) (f : Fld) (v : Nat), (s.set u f v).kern = s.kern := fun _ _ _ => rfl
@[simp] theorem State.set_chans : ∀ (u : Unit) (f : Fld) (v : Nat), (s.set u f v).chans = s.chans := fun _ _ _ => rfl
@[simp] theorem State.set_convs : ∀ (u : Unit) (f : Fld) (v : Nat), (s.set u f v).convs = s.convs := fun _ _ _ => rfl
@[simp] theorem State.set_gainInv : ∀ (u : Unit) (f : Fld) (v : Nat), (s.set u f v).gainInv = s.gainInv := fun _ _ _ => rfl
@[simp] theorem State.set_calFailed : ∀ (u : Unit) (f : Fld) (v : Nat), (s.set u f v).calFailed = s.calFailed := fun _ _ _ => rfl
@[simp] theorem State.set_seqs : ∀ (u : Unit) (f : Fld) (v : Nat), (s.set u f v).seqs = s.seqs := fun _ _ _ => rfl
@[simp] theorem State.set_cans : ∀ (u : Unit) (f : Fld) (v : Nat), (s.set u f v).cans = s.cans := fun _ _ _ => rfl
@[simp] theorem State.set_mapDue : ∀ (u : Unit) (f : Fld) (v : Nat), (s.set u f v).mapDue = s.mapDue := fun _ _ _ => rfl
@[simp] theorem State.set_switchCad : ∀ (u : Unit) (f : Fld) (v : Nat), (s.set u f v).switchCad = s.switchCad := fun _ _ _ => rfl
@[simp] theorem State.set_checkBankNo : ∀ (u : Unit) (f : Fld) (v : Nat), (s.set u f v).checkBankNo = s.checkBankNo := fun _ _ _ => rfl
@[simp] theorem State.set_souts : ∀ (u : Unit) (f : Fld) (v : Nat), (s.set u f v).souts = s.souts := fun _ _ _ => rfl
@[simp] theorem State.set_testFail : ∀ (u : Unit) (f : Fld) (v : Nat), (s.set u f v).testFail = s.testFail := fun _ _ _ => rfl
@[simp] theorem State.set_sfk : ∀ (u : Unit) (f : Fld) (v : Nat), (s.set u f v).sfk = s.sfk := fun _ _ _ => rfl
@[simp] theorem State.set_stoIn : ∀ (u : Unit) (f : Fld) (v : Nat), (s.set u f v).stoIn = s.stoIn := fun _ _ _ => rfl
@[simp] theorem State.set_stoSoft : ∀ (u : Unit) (f : Fld) (v : Nat), (s.set u f v).stoSoft = s.stoSoft := fun _ _ _ => rfl
@[simp] theorem State.set_stoSoftAt : ∀ (u : Unit) (f : Fld) (v : Nat), (s.set u f v).stoSoftAt = s.stoSoftAt := fun _ _ _ => rfl
@[simp] theorem State.set_stoD4 : ∀ (u : Unit) (f : Fld) (v : Nat), (s.set u f v).stoD4 = s.stoD4 := fun _ _ _ => rfl
@[simp] theorem State.set_stoDiff : ∀ (u : Unit) (f : Fld) (v : Nat), (s.set u f v).stoDiff = s.stoDiff := fun _ _ _ => rfl
@[simp] theorem State.set_stoDisc : ∀ (u : Unit) (f : Fld) (v : Nat), (s.set u f v).stoDisc = s.stoDisc := fun _ _ _ => rfl
@[simp] theorem State.set_shUnits : ∀ (u : Unit) (f : Fld) (v : Nat), (s.set u f v).shUnits = s.shUnits := fun _ _ _ => rfl
@[simp] theorem State.set_lossAt : ∀ (u : Unit) (f : Fld) (v : Nat), (s.set u f v).lossAt = s.lossAt := fun _ _ _ => rfl
@[simp] theorem State.set_tbBad : ∀ (u : Unit) (f : Fld) (v : Nat), (s.set u f v).tbBad = s.tbBad := fun _ _ _ => rfl
@[simp] theorem State.set_tbWin : ∀ (u : Unit) (f : Fld) (v : Nat), (s.set u f v).tbWin = s.tbWin := fun _ _ _ => rfl
@[simp] theorem State.set_vcore : ∀ (u : Unit) (f : Fld) (v : Nat), (s.set u f v).vcore = s.vcore := fun _ _ _ => rfl
@[simp] theorem State.set_sigBad : ∀ (u : Unit) (f : Fld) (v : Nat), (s.set u f v).sigBad = s.sigBad := fun _ _ _ => rfl
@[simp] theorem State.set_cads : ∀ (u : Unit) (f : Fld) (v : Nat), (s.set u f v).cads = s.cads := fun _ _ _ => rfl
@[simp] theorem State.set_slots : ∀ (u : Unit) (f : Fld) (v : Nat), (s.set u f v).slots = s.slots := fun _ _ _ => rfl
@[simp] theorem State.set_thermDue : ∀ (u : Unit) (f : Fld) (v : Nat), (s.set u f v).thermDue = s.thermDue := fun _ _ _ => rfl
@[simp] theorem State.set_scrubNext : ∀ (u : Unit) (f : Fld) (v : Nat), (s.set u f v).scrubNext = s.scrubNext := fun _ _ _ => rfl
@[simp] theorem State.set_scrubAt : ∀ (u : Unit) (f : Fld) (v : Nat), (s.set u f v).scrubAt = s.scrubAt := fun _ _ _ => rfl
@[simp] theorem State.set_pair : ∀ (u : Unit) (f : Fld) (v : Nat), (s.set u f v).pair = s.pair := fun _ _ _ => rfl
@[simp] theorem State.set_podRecs : ∀ (u : Unit) (f : Fld) (v : Nat), (s.set u f v).podRecs = s.podRecs := fun _ _ _ => rfl
@[simp] theorem State.set_ports : ∀ (u : Unit) (f : Fld) (v : Nat), (s.set u f v).ports = s.ports := fun _ _ _ => rfl
@[simp] theorem State.set_lockBusy : ∀ (u : Unit) (f : Fld) (v : Nat), (s.set u f v).lockBusy = s.lockBusy := fun _ _ _ => rfl
@[simp] theorem State.set_mbxCap : ∀ (u : Unit) (f : Fld) (v : Nat), (s.set u f v).mbxCap = s.mbxCap := fun _ _ _ => rfl
@[simp] theorem State.set_swReset : ∀ (u : Unit) (f : Fld) (v : Nat), (s.set u f v).swReset = s.swReset := fun _ _ _ => rfl

/-! State.setByte writes mem only. -/

@[simp] theorem State.setByte_pending : ∀ (a : Nat) (b : Byte), (s.setByte a b).pending = s.pending := fun _ _ => rfl
@[simp] theorem State.setByte_tick : ∀ (a : Nat) (b : Byte), (s.setByte a b).tick = s.tick := fun _ _ => rfl
@[simp] theorem State.setByte_rc : ∀ (a : Nat) (b : Byte), (s.setByte a b).rc = s.rc := fun _ _ => rfl
@[simp] theorem State.setByte_dlAt : ∀ (a : Nat) (b : Byte), (s.setByte a b).dlAt = s.dlAt := fun _ _ => rfl
@[simp] theorem State.setByte_dlPrev : ∀ (a : Nat) (b : Byte), (s.setByte a b).dlPrev = s.dlPrev := fun _ _ => rfl
@[simp] theorem State.setByte_dlStage : ∀ (a : Nat) (b : Byte), (s.setByte a b).dlStage = s.dlStage := fun _ _ => rfl
@[simp] theorem State.setByte_regs : ∀ (a : Nat) (b : Byte), (s.setByte a b).regs = s.regs := fun _ _ => rfl
@[simp] theorem State.setByte_badParity : ∀ (a : Nat) (b : Byte), (s.setByte a b).badParity = s.badParity := fun _ _ => rfl
@[simp] theorem State.setByte_holds : ∀ (a : Nat) (b : Byte), (s.setByte a b).holds = s.holds := fun _ _ => rfl
@[simp] theorem State.setByte_evSeen : ∀ (a : Nat) (b : Byte), (s.setByte a b).evSeen = s.evSeen := fun _ _ => rfl
@[simp] theorem State.setByte_evNow : ∀ (a : Nat) (b : Byte), (s.setByte a b).evNow = s.evNow := fun _ _ => rfl
@[simp] theorem State.setByte_pulse : ∀ (a : Nat) (b : Byte), (s.setByte a b).pulse = s.pulse := fun _ _ => rfl
@[simp] theorem State.setByte_freeCtr : ∀ (a : Nat) (b : Byte), (s.setByte a b).freeCtr = s.freeCtr := fun _ _ => rfl
@[simp] theorem State.setByte_boot : ∀ (a : Nat) (b : Byte), (s.setByte a b).boot = s.boot := fun _ _ => rfl
@[simp] theorem State.setByte_porBoot : ∀ (a : Nat) (b : Byte), (s.setByte a b).porBoot = s.porBoot := fun _ _ => rfl
@[simp] theorem State.setByte_refLate : ∀ (a : Nat) (b : Byte), (s.setByte a b).refLate = s.refLate := fun _ _ => rfl
@[simp] theorem State.setByte_conv : ∀ (a : Nat) (b : Byte), (s.setByte a b).conv = s.conv := fun _ _ => rfl
@[simp] theorem State.setByte_convPhases : ∀ (a : Nat) (b : Byte), (s.setByte a b).convPhases = s.convPhases := fun _ _ => rfl
@[simp] theorem State.setByte_failedCheck : ∀ (a : Nat) (b : Byte), (s.setByte a b).failedCheck = s.failedCheck := fun _ _ => rfl
@[simp] theorem State.setByte_stages : ∀ (a : Nat) (b : Byte), (s.setByte a b).stages = s.stages := fun _ _ => rfl
@[simp] theorem State.setByte_srcActive : ∀ (a : Nat) (b : Byte), (s.setByte a b).srcActive = s.srcActive := fun _ _ => rfl
@[simp] theorem State.setByte_cmpRaw : ∀ (a : Nat) (b : Byte), (s.setByte a b).cmpRaw = s.cmpRaw := fun _ _ => rfl
@[simp] theorem State.setByte_notReady : ∀ (a : Nat) (b : Byte), (s.setByte a b).notReady = s.notReady := fun _ _ => rfl
@[simp] theorem State.setByte_qty : ∀ (a : Nat) (b : Byte), (s.setByte a b).qty = s.qty := fun _ _ => rfl
@[simp] theorem State.setByte_outHold : ∀ (a : Nat) (b : Byte), (s.setByte a b).outHold = s.outHold := fun _ _ => rfl
@[simp] theorem State.setByte_trans : ∀ (a : Nat) (b : Byte), (s.setByte a b).trans = s.trans := fun _ _ => rfl
@[simp] theorem State.setByte_afterDis : ∀ (a : Nat) (b : Byte), (s.setByte a b).afterDis = s.afterDis := fun _ _ => rfl
@[simp] theorem State.setByte_fromReady : ∀ (a : Nat) (b : Byte), (s.setByte a b).fromReady = s.fromReady := fun _ _ => rfl
@[simp] theorem State.setByte_authKeep : ∀ (a : Nat) (b : Byte), (s.setByte a b).authKeep = s.authKeep := fun _ _ => rfl
@[simp] theorem State.setByte_preOn : ∀ (a : Nat) (b : Byte), (s.setByte a b).preOn = s.preOn := fun _ _ => rfl
@[simp] theorem State.setByte_regDisAt : ∀ (a : Nat) (b : Byte), (s.setByte a b).regDisAt = s.regDisAt := fun _ _ => rfl
@[simp] theorem State.setByte_flips : ∀ (a : Nat) (b : Byte), (s.setByte a b).flips = s.flips := fun _ _ => rfl
@[simp] theorem State.setByte_uncorr : ∀ (a : Nat) (b : Byte), (s.setByte a b).uncorr = s.uncorr := fun _ _ => rfl
@[simp] theorem State.setByte_passCorr : ∀ (a : Nat) (b : Byte), (s.setByte a b).passCorr = s.passCorr := fun _ _ => rfl
@[simp] theorem State.setByte_passStart : ∀ (a : Nat) (b : Byte), (s.setByte a b).passStart = s.passStart := fun _ _ => rfl
@[simp] theorem State.setByte_pods : ∀ (a : Nat) (b : Byte), (s.setByte a b).pods = s.pods := fun _ _ => rfl
@[simp] theorem State.setByte_ready : ∀ (a : Nat) (b : Byte), (s.setByte a b).ready = s.ready := fun _ _ => rfl
@[simp] theorem State.setByte_refs : ∀ (a : Nat) (b : Byte), (s.setByte a b).refs = s.refs := fun _ _ => rfl
@[simp] theorem State.setByte_refOwner : ∀ (a : Nat) (b : Byte), (s.setByte a b).refOwner = s.refOwner := fun _ _ => rfl
@[simp] theorem State.setByte_terms : ∀ (a : Nat) (b : Byte), (s.setByte a b).terms = s.terms := fun _ _ => rfl
@[simp] theorem State.setByte_arenaPrev : ∀ (a : Nat) (b : Byte), (s.setByte a b).arenaPrev = s.arenaPrev := fun _ _ => rfl
@[simp] theorem State.setByte_typeSeen : ∀ (a : Nat) (b : Byte), (s.setByte a b).typeSeen = s.typeSeen := fun _ _ => rfl
@[simp] theorem State.setByte_rotNext : ∀ (a : Nat) (b : Byte), (s.setByte a b).rotNext = s.rotNext := fun _ _ => rfl
@[simp] theorem State.setByte_laneAway : ∀ (a : Nat) (b : Byte), (s.setByte a b).laneAway = s.laneAway := fun _ _ => rfl
@[simp] theorem State.setByte_laneBad : ∀ (a : Nat) (b : Byte), (s.setByte a b).laneBad = s.laneBad := fun _ _ => rfl
@[simp] theorem State.setByte_testAt : ∀ (a : Nat) (b : Byte), (s.setByte a b).testAt = s.testAt := fun _ _ => rfl
@[simp] theorem State.setByte_wrote : ∀ (a : Nat) (b : Byte), (s.setByte a b).wrote = s.wrote := fun _ _ => rfl
@[simp] theorem State.setByte_updated : ∀ (a : Nat) (b : Byte), (s.setByte a b).updated = s.updated := fun _ _ => rfl
@[simp] theorem State.setByte_books : ∀ (a : Nat) (b : Byte), (s.setByte a b).books = s.books := fun _ _ => rfl
@[simp] theorem State.setByte_trac : ∀ (a : Nat) (b : Byte), (s.setByte a b).trac = s.trac := fun _ _ => rfl
@[simp] theorem State.setByte_link : ∀ (a : Nat) (b : Byte), (s.setByte a b).link = s.link := fun _ _ => rfl
@[simp] theorem State.setByte_discharged : ∀ (a : Nat) (b : Byte), (s.setByte a b).discharged = s.discharged := fun _ _ => rfl
@[simp] theorem State.setByte_pilot : ∀ (a : Nat) (b : Byte), (s.setByte a b).pilot = s.pilot := fun _ _ => rfl
@[simp] theorem State.setByte_kern : ∀ (a : Nat) (b : Byte), (s.setByte a b).kern = s.kern := fun _ _ => rfl
@[simp] theorem State.setByte_chans : ∀ (a : Nat) (b : Byte), (s.setByte a b).chans = s.chans := fun _ _ => rfl
@[simp] theorem State.setByte_convs : ∀ (a : Nat) (b : Byte), (s.setByte a b).convs = s.convs := fun _ _ => rfl
@[simp] theorem State.setByte_gainInv : ∀ (a : Nat) (b : Byte), (s.setByte a b).gainInv = s.gainInv := fun _ _ => rfl
@[simp] theorem State.setByte_calFailed : ∀ (a : Nat) (b : Byte), (s.setByte a b).calFailed = s.calFailed := fun _ _ => rfl
@[simp] theorem State.setByte_seqs : ∀ (a : Nat) (b : Byte), (s.setByte a b).seqs = s.seqs := fun _ _ => rfl
@[simp] theorem State.setByte_cans : ∀ (a : Nat) (b : Byte), (s.setByte a b).cans = s.cans := fun _ _ => rfl
@[simp] theorem State.setByte_mapDue : ∀ (a : Nat) (b : Byte), (s.setByte a b).mapDue = s.mapDue := fun _ _ => rfl
@[simp] theorem State.setByte_switchCad : ∀ (a : Nat) (b : Byte), (s.setByte a b).switchCad = s.switchCad := fun _ _ => rfl
@[simp] theorem State.setByte_checkBankNo : ∀ (a : Nat) (b : Byte), (s.setByte a b).checkBankNo = s.checkBankNo := fun _ _ => rfl
@[simp] theorem State.setByte_souts : ∀ (a : Nat) (b : Byte), (s.setByte a b).souts = s.souts := fun _ _ => rfl
@[simp] theorem State.setByte_testFail : ∀ (a : Nat) (b : Byte), (s.setByte a b).testFail = s.testFail := fun _ _ => rfl
@[simp] theorem State.setByte_sfk : ∀ (a : Nat) (b : Byte), (s.setByte a b).sfk = s.sfk := fun _ _ => rfl
@[simp] theorem State.setByte_stoIn : ∀ (a : Nat) (b : Byte), (s.setByte a b).stoIn = s.stoIn := fun _ _ => rfl
@[simp] theorem State.setByte_stoSoft : ∀ (a : Nat) (b : Byte), (s.setByte a b).stoSoft = s.stoSoft := fun _ _ => rfl
@[simp] theorem State.setByte_stoSoftAt : ∀ (a : Nat) (b : Byte), (s.setByte a b).stoSoftAt = s.stoSoftAt := fun _ _ => rfl
@[simp] theorem State.setByte_stoD4 : ∀ (a : Nat) (b : Byte), (s.setByte a b).stoD4 = s.stoD4 := fun _ _ => rfl
@[simp] theorem State.setByte_stoDiff : ∀ (a : Nat) (b : Byte), (s.setByte a b).stoDiff = s.stoDiff := fun _ _ => rfl
@[simp] theorem State.setByte_stoDisc : ∀ (a : Nat) (b : Byte), (s.setByte a b).stoDisc = s.stoDisc := fun _ _ => rfl
@[simp] theorem State.setByte_shUnits : ∀ (a : Nat) (b : Byte), (s.setByte a b).shUnits = s.shUnits := fun _ _ => rfl
@[simp] theorem State.setByte_lossAt : ∀ (a : Nat) (b : Byte), (s.setByte a b).lossAt = s.lossAt := fun _ _ => rfl
@[simp] theorem State.setByte_tbBad : ∀ (a : Nat) (b : Byte), (s.setByte a b).tbBad = s.tbBad := fun _ _ => rfl
@[simp] theorem State.setByte_tbWin : ∀ (a : Nat) (b : Byte), (s.setByte a b).tbWin = s.tbWin := fun _ _ => rfl
@[simp] theorem State.setByte_vcore : ∀ (a : Nat) (b : Byte), (s.setByte a b).vcore = s.vcore := fun _ _ => rfl
@[simp] theorem State.setByte_sigBad : ∀ (a : Nat) (b : Byte), (s.setByte a b).sigBad = s.sigBad := fun _ _ => rfl
@[simp] theorem State.setByte_cads : ∀ (a : Nat) (b : Byte), (s.setByte a b).cads = s.cads := fun _ _ => rfl
@[simp] theorem State.setByte_slots : ∀ (a : Nat) (b : Byte), (s.setByte a b).slots = s.slots := fun _ _ => rfl
@[simp] theorem State.setByte_thermDue : ∀ (a : Nat) (b : Byte), (s.setByte a b).thermDue = s.thermDue := fun _ _ => rfl
@[simp] theorem State.setByte_scrubNext : ∀ (a : Nat) (b : Byte), (s.setByte a b).scrubNext = s.scrubNext := fun _ _ => rfl
@[simp] theorem State.setByte_scrubAt : ∀ (a : Nat) (b : Byte), (s.setByte a b).scrubAt = s.scrubAt := fun _ _ => rfl
@[simp] theorem State.setByte_pair : ∀ (a : Nat) (b : Byte), (s.setByte a b).pair = s.pair := fun _ _ => rfl
@[simp] theorem State.setByte_podRecs : ∀ (a : Nat) (b : Byte), (s.setByte a b).podRecs = s.podRecs := fun _ _ => rfl
@[simp] theorem State.setByte_ports : ∀ (a : Nat) (b : Byte), (s.setByte a b).ports = s.ports := fun _ _ => rfl
@[simp] theorem State.setByte_lockBusy : ∀ (a : Nat) (b : Byte), (s.setByte a b).lockBusy = s.lockBusy := fun _ _ => rfl
@[simp] theorem State.setByte_mbxCap : ∀ (a : Nat) (b : Byte), (s.setByte a b).mbxCap = s.mbxCap := fun _ _ => rfl
@[simp] theorem State.setByte_swReset : ∀ (a : Nat) (b : Byte), (s.setByte a b).swReset = s.swReset := fun _ _ => rfl

/-! State.note writes updated only. -/

@[simp] theorem State.note_pending : ∀ k, (s.note k).pending = s.pending := fun _ => rfl
@[simp] theorem State.note_tick : ∀ k, (s.note k).tick = s.tick := fun _ => rfl
@[simp] theorem State.note_rc : ∀ k, (s.note k).rc = s.rc := fun _ => rfl
@[simp] theorem State.note_dlAt : ∀ k, (s.note k).dlAt = s.dlAt := fun _ => rfl
@[simp] theorem State.note_dlPrev : ∀ k, (s.note k).dlPrev = s.dlPrev := fun _ => rfl
@[simp] theorem State.note_dlStage : ∀ k, (s.note k).dlStage = s.dlStage := fun _ => rfl
@[simp] theorem State.note_regs : ∀ k, (s.note k).regs = s.regs := fun _ => rfl
@[simp] theorem State.note_mem : ∀ k, (s.note k).mem = s.mem := fun _ => rfl
@[simp] theorem State.note_badParity : ∀ k, (s.note k).badParity = s.badParity := fun _ => rfl
@[simp] theorem State.note_holds : ∀ k, (s.note k).holds = s.holds := fun _ => rfl
@[simp] theorem State.note_evSeen : ∀ k, (s.note k).evSeen = s.evSeen := fun _ => rfl
@[simp] theorem State.note_evNow : ∀ k, (s.note k).evNow = s.evNow := fun _ => rfl
@[simp] theorem State.note_pulse : ∀ k, (s.note k).pulse = s.pulse := fun _ => rfl
@[simp] theorem State.note_freeCtr : ∀ k, (s.note k).freeCtr = s.freeCtr := fun _ => rfl
@[simp] theorem State.note_boot : ∀ k, (s.note k).boot = s.boot := fun _ => rfl
@[simp] theorem State.note_porBoot : ∀ k, (s.note k).porBoot = s.porBoot := fun _ => rfl
@[simp] theorem State.note_refLate : ∀ k, (s.note k).refLate = s.refLate := fun _ => rfl
@[simp] theorem State.note_conv : ∀ k, (s.note k).conv = s.conv := fun _ => rfl
@[simp] theorem State.note_convPhases : ∀ k, (s.note k).convPhases = s.convPhases := fun _ => rfl
@[simp] theorem State.note_failedCheck : ∀ k, (s.note k).failedCheck = s.failedCheck := fun _ => rfl
@[simp] theorem State.note_stages : ∀ k, (s.note k).stages = s.stages := fun _ => rfl
@[simp] theorem State.note_srcActive : ∀ k, (s.note k).srcActive = s.srcActive := fun _ => rfl
@[simp] theorem State.note_cmpRaw : ∀ k, (s.note k).cmpRaw = s.cmpRaw := fun _ => rfl
@[simp] theorem State.note_notReady : ∀ k, (s.note k).notReady = s.notReady := fun _ => rfl
@[simp] theorem State.note_qty : ∀ k, (s.note k).qty = s.qty := fun _ => rfl
@[simp] theorem State.note_outHold : ∀ k, (s.note k).outHold = s.outHold := fun _ => rfl
@[simp] theorem State.note_trans : ∀ k, (s.note k).trans = s.trans := fun _ => rfl
@[simp] theorem State.note_afterDis : ∀ k, (s.note k).afterDis = s.afterDis := fun _ => rfl
@[simp] theorem State.note_fromReady : ∀ k, (s.note k).fromReady = s.fromReady := fun _ => rfl
@[simp] theorem State.note_authKeep : ∀ k, (s.note k).authKeep = s.authKeep := fun _ => rfl
@[simp] theorem State.note_preOn : ∀ k, (s.note k).preOn = s.preOn := fun _ => rfl
@[simp] theorem State.note_regDisAt : ∀ k, (s.note k).regDisAt = s.regDisAt := fun _ => rfl
@[simp] theorem State.note_flips : ∀ k, (s.note k).flips = s.flips := fun _ => rfl
@[simp] theorem State.note_uncorr : ∀ k, (s.note k).uncorr = s.uncorr := fun _ => rfl
@[simp] theorem State.note_passCorr : ∀ k, (s.note k).passCorr = s.passCorr := fun _ => rfl
@[simp] theorem State.note_passStart : ∀ k, (s.note k).passStart = s.passStart := fun _ => rfl
@[simp] theorem State.note_pods : ∀ k, (s.note k).pods = s.pods := fun _ => rfl
@[simp] theorem State.note_ready : ∀ k, (s.note k).ready = s.ready := fun _ => rfl
@[simp] theorem State.note_refs : ∀ k, (s.note k).refs = s.refs := fun _ => rfl
@[simp] theorem State.note_refOwner : ∀ k, (s.note k).refOwner = s.refOwner := fun _ => rfl
@[simp] theorem State.note_terms : ∀ k, (s.note k).terms = s.terms := fun _ => rfl
@[simp] theorem State.note_arenaPrev : ∀ k, (s.note k).arenaPrev = s.arenaPrev := fun _ => rfl
@[simp] theorem State.note_typeSeen : ∀ k, (s.note k).typeSeen = s.typeSeen := fun _ => rfl
@[simp] theorem State.note_rotNext : ∀ k, (s.note k).rotNext = s.rotNext := fun _ => rfl
@[simp] theorem State.note_laneAway : ∀ k, (s.note k).laneAway = s.laneAway := fun _ => rfl
@[simp] theorem State.note_laneBad : ∀ k, (s.note k).laneBad = s.laneBad := fun _ => rfl
@[simp] theorem State.note_testAt : ∀ k, (s.note k).testAt = s.testAt := fun _ => rfl
@[simp] theorem State.note_wrote : ∀ k, (s.note k).wrote = s.wrote := fun _ => rfl
@[simp] theorem State.note_books : ∀ k, (s.note k).books = s.books := fun _ => rfl
@[simp] theorem State.note_trac : ∀ k, (s.note k).trac = s.trac := fun _ => rfl
@[simp] theorem State.note_link : ∀ k, (s.note k).link = s.link := fun _ => rfl
@[simp] theorem State.note_discharged : ∀ k, (s.note k).discharged = s.discharged := fun _ => rfl
@[simp] theorem State.note_pilot : ∀ k, (s.note k).pilot = s.pilot := fun _ => rfl
@[simp] theorem State.note_kern : ∀ k, (s.note k).kern = s.kern := fun _ => rfl
@[simp] theorem State.note_chans : ∀ k, (s.note k).chans = s.chans := fun _ => rfl
@[simp] theorem State.note_convs : ∀ k, (s.note k).convs = s.convs := fun _ => rfl
@[simp] theorem State.note_gainInv : ∀ k, (s.note k).gainInv = s.gainInv := fun _ => rfl
@[simp] theorem State.note_calFailed : ∀ k, (s.note k).calFailed = s.calFailed := fun _ => rfl
@[simp] theorem State.note_seqs : ∀ k, (s.note k).seqs = s.seqs := fun _ => rfl
@[simp] theorem State.note_cans : ∀ k, (s.note k).cans = s.cans := fun _ => rfl
@[simp] theorem State.note_mapDue : ∀ k, (s.note k).mapDue = s.mapDue := fun _ => rfl
@[simp] theorem State.note_switchCad : ∀ k, (s.note k).switchCad = s.switchCad := fun _ => rfl
@[simp] theorem State.note_checkBankNo : ∀ k, (s.note k).checkBankNo = s.checkBankNo := fun _ => rfl
@[simp] theorem State.note_souts : ∀ k, (s.note k).souts = s.souts := fun _ => rfl
@[simp] theorem State.note_testFail : ∀ k, (s.note k).testFail = s.testFail := fun _ => rfl
@[simp] theorem State.note_sfk : ∀ k, (s.note k).sfk = s.sfk := fun _ => rfl
@[simp] theorem State.note_stoIn : ∀ k, (s.note k).stoIn = s.stoIn := fun _ => rfl
@[simp] theorem State.note_stoSoft : ∀ k, (s.note k).stoSoft = s.stoSoft := fun _ => rfl
@[simp] theorem State.note_stoSoftAt : ∀ k, (s.note k).stoSoftAt = s.stoSoftAt := fun _ => rfl
@[simp] theorem State.note_stoD4 : ∀ k, (s.note k).stoD4 = s.stoD4 := fun _ => rfl
@[simp] theorem State.note_stoDiff : ∀ k, (s.note k).stoDiff = s.stoDiff := fun _ => rfl
@[simp] theorem State.note_stoDisc : ∀ k, (s.note k).stoDisc = s.stoDisc := fun _ => rfl
@[simp] theorem State.note_shUnits : ∀ k, (s.note k).shUnits = s.shUnits := fun _ => rfl
@[simp] theorem State.note_lossAt : ∀ k, (s.note k).lossAt = s.lossAt := fun _ => rfl
@[simp] theorem State.note_tbBad : ∀ k, (s.note k).tbBad = s.tbBad := fun _ => rfl
@[simp] theorem State.note_tbWin : ∀ k, (s.note k).tbWin = s.tbWin := fun _ => rfl
@[simp] theorem State.note_vcore : ∀ k, (s.note k).vcore = s.vcore := fun _ => rfl
@[simp] theorem State.note_sigBad : ∀ k, (s.note k).sigBad = s.sigBad := fun _ => rfl
@[simp] theorem State.note_cads : ∀ k, (s.note k).cads = s.cads := fun _ => rfl
@[simp] theorem State.note_slots : ∀ k, (s.note k).slots = s.slots := fun _ => rfl
@[simp] theorem State.note_thermDue : ∀ k, (s.note k).thermDue = s.thermDue := fun _ => rfl
@[simp] theorem State.note_scrubNext : ∀ k, (s.note k).scrubNext = s.scrubNext := fun _ => rfl
@[simp] theorem State.note_scrubAt : ∀ k, (s.note k).scrubAt = s.scrubAt := fun _ => rfl
@[simp] theorem State.note_pair : ∀ k, (s.note k).pair = s.pair := fun _ => rfl
@[simp] theorem State.note_podRecs : ∀ k, (s.note k).podRecs = s.podRecs := fun _ => rfl
@[simp] theorem State.note_ports : ∀ k, (s.note k).ports = s.ports := fun _ => rfl
@[simp] theorem State.note_lockBusy : ∀ k, (s.note k).lockBusy = s.lockBusy := fun _ => rfl
@[simp] theorem State.note_mbxCap : ∀ k, (s.note k).mbxCap = s.mbxCap := fun _ => rfl
@[simp] theorem State.note_swReset : ∀ k, (s.note k).swReset = s.swReset := fun _ => rfl

/-! State.fresh writes freeCtr only. -/

@[simp] theorem State.fresh_pending : State.pending (State.fresh s) = s.pending := rfl
@[simp] theorem State.fresh_tick : State.tick (State.fresh s) = s.tick := rfl
@[simp] theorem State.fresh_rc : State.rc (State.fresh s) = s.rc := rfl
@[simp] theorem State.fresh_dlAt : State.dlAt (State.fresh s) = s.dlAt := rfl
@[simp] theorem State.fresh_dlPrev : State.dlPrev (State.fresh s) = s.dlPrev := rfl
@[simp] theorem State.fresh_dlStage : State.dlStage (State.fresh s) = s.dlStage := rfl
@[simp] theorem State.fresh_regs : State.regs (State.fresh s) = s.regs := rfl
@[simp] theorem State.fresh_mem : State.mem (State.fresh s) = s.mem := rfl
@[simp] theorem State.fresh_badParity : State.badParity (State.fresh s) = s.badParity := rfl
@[simp] theorem State.fresh_holds : State.holds (State.fresh s) = s.holds := rfl
@[simp] theorem State.fresh_evSeen : State.evSeen (State.fresh s) = s.evSeen := rfl
@[simp] theorem State.fresh_evNow : State.evNow (State.fresh s) = s.evNow := rfl
@[simp] theorem State.fresh_pulse : State.pulse (State.fresh s) = s.pulse := rfl
@[simp] theorem State.fresh_boot : State.boot (State.fresh s) = s.boot := rfl
@[simp] theorem State.fresh_porBoot : State.porBoot (State.fresh s) = s.porBoot := rfl
@[simp] theorem State.fresh_refLate : State.refLate (State.fresh s) = s.refLate := rfl
@[simp] theorem State.fresh_conv : State.conv (State.fresh s) = s.conv := rfl
@[simp] theorem State.fresh_convPhases : State.convPhases (State.fresh s) = s.convPhases := rfl
@[simp] theorem State.fresh_failedCheck : State.failedCheck (State.fresh s) = s.failedCheck := rfl
@[simp] theorem State.fresh_stages : State.stages (State.fresh s) = s.stages := rfl
@[simp] theorem State.fresh_srcActive : State.srcActive (State.fresh s) = s.srcActive := rfl
@[simp] theorem State.fresh_cmpRaw : State.cmpRaw (State.fresh s) = s.cmpRaw := rfl
@[simp] theorem State.fresh_notReady : State.notReady (State.fresh s) = s.notReady := rfl
@[simp] theorem State.fresh_qty : State.qty (State.fresh s) = s.qty := rfl
@[simp] theorem State.fresh_outHold : State.outHold (State.fresh s) = s.outHold := rfl
@[simp] theorem State.fresh_trans : State.trans (State.fresh s) = s.trans := rfl
@[simp] theorem State.fresh_afterDis : State.afterDis (State.fresh s) = s.afterDis := rfl
@[simp] theorem State.fresh_fromReady : State.fromReady (State.fresh s) = s.fromReady := rfl
@[simp] theorem State.fresh_authKeep : State.authKeep (State.fresh s) = s.authKeep := rfl
@[simp] theorem State.fresh_preOn : State.preOn (State.fresh s) = s.preOn := rfl
@[simp] theorem State.fresh_regDisAt : State.regDisAt (State.fresh s) = s.regDisAt := rfl
@[simp] theorem State.fresh_flips : State.flips (State.fresh s) = s.flips := rfl
@[simp] theorem State.fresh_uncorr : State.uncorr (State.fresh s) = s.uncorr := rfl
@[simp] theorem State.fresh_passCorr : State.passCorr (State.fresh s) = s.passCorr := rfl
@[simp] theorem State.fresh_passStart : State.passStart (State.fresh s) = s.passStart := rfl
@[simp] theorem State.fresh_pods : State.pods (State.fresh s) = s.pods := rfl
@[simp] theorem State.fresh_ready : State.ready (State.fresh s) = s.ready := rfl
@[simp] theorem State.fresh_refs : State.refs (State.fresh s) = s.refs := rfl
@[simp] theorem State.fresh_refOwner : State.refOwner (State.fresh s) = s.refOwner := rfl
@[simp] theorem State.fresh_terms : State.terms (State.fresh s) = s.terms := rfl
@[simp] theorem State.fresh_arenaPrev : State.arenaPrev (State.fresh s) = s.arenaPrev := rfl
@[simp] theorem State.fresh_typeSeen : State.typeSeen (State.fresh s) = s.typeSeen := rfl
@[simp] theorem State.fresh_rotNext : State.rotNext (State.fresh s) = s.rotNext := rfl
@[simp] theorem State.fresh_laneAway : State.laneAway (State.fresh s) = s.laneAway := rfl
@[simp] theorem State.fresh_laneBad : State.laneBad (State.fresh s) = s.laneBad := rfl
@[simp] theorem State.fresh_testAt : State.testAt (State.fresh s) = s.testAt := rfl
@[simp] theorem State.fresh_wrote : State.wrote (State.fresh s) = s.wrote := rfl
@[simp] theorem State.fresh_updated : State.updated (State.fresh s) = s.updated := rfl
@[simp] theorem State.fresh_books : State.books (State.fresh s) = s.books := rfl
@[simp] theorem State.fresh_trac : State.trac (State.fresh s) = s.trac := rfl
@[simp] theorem State.fresh_link : State.link (State.fresh s) = s.link := rfl
@[simp] theorem State.fresh_discharged : State.discharged (State.fresh s) = s.discharged := rfl
@[simp] theorem State.fresh_pilot : State.pilot (State.fresh s) = s.pilot := rfl
@[simp] theorem State.fresh_kern : State.kern (State.fresh s) = s.kern := rfl
@[simp] theorem State.fresh_chans : State.chans (State.fresh s) = s.chans := rfl
@[simp] theorem State.fresh_convs : State.convs (State.fresh s) = s.convs := rfl
@[simp] theorem State.fresh_gainInv : State.gainInv (State.fresh s) = s.gainInv := rfl
@[simp] theorem State.fresh_calFailed : State.calFailed (State.fresh s) = s.calFailed := rfl
@[simp] theorem State.fresh_seqs : State.seqs (State.fresh s) = s.seqs := rfl
@[simp] theorem State.fresh_cans : State.cans (State.fresh s) = s.cans := rfl
@[simp] theorem State.fresh_mapDue : State.mapDue (State.fresh s) = s.mapDue := rfl
@[simp] theorem State.fresh_switchCad : State.switchCad (State.fresh s) = s.switchCad := rfl
@[simp] theorem State.fresh_checkBankNo : State.checkBankNo (State.fresh s) = s.checkBankNo := rfl
@[simp] theorem State.fresh_souts : State.souts (State.fresh s) = s.souts := rfl
@[simp] theorem State.fresh_testFail : State.testFail (State.fresh s) = s.testFail := rfl
@[simp] theorem State.fresh_sfk : State.sfk (State.fresh s) = s.sfk := rfl
@[simp] theorem State.fresh_stoIn : State.stoIn (State.fresh s) = s.stoIn := rfl
@[simp] theorem State.fresh_stoSoft : State.stoSoft (State.fresh s) = s.stoSoft := rfl
@[simp] theorem State.fresh_stoSoftAt : State.stoSoftAt (State.fresh s) = s.stoSoftAt := rfl
@[simp] theorem State.fresh_stoD4 : State.stoD4 (State.fresh s) = s.stoD4 := rfl
@[simp] theorem State.fresh_stoDiff : State.stoDiff (State.fresh s) = s.stoDiff := rfl
@[simp] theorem State.fresh_stoDisc : State.stoDisc (State.fresh s) = s.stoDisc := rfl
@[simp] theorem State.fresh_shUnits : State.shUnits (State.fresh s) = s.shUnits := rfl
@[simp] theorem State.fresh_lossAt : State.lossAt (State.fresh s) = s.lossAt := rfl
@[simp] theorem State.fresh_tbBad : State.tbBad (State.fresh s) = s.tbBad := rfl
@[simp] theorem State.fresh_tbWin : State.tbWin (State.fresh s) = s.tbWin := rfl
@[simp] theorem State.fresh_vcore : State.vcore (State.fresh s) = s.vcore := rfl
@[simp] theorem State.fresh_sigBad : State.sigBad (State.fresh s) = s.sigBad := rfl
@[simp] theorem State.fresh_cads : State.cads (State.fresh s) = s.cads := rfl
@[simp] theorem State.fresh_slots : State.slots (State.fresh s) = s.slots := rfl
@[simp] theorem State.fresh_thermDue : State.thermDue (State.fresh s) = s.thermDue := rfl
@[simp] theorem State.fresh_scrubNext : State.scrubNext (State.fresh s) = s.scrubNext := rfl
@[simp] theorem State.fresh_scrubAt : State.scrubAt (State.fresh s) = s.scrubAt := rfl
@[simp] theorem State.fresh_pair : State.pair (State.fresh s) = s.pair := rfl
@[simp] theorem State.fresh_podRecs : State.podRecs (State.fresh s) = s.podRecs := rfl
@[simp] theorem State.fresh_ports : State.ports (State.fresh s) = s.ports := rfl
@[simp] theorem State.fresh_lockBusy : State.lockBusy (State.fresh s) = s.lockBusy := rfl
@[simp] theorem State.fresh_mbxCap : State.mbxCap (State.fresh s) = s.mbxCap := rfl
@[simp] theorem State.fresh_swReset : State.swReset (State.fresh s) = s.swReset := rfl

/-! What an update writes. -/

@[simp] theorem State.setW_regs (a : Nat) (w : Word) : (s.setW a w).regs = sset resetWordAt s.regs a w := rfl
@[simp] theorem State.setByte_mem (a : Nat) (b : Byte) : (s.setByte a b).mem = sset memDefault s.mem a b := rfl
@[simp] theorem State.fresh_freeCtr : s.fresh.freeCtr = s.freeCtr + 1 := rfl
@[simp] theorem State.note_updated (k : Nat) : (s.note k).updated = noteAt s.now k s.updated := rfl
@[simp] theorem State.setByte_getW (a : Nat) (b : Byte) (k : Nat) : (s.setByte a b).getW k = s.getW k := rfl
@[simp] theorem State.note_getW (k a : Nat) : (s.note k).getW a = s.getW a := rfl
@[simp] theorem State.setW_byte (a : Nat) (w : Word) (k : Nat) : (s.setW a w).byte k = s.byte k := rfl
@[simp] theorem State.set_byte (u : Unit) (f : Fld) (v k : Nat) : (s.set u f v).byte k = s.byte k := rfl

/-! The time of a command moves the tick, or the count of the RC oscillator, and nothing else. -/

@[simp] theorem State.at_pending : ∀ t, (s.at t).pending = s.pending := fun _ => by simp only [State.at]; split <;> rfl
@[simp] theorem State.at_dlAt : ∀ t, (s.at t).dlAt = s.dlAt := fun _ => by simp only [State.at]; split <;> rfl
@[simp] theorem State.at_dlPrev : ∀ t, (s.at t).dlPrev = s.dlPrev := fun _ => by simp only [State.at]; split <;> rfl
@[simp] theorem State.at_dlStage : ∀ t, (s.at t).dlStage = s.dlStage := fun _ => by simp only [State.at]; split <;> rfl
@[simp] theorem State.at_regs : ∀ t, (s.at t).regs = s.regs := fun _ => by simp only [State.at]; split <;> rfl
@[simp] theorem State.at_mem : ∀ t, (s.at t).mem = s.mem := fun _ => by simp only [State.at]; split <;> rfl
@[simp] theorem State.at_badParity : ∀ t, (s.at t).badParity = s.badParity := fun _ => by simp only [State.at]; split <;> rfl
@[simp] theorem State.at_holds : ∀ t, (s.at t).holds = s.holds := fun _ => by simp only [State.at]; split <;> rfl
@[simp] theorem State.at_evSeen : ∀ t, (s.at t).evSeen = s.evSeen := fun _ => by simp only [State.at]; split <;> rfl
@[simp] theorem State.at_evNow : ∀ t, (s.at t).evNow = s.evNow := fun _ => by simp only [State.at]; split <;> rfl
@[simp] theorem State.at_pulse : ∀ t, (s.at t).pulse = s.pulse := fun _ => by simp only [State.at]; split <;> rfl
@[simp] theorem State.at_freeCtr : ∀ t, (s.at t).freeCtr = s.freeCtr := fun _ => by simp only [State.at]; split <;> rfl
@[simp] theorem State.at_boot : ∀ t, (s.at t).boot = s.boot := fun _ => by simp only [State.at]; split <;> rfl
@[simp] theorem State.at_porBoot : ∀ t, (s.at t).porBoot = s.porBoot := fun _ => by simp only [State.at]; split <;> rfl
@[simp] theorem State.at_refLate : ∀ t, (s.at t).refLate = s.refLate := fun _ => by simp only [State.at]; split <;> rfl
@[simp] theorem State.at_conv : ∀ t, (s.at t).conv = s.conv := fun _ => by simp only [State.at]; split <;> rfl
@[simp] theorem State.at_convPhases : ∀ t, (s.at t).convPhases = s.convPhases := fun _ => by simp only [State.at]; split <;> rfl
@[simp] theorem State.at_failedCheck : ∀ t, (s.at t).failedCheck = s.failedCheck := fun _ => by simp only [State.at]; split <;> rfl
@[simp] theorem State.at_stages : ∀ t, (s.at t).stages = s.stages := fun _ => by simp only [State.at]; split <;> rfl
@[simp] theorem State.at_srcActive : ∀ t, (s.at t).srcActive = s.srcActive := fun _ => by simp only [State.at]; split <;> rfl
@[simp] theorem State.at_cmpRaw : ∀ t, (s.at t).cmpRaw = s.cmpRaw := fun _ => by simp only [State.at]; split <;> rfl
@[simp] theorem State.at_notReady : ∀ t, (s.at t).notReady = s.notReady := fun _ => by simp only [State.at]; split <;> rfl
@[simp] theorem State.at_qty : ∀ t, (s.at t).qty = s.qty := fun _ => by simp only [State.at]; split <;> rfl
@[simp] theorem State.at_outHold : ∀ t, (s.at t).outHold = s.outHold := fun _ => by simp only [State.at]; split <;> rfl
@[simp] theorem State.at_trans : ∀ t, (s.at t).trans = s.trans := fun _ => by simp only [State.at]; split <;> rfl
@[simp] theorem State.at_afterDis : ∀ t, (s.at t).afterDis = s.afterDis := fun _ => by simp only [State.at]; split <;> rfl
@[simp] theorem State.at_fromReady : ∀ t, (s.at t).fromReady = s.fromReady := fun _ => by simp only [State.at]; split <;> rfl
@[simp] theorem State.at_authKeep : ∀ t, (s.at t).authKeep = s.authKeep := fun _ => by simp only [State.at]; split <;> rfl
@[simp] theorem State.at_preOn : ∀ t, (s.at t).preOn = s.preOn := fun _ => by simp only [State.at]; split <;> rfl
@[simp] theorem State.at_regDisAt : ∀ t, (s.at t).regDisAt = s.regDisAt := fun _ => by simp only [State.at]; split <;> rfl
@[simp] theorem State.at_flips : ∀ t, (s.at t).flips = s.flips := fun _ => by simp only [State.at]; split <;> rfl
@[simp] theorem State.at_uncorr : ∀ t, (s.at t).uncorr = s.uncorr := fun _ => by simp only [State.at]; split <;> rfl
@[simp] theorem State.at_passCorr : ∀ t, (s.at t).passCorr = s.passCorr := fun _ => by simp only [State.at]; split <;> rfl
@[simp] theorem State.at_passStart : ∀ t, (s.at t).passStart = s.passStart := fun _ => by simp only [State.at]; split <;> rfl
@[simp] theorem State.at_pods : ∀ t, (s.at t).pods = s.pods := fun _ => by simp only [State.at]; split <;> rfl
@[simp] theorem State.at_ready : ∀ t, (s.at t).ready = s.ready := fun _ => by simp only [State.at]; split <;> rfl
@[simp] theorem State.at_refs : ∀ t, (s.at t).refs = s.refs := fun _ => by simp only [State.at]; split <;> rfl
@[simp] theorem State.at_refOwner : ∀ t, (s.at t).refOwner = s.refOwner := fun _ => by simp only [State.at]; split <;> rfl
@[simp] theorem State.at_terms : ∀ t, (s.at t).terms = s.terms := fun _ => by simp only [State.at]; split <;> rfl
@[simp] theorem State.at_arenaPrev : ∀ t, (s.at t).arenaPrev = s.arenaPrev := fun _ => by simp only [State.at]; split <;> rfl
@[simp] theorem State.at_typeSeen : ∀ t, (s.at t).typeSeen = s.typeSeen := fun _ => by simp only [State.at]; split <;> rfl
@[simp] theorem State.at_rotNext : ∀ t, (s.at t).rotNext = s.rotNext := fun _ => by simp only [State.at]; split <;> rfl
@[simp] theorem State.at_laneAway : ∀ t, (s.at t).laneAway = s.laneAway := fun _ => by simp only [State.at]; split <;> rfl
@[simp] theorem State.at_laneBad : ∀ t, (s.at t).laneBad = s.laneBad := fun _ => by simp only [State.at]; split <;> rfl
@[simp] theorem State.at_testAt : ∀ t, (s.at t).testAt = s.testAt := fun _ => by simp only [State.at]; split <;> rfl
@[simp] theorem State.at_wrote : ∀ t, (s.at t).wrote = s.wrote := fun _ => by simp only [State.at]; split <;> rfl
@[simp] theorem State.at_updated : ∀ t, (s.at t).updated = s.updated := fun _ => by simp only [State.at]; split <;> rfl
@[simp] theorem State.at_books : ∀ t, (s.at t).books = s.books := fun _ => by simp only [State.at]; split <;> rfl
@[simp] theorem State.at_trac : ∀ t, (s.at t).trac = s.trac := fun _ => by simp only [State.at]; split <;> rfl
@[simp] theorem State.at_link : ∀ t, (s.at t).link = s.link := fun _ => by simp only [State.at]; split <;> rfl
@[simp] theorem State.at_discharged : ∀ t, (s.at t).discharged = s.discharged := fun _ => by simp only [State.at]; split <;> rfl
@[simp] theorem State.at_pilot : ∀ t, (s.at t).pilot = s.pilot := fun _ => by simp only [State.at]; split <;> rfl
@[simp] theorem State.at_kern : ∀ t, (s.at t).kern = s.kern := fun _ => by simp only [State.at]; split <;> rfl
@[simp] theorem State.at_chans : ∀ t, (s.at t).chans = s.chans := fun _ => by simp only [State.at]; split <;> rfl
@[simp] theorem State.at_convs : ∀ t, (s.at t).convs = s.convs := fun _ => by simp only [State.at]; split <;> rfl
@[simp] theorem State.at_gainInv : ∀ t, (s.at t).gainInv = s.gainInv := fun _ => by simp only [State.at]; split <;> rfl
@[simp] theorem State.at_calFailed : ∀ t, (s.at t).calFailed = s.calFailed := fun _ => by simp only [State.at]; split <;> rfl
@[simp] theorem State.at_seqs : ∀ t, (s.at t).seqs = s.seqs := fun _ => by simp only [State.at]; split <;> rfl
@[simp] theorem State.at_cans : ∀ t, (s.at t).cans = s.cans := fun _ => by simp only [State.at]; split <;> rfl
@[simp] theorem State.at_mapDue : ∀ t, (s.at t).mapDue = s.mapDue := fun _ => by simp only [State.at]; split <;> rfl
@[simp] theorem State.at_switchCad : ∀ t, (s.at t).switchCad = s.switchCad := fun _ => by simp only [State.at]; split <;> rfl
@[simp] theorem State.at_checkBankNo : ∀ t, (s.at t).checkBankNo = s.checkBankNo := fun _ => by simp only [State.at]; split <;> rfl
@[simp] theorem State.at_souts : ∀ t, (s.at t).souts = s.souts := fun _ => by simp only [State.at]; split <;> rfl
@[simp] theorem State.at_testFail : ∀ t, (s.at t).testFail = s.testFail := fun _ => by simp only [State.at]; split <;> rfl
@[simp] theorem State.at_sfk : ∀ t, (s.at t).sfk = s.sfk := fun _ => by simp only [State.at]; split <;> rfl
@[simp] theorem State.at_stoIn : ∀ t, (s.at t).stoIn = s.stoIn := fun _ => by simp only [State.at]; split <;> rfl
@[simp] theorem State.at_stoSoft : ∀ t, (s.at t).stoSoft = s.stoSoft := fun _ => by simp only [State.at]; split <;> rfl
@[simp] theorem State.at_stoSoftAt : ∀ t, (s.at t).stoSoftAt = s.stoSoftAt := fun _ => by simp only [State.at]; split <;> rfl
@[simp] theorem State.at_stoD4 : ∀ t, (s.at t).stoD4 = s.stoD4 := fun _ => by simp only [State.at]; split <;> rfl
@[simp] theorem State.at_stoDiff : ∀ t, (s.at t).stoDiff = s.stoDiff := fun _ => by simp only [State.at]; split <;> rfl
@[simp] theorem State.at_stoDisc : ∀ t, (s.at t).stoDisc = s.stoDisc := fun _ => by simp only [State.at]; split <;> rfl
@[simp] theorem State.at_shUnits : ∀ t, (s.at t).shUnits = s.shUnits := fun _ => by simp only [State.at]; split <;> rfl
@[simp] theorem State.at_lossAt : ∀ t, (s.at t).lossAt = s.lossAt := fun _ => by simp only [State.at]; split <;> rfl
@[simp] theorem State.at_tbBad : ∀ t, (s.at t).tbBad = s.tbBad := fun _ => by simp only [State.at]; split <;> rfl
@[simp] theorem State.at_tbWin : ∀ t, (s.at t).tbWin = s.tbWin := fun _ => by simp only [State.at]; split <;> rfl
@[simp] theorem State.at_vcore : ∀ t, (s.at t).vcore = s.vcore := fun _ => by simp only [State.at]; split <;> rfl
@[simp] theorem State.at_sigBad : ∀ t, (s.at t).sigBad = s.sigBad := fun _ => by simp only [State.at]; split <;> rfl
@[simp] theorem State.at_cads : ∀ t, (s.at t).cads = s.cads := fun _ => by simp only [State.at]; split <;> rfl
@[simp] theorem State.at_slots : ∀ t, (s.at t).slots = s.slots := fun _ => by simp only [State.at]; split <;> rfl
@[simp] theorem State.at_thermDue : ∀ t, (s.at t).thermDue = s.thermDue := fun _ => by simp only [State.at]; split <;> rfl
@[simp] theorem State.at_scrubNext : ∀ t, (s.at t).scrubNext = s.scrubNext := fun _ => by simp only [State.at]; split <;> rfl
@[simp] theorem State.at_scrubAt : ∀ t, (s.at t).scrubAt = s.scrubAt := fun _ => by simp only [State.at]; split <;> rfl
@[simp] theorem State.at_pair : ∀ t, (s.at t).pair = s.pair := fun _ => by simp only [State.at]; split <;> rfl
@[simp] theorem State.at_podRecs : ∀ t, (s.at t).podRecs = s.podRecs := fun _ => by simp only [State.at]; split <;> rfl
@[simp] theorem State.at_ports : ∀ t, (s.at t).ports = s.ports := fun _ => by simp only [State.at]; split <;> rfl
@[simp] theorem State.at_lockBusy : ∀ t, (s.at t).lockBusy = s.lockBusy := fun _ => by simp only [State.at]; split <;> rfl
@[simp] theorem State.at_mbxCap : ∀ t, (s.at t).mbxCap = s.mbxCap := fun _ => by simp only [State.at]; split <;> rfl
@[simp] theorem State.at_swReset : ∀ t, (s.at t).swReset = s.swReset := fun _ => by simp only [State.at]; split <;> rfl

@[simp] theorem State.at_getW (t a : Nat) : (s.at t).getW a = s.getW a := by simp [State.getW]
@[simp] theorem State.at_get (t : Nat) (u : Unit) (f : Fld) : (s.at t).get u f = s.get u f := by simp [State.get]
@[simp] theorem State.at_on (t : Nat) (u : Unit) (f : Fld) : (s.at t).on u f = s.on u f := by simp [State.on]
@[simp] theorem State.at_byte (t a : Nat) : (s.at t).byte a = s.byte a := by simp [State.byte]

/-- The time of a command never goes backwards. -/
theorem State.tick_le_at (t : Nat) : s.tick ≤ (s.at t).tick := by
  unfold State.at
  split
  · exact Nat.le_max_left _ _
  · exact Nat.le_refl _

end Sys2Proof.Machine
end

