-- ==== Sys2Proof/Laws/Memory.lean ====
section
/-!
SUPPORT. Laws of the two memories: what a byte reads as after a write, and that every memory operation keeps the canonical
form.
-/

namespace Sys2Proof.Machine

/-! One byte. -/

@[simp] theorem State.byte_setByte_same (s : State) (a : Nat) (b : Byte) : (s.setByte a b).byte a = b := by
  simp [State.byte]

theorem State.byte_setByte_other (s : State) (b : Byte) {a a' : Nat} (h : a' ≠ a) :
    (s.setByte a b).byte a' = s.byte a' := by
  simp [State.byte, sget_sset_other _ _ h]

/-- A word write touches its four bytes only. -/
theorem State.byte_setMemWord_other (s : State) (w : Word) (be : Nat) {a k : Nat} (h : k < a ∨ a + 3 < k) :
    (s.setMemWord a w be).byte k = s.byte k := by
  have h0 : k ≠ a := by omega
  have h1 : k ≠ a + 1 := by omega
  have h2 : k ≠ a + 2 := by omega
  have h3 : k ≠ a + 3 := by omega
  simp only [State.setMemWord]
  split <;> split <;> split <;> split <;>
    simp [State.byte_setByte_other, h0, h1, h2, h3]

/-- A word written with every byte enabled reads back. -/
theorem State.memWord_setMemWord (s : State) (a : Nat) (w : Word) : (s.setMemWord a w 15).memWord a = w := by
  have e0 : (15 : Nat).testBit 0 = true := rfl
  have e1 : (15 : Nat).testBit 1 = true := rfl
  have e2 : (15 : Nat).testBit 2 = true := rfl
  have e3 : (15 : Nat).testBit 3 = true := rfl
  have h : (s.setMemWord a w 15).memWord a = byteOf 3 w ++ byteOf 2 w ++ byteOf 1 w ++ byteOf 0 w := by
    simp only [State.memWord, State.setMemWord, e0, e1, e2, e3, if_true]
    have n1 : a ≠ a + 1 := by omega
    have n2 : a ≠ a + 2 := by omega
    have n3 : a ≠ a + 3 := by omega
    have n4 : a + 1 ≠ a + 2 := by omega
    have n5 : a + 1 ≠ a + 3 := by omega
    have n6 : a + 2 ≠ a + 3 := by omega
    rw [State.byte_setByte_same, State.byte_setByte_other _ _ n6, State.byte_setByte_same,
      State.byte_setByte_other _ _ n5, State.byte_setByte_other _ _ n4, State.byte_setByte_same,
      State.byte_setByte_other _ _ n3, State.byte_setByte_other _ _ n2, State.byte_setByte_other _ _ n1,
      State.byte_setByte_same]
  rw [h]
  apply BitVec.eq_of_getLsbD_eq
  intro i hi
  simp only [BitVec.getLsbD_append, byteOf, BitVec.getLsbD_extractLsb']
  by_cases h1 : i < 8
  · simp [h1]
  · by_cases h2 : i - 8 < 8
    · have : 8 + (i - 8) = i := by omega
      simp [h1, h2, this]
    · by_cases h3 : i - 8 - 8 < 8
      · have : 16 + (i - 8 - 8) = i := by omega
        simp [h1, h2, h3, this]
      · have : 24 + (i - 8 - 8 - 8) = i := by omega
        have h4 : i - 8 - 8 - 8 < 8 := by omega
        simp [h1, h2, h3, h4, this]

/-! The canonical form: every operation that writes memory keeps it. -/

theorem State.setByte_wf {s : State} (h : Memory.wf s.mem = true) (a : Nat) (b : Byte) :
    Memory.wf (s.setByte a b).mem = true := by
  simpa [Memory.wf] using scanon_sset h a b

theorem State.setMemWord_wf {s : State} (h : Memory.wf s.mem = true) (a : Nat) (w : Word) (be : Nat) :
    Memory.wf (s.setMemWord a w be).mem = true := by
  simp only [State.setMemWord]
  split <;> split <;> split <;> split <;> repeat (first | exact h | refine State.setByte_wf ?_ _ _)

theorem State.setMemWords_wf (ws : List Word) : ∀ {s : State} (_ : Memory.wf s.mem = true) (a : Nat),
    Memory.wf (s.setMemWords a ws).mem = true := by
  induction ws with
  | nil => intro s h a; exact h
  | cons w ws ih => intro s h a; exact ih (State.setMemWord_wf h a w 15) (a + 4)

/-- An invariant that one round keeps is kept by a fold over a list. -/
theorem forL_keeps {α : Type} {P : State → Prop} {f : α → State → State} (hf : ∀ x s, P s → P (f x s)) (l : List α) :
    ∀ {s : State}, P s → P (forL l f s) := by
  induction l with
  | nil => intro s h; exact h
  | cons x l ih => intro s h; exact ih (hf x s h)

/-- An invariant that one round keeps is kept by a fold over the numbers below `n`. -/
theorem forN_keeps {P : State → Prop} {f : Nat → State → State} (hf : ∀ i s, P s → P (f i s)) (n : Nat) {s : State}
    (h : P s) : P (forN n f s) := forL_keeps hf (List.range n) h

/-- The data bytes that a miscorrection changes are written byte by byte. -/
theorem State.xorData_wf {s : State} (h : Memory.wf s.mem = true) (c : Nat) (e : List (Nat × Byte)) :
    Memory.wf (s.xorData c e).mem = true := by
  unfold State.xorData
  simp only
  split
  · exact h
  · exact forL_keeps (P := fun s => Memory.wf s.mem = true) (fun p s hs => State.setByte_wf hs _ _) e h

theorem State.wakeMemory_wf (s : State) : Memory.wf s.wakeMemory.mem = true := rfl

theorem State.keepMemory_wf {s : State} (h : Memory.wf s.mem = true) (s' : State) :
    Memory.wf (s.keepMemory s').mem = true := h

theorem State.deviceReset_mem (s : State) (b : Boot) : (s.deviceReset b).mem = s.mem := by
  simp [State.deviceReset]

/-- A device reset keeps what the memories hold; the boot that follows initialises them (R574, R584). -/
theorem State.deviceReset_wf {s : State} (h : Memory.wf s.mem = true) (b : Boot) :
    Memory.wf (s.deviceReset b).mem = true := by
  rw [State.deviceReset_mem]; exact h

/-- Reset memory is canonical. -/
theorem reset_wf : Memory.wf State.reset.mem = true := rfl

end Sys2Proof.Machine
end

