-- ==== Sys2Proof/Laws/Signature.lean ====
section
/-!
SUPPORT. What the configuration signature does not read: its own reference.
-/

namespace Sys2Proof.Machine

/-- The reference of the signature is no word that the signature covers (R577). -/
theorem csref_not_covered (u : Unit) (hu : u ∈ allUnits) (k : Nat) (hk : k < 0x200)
    (h : u.addr (4 * k) = uPscrub.addr psc_CSREF_CRC.off) : kindMask .rwl (u.fieldsAt (4 * k)) = 0 := by
  have hp : ∀ v ∈ allUnits, v.page = uPscrub.page → v = uPscrub := by decide +kernel
  have hc : uPscrub.addr psc_CSREF_CRC.off = uPscrub.page * 0x1000 + psc_CSREF_CRC.off := rfl
  have ha : u.addr (4 * k) = u.page * 0x1000 + 4 * k := rfl
  have ho : psc_CSREF_CRC.off = 4 * (psc_CSREF_CRC.off / 4) := rfl
  have hl : psc_CSREF_CRC.off < 0x1000 := by decide
  have h1 : u.page = uPscrub.page := by omega
  obtain rfl := hp u hu h1
  have h2 : 4 * k = psc_CSREF_CRC.off := by omega
  rw [h2]
  decide +kernel

/-- Two functions that agree on a list filter and map it alike. -/
theorem filterMap_agree {α β : Type} {f g : α → Option β} : ∀ {l : List α}, (∀ x ∈ l, f x = g x) → l.filterMap f = l.filterMap g
  | [], _ => rfl
  | x :: l, h => by
    rw [List.filterMap_cons, List.filterMap_cons, h x List.mem_cons_self,
      filterMap_agree fun y hy => h y (List.mem_cons_of_mem x hy)]

/-- Two functions that agree on a list map and join it alike. -/
theorem flatMap_agree {α β : Type} {f g : α → List β} : ∀ {l : List α}, (∀ x ∈ l, f x = g x) → l.flatMap f = l.flatMap g
  | [], _ => rfl
  | x :: l, h => by
    rw [List.flatMap_cons, List.flatMap_cons, h x List.mem_cons_self,
      flatMap_agree fun y hy => h y (List.mem_cons_of_mem x hy)]

/-- A field of a word other than the reference reads as before the reference is written. -/
theorem on_setW_csref (s : State) (w : Word) (u : Unit) (f : Fld) (h : u.addr f.off ≠ uPscrub.addr psc_CSREF_CRC.off) :
    (s.setW (uPscrub.addr psc_CSREF_CRC.off) w).on u f = s.on u f := by
  unfold State.on State.get
  rw [State.getW_setW_other s w h]

/-- Writing the reference leaves the signature of one page as it was. -/
theorem pageSig_setW_csref (s : State) (w : Word) (u : Unit) (hu : u ∈ allUnits) :
    (s.setW (uPscrub.addr psc_CSREF_CRC.off) w).pageSig u = s.pageSig u := by
  have hl : u.addr hdr_UCTL_LOCK.off ≠ uPscrub.addr psc_CSREF_CRC.off := by
    have h1 : u.addr hdr_UCTL_LOCK.off = u.page * 0x1000 + hdr_UCTL_LOCK.off := rfl
    have h2 : uPscrub.addr psc_CSREF_CRC.off = uPscrub.page * 0x1000 + psc_CSREF_CRC.off := rfl
    have h3 : hdr_UCTL_LOCK.off < 0x1000 ∧ psc_CSREF_CRC.off < 0x1000 ∧ hdr_UCTL_LOCK.off ≠ psc_CSREF_CRC.off := by decide
    omega
  unfold State.pageSig
  rw [on_setW_csref s w u hdr_UCTL_LOCK hl]
  split
  · rfl
  refine filterMap_agree fun k hk => ?_
  by_cases h : u.addr (4 * k) = uPscrub.addr psc_CSREF_CRC.off
  · simp only [csref_not_covered u hu k (List.mem_range.mp hk) h, if_true]
  · simp only [State.getW_setW_other s w h]

/-- Writing the reference leaves the signature as it was (R577). -/
theorem signature_setW_csref (s : State) (w : Word) :
    (s.setW (uPscrub.addr psc_CSREF_CRC.off) w).signature = s.signature := by
  have hc : uPscrub.addr psc_CSREF_CRC.off < 0x358000 ∨ 0x35C000 ≤ uPscrub.addr psc_CSREF_CRC.off := by decide
  have hd : ∀ n, (s.setW (uPscrub.addr psc_CSREF_CRC.off) w).getW (dirAddr n) = s.getW (dirAddr n) := by
    intro n
    apply State.getW_setW_other
    have : dirAddr n = 0x358000 + 4 * (n % 4096) := rfl
    omega
  have hp : ∀ o, o < 0x1000 →
      (s.setW (uPscrub.addr psc_CSREF_CRC.off) w).getW (uPalloc.addr o) = s.getW (uPalloc.addr o) := by
    intro o ho
    apply State.getW_setW_other
    have h1 : uPalloc.addr o = uPalloc.page * 0x1000 + o := rfl
    have h2 : uPscrub.addr psc_CSREF_CRC.off = uPscrub.page * 0x1000 + psc_CSREF_CRC.off := rfl
    have h3 : uPalloc.page ≠ uPscrub.page ∧ psc_CSREF_CRC.off < 0x1000 := by decide
    omega
  have hb : ∀ n ∈ List.range 64, (palloc_ALLOCA_BASE n).off < 0x1000 ∧ (palloc_ALLOCB_VALID n).off < 0x1000 := by
    decide +kernel
  have hf : (List.range 64).filter (fun n => (s.setW (uPscrub.addr psc_CSREF_CRC.off) w).on uPalloc (palloc_ALLOCB_VALID n)) =
      (List.range 64).filter fun n => s.on uPalloc (palloc_ALLOCB_VALID n) := by
    apply List.filter_congr
    intro n hn
    unfold State.on State.get
    rw [hp _ (hb n hn).2]
  have ha : ((List.range 64).filter fun n => s.on uPalloc (palloc_ALLOCB_VALID n)).flatMap (fun n =>
      [(s.setW (uPscrub.addr psc_CSREF_CRC.off) w).getW (uPalloc.addr (palloc_ALLOCA_BASE n).off),
        (s.setW (uPscrub.addr psc_CSREF_CRC.off) w).getW (uPalloc.addr (palloc_ALLOCB_VALID n).off)]) =
      ((List.range 64).filter fun n => s.on uPalloc (palloc_ALLOCB_VALID n)).flatMap fun n =>
        [s.getW (uPalloc.addr (palloc_ALLOCA_BASE n).off), s.getW (uPalloc.addr (palloc_ALLOCB_VALID n).off)] := by
    refine flatMap_agree fun n hn => ?_
    have := hb n (List.mem_filter.mp hn).1
    rw [hp _ this.1, hp _ this.2]
  unfold State.signature State.sigWords
  rw [hf, ha, flatMap_agree fun u hu => pageSig_setW_csref s w u hu]
  simp only [hd]

end Sys2Proof.Machine
end

