-- ==== Sys2Proof/WellFormed.lean ====
section
/-!
DEFINITION. Well-formed commands: every number among the operands names a unit, an entry, a bit or a byte that the block has, a frame
carries the payload its LEN promises, and an undefined opcode is one. A meaning reads an ill-formed number modulo its range (log entry 1).
-/

namespace Sys2Proof

/-- The sources that R260 and the ball list give: 24 fast comparators, up to 8 returns of each of 9 stages, and their group returns. -/
def Src.ok : Src → Bool
  | .cmp n => n < 24
  | .sw stage k => stage < 9 && k < 8
  | .grp stage => stage < 9

/-- A frame of R459: its identifier and DLC fit, and it carries at most 64 bytes. -/
def CanFrame.ok (f : CanFrame) : Bool := f.ident < (if f.ide then 2 ^ 29 else 2 ^ 11) && f.dlc < 16 && f.data.length ≤ 64

/-- The header fields fit their bytes (R115). -/
def HFrame.ok (f : HFrame) : Bool := f.port < 2 && f.len < 256 && f.addr < 2 ^ 32 && f.seq < 256 && f.be < 256

/-- Is a command well formed? -/
def wellFormed (i : Instr) : Bool :=
  match i with
  | .powerOnReset _ _ _ _ => true
  | .nreset _ => true
  | .softwareDeviceReset _ _ _ _ => true
  | .referenceValid _ _ => true
  | .bootComplete _ => true
  | .pllLock _ => true
  | .pllLockLost _ => true
  | .interpolatorRecalibration _ _ => true
  | .vcoreCrossing _ _ => true
  | .vcmeasSample _ _ => true
  | .supplyTrip _ idx => idx < 5
  | .timebaseMonitorWindow _ _ => true
  | .modecmd _ target after _ => target < 8 && after < 8
  | .calibrationComplete _ _ => true
  | .modeTransitionComplete _ => true
  | .dischargeTimeout _ => true
  | .registerWrite _ port a _ be => port < 2 && be < 16 && a < 2 ^ 32
  | .corRead _ port a => port < 2 && a < 2 ^ 32
  | .wideValueLoRead _ port a => port < 2 && a < 2 ^ 32
  | .unitEnable _ page _ => page < 2 ^ 12
  | .unitReset _ page => page < 2 ^ 12
  | .unitResetComplete _ page => page < 2 ^ 12
  | .faultClear _ port page => port < 2 && page < 2 ^ 12
  | .pageLock _ port page => port < 2 && page < 2 ^ 12
  | .lockall _ port => port < 2
  | .lockallComplete _ => true
  | .mbxSelWrite _ port _ be => port < 2 && be < 16
  | .mailboxCaptureDone _ => true
  | .signalHostWrite _ port n _ be => port < 2 && n < 4096 && be < 16
  | .signalDirectoryWrite _ port n _ be => port < 2 && n < 4096 && be < 16
  | .signalBindingWrite _ port a _ be => port < 2 && be < 16 && a < 2 ^ 32
  | .poolAllocationCommit _ port n _ be => port < 2 && n < 64 && be < 16
  | .poolHostWrite _ port off _ be => port < 2 && off < 2 ^ 22 && be < 16
  | .tableMemoryWrite _ port off _ be => port < 2 && off < 2 ^ 19 && be < 16
  | .read _ f => f.ok
  | .write _ f data => f.ok && data.length = f.len + 1
  | .writem _ f enables data => f.ok && data.length = f.len + 1 && enables.length = (f.len + 8) / 8
  | .nop _ f => f.ok
  | .undefinedOpcode _ f opcode => f.ok && opcode < 256 && opcode ∉ [1, 2, 3, 15]
  | .frameAbort _ port => port < 2
  | .eventBallPulseEnd _ x => x < 2
  | .srcpendClear _ port k _ be => port < 2 && k < 16 && be < 16
  | .cadenceEvent _ n => n < 16
  | .syncstart _ mask => mask < 2 ^ 16
  | .syncstop _ mask => mask < 2 ^ 16
  | .cadencePeriodWrite _ n _ => n < 16
  | .marginGaugeClear _ n => n < 9
  | .podCapture _ p => p < 128
  | .podDispatch _ n => n < 9
  | .ld _ p => p < 128
  | .st _ p => p < 128
  | .mpy _ p => p < 128
  | .mac _ p => p < 128
  | .msu _ p => p < 128
  | .add _ p => p < 128
  | .sub _ p => p < 128
  | .neg _ p => p < 128
  | .abs _ p => p < 128
  | .shl _ p => p < 128
  | .shr _ p => p < 128
  | .sat _ p => p < 128
  | .min _ p => p < 128
  | .max _ p => p < 128
  | .lim _ p => p < 128
  | .sel _ p => p < 128
  | .cmp _ p => p < 128
  | .skip _ p => p < 128
  | .integ _ p => p < 128
  | .diff _ p => p < 128
  | .lut _ p => p < 128
  | .sincos _ p => p < 128
  | .clarke _ p => p < 128
  | .park _ p => p < 128
  | .ipark _ p => p < 128
  | .vsd _ p => p < 128
  | .outOp _ p => p < 128
  | .endRun _ p => p < 128
  | .podApply _ p => p < 128
  | .rotationTick _ => true
  | .laneTestDone _ _ step => step < 16
  | .lbistStart _ => true
  | .lbistDone _ fail => fail < 2 ^ 9
  | .rampSeed _ p => p < 128
  | .acompWrite _ port a c _ be => port < 2 && a < 16 && c < 8 && be < 16
  | .areqHostWrite _ port a c _ be => port < 2 && a < 16 && c < 8 && be < 16
  | .arenaDecision _ a => a < 16
  | .scorebookArm _ n => n < 8
  | .scorebookAbort _ n => n < 8
  | .scorebookTrig _ n => n < 8
  | .scorebookSample _ n _ => n < 8
  | .machWrite _ port _ be => port < 2 && be < 16
  | .carrierPeriodWrite _ port st _ be => port < 2 && st < 2 && be < 16
  | .tractionLoadPoint _ st _ => st < 2
  | .selectionInstant _ st => st < 2
  | .relockTimeout _ st => st < 2
  | .resel _ st => st < 2
  | .ascCurrentSignChange _ st => st < 2
  | .tspdTimeout _ st => st < 2
  | .protectionSourceActive _ src _ => src.ok
  | .blankingEnd _ st k _ => st < 9 && k < 8
  | .softStepEnd _ st => st < 9
  | .ascStart _ st => st < 9
  | .retryCheck _ st gone => st < 9 && gone.all Src.ok
  | .stageResume _ st gone => st < 9 && gone.all Src.ok
  | .bootstrapRefresh _ st leg _ => st < 9 && leg < 4
  | .driverReadyFall _ st leg => st < 9 && leg < 4
  | .readyHoldEnd _ st leg => st < 9 && leg < 4
  | .linkSupervisionInstant _ => true
  | .chopperComparatorCrossing _ level => level < 3
  | .chopperMinTimeEnd _ => true
  | .prechargeGo _ => true
  | .prechargeAbort _ => true
  | .contactorOpen _ => true
  | .prechargeCloseTimer _ => true
  | .prechargeTimeout _ => true
  | .dischargeOpenWaitEnd _ => true
  | .dischargePulse _ => true
  | .dischargePulseEnd _ => true
  | .phaseValleyCrossing _ n => n < 4
  | .phasePeakCrossing _ n => n < 4
  | .phaseMinOnEnd _ n => n < 4
  | .interleaveWindowOpen _ n => n < 4
  | .shedDwellExpiry _ => true
  | .ovtCrossing _ _ => true
  | .regStart _ dir => dir < 2
  | .regStop _ => true
  | .regStartAbort _ => true
  | .vsupSupervisionInstant _ => true
  | .regRetryWaitEnd _ => true
  | .stopRundownEnd _ => true
  | .regDisTimeout _ => true
  | .obaLoadPoint _ _ => true
  | .obdLoadPoint _ _ => true
  | .pilotEdge _ _ => true
  | .pilotLevelSample _ _ _ => true
  | .pilotSteadyEvaluation _ _ => true
  | .proximityMeasurement _ _ => true
  | .oexpArmWrite _ _ => true
  | .acLoadPoint _ n => n < 3
  | .acStart _ n _ => n < 3
  | .acStartAbort _ n => n < 3
  | .acStop _ n => n < 3
  | .alignEnd _ n => n < 3
  | .rampCommutation _ n => n < 3
  | .zeroCrossArm _ n => n < 3
  | .zeroCrossing _ n k _ stamp => n < 3 && k < 3 && stamp < 2 ^ 32
  | .commutation _ n => n < 3
  | .crossingDeadline _ n => n < 3
  | .catchEnd _ n => n < 3
  | .brakeEnd _ n => n < 3
  | .hallEdge _ n => n < 3
  | .quadStep _ c _ _ stamp => stamp < 2 ^ 32 && c < 6
  | .wireFault _ c j => c < 6 && j < 3
  | .zEdge _ c stamp => stamp < 2 ^ 32 && c < 6
  | .hallStateChange _ c code => c < 6 && code < 8
  | .zarm _ c => c < 6
  | .channelAlign _ c => c < 6
  | .channelConfigWrite _ port c _ be => port < 2 && c < 6 && be < 16
  | .drawPreset _ port c _ be => port < 2 && c < 6 && be < 16
  | .compareArm _ port idx _ _ be => port < 2 && idx < 24 && be < 16
  | .ssiFrameStart _ c => c < 6
  | .ssiFrameEnd _ c _ => c < 6
  | .feedbackLatch _ c => c < 6
  | .emulationStep _ c => c < 6
  | .converterSample _ n => n < 8
  | .conversionComplete _ n _ => n < 8
  | .windowComparatorActive _ n _ => n < 8
  | .urgentHostTrigger _ n e => n < 8 && e < 2
  | .converterCal _ n => n < 8
  | .converterCalDone _ n gain _ => n < 8 && gain < 2 ^ 16
  | .converterRelease _ n => n < 8
  | .converterRestore _ n => n < 8
  | .rdptrWrite _ port n _ be => port < 2 && n < 8 && be < 16
  | .bankCheck _ bank => bank < 2
  | .bankCheckDone _ => true
  | .bankSwitch _ cad => cad < 16
  | .bankSwitchAbort _ => true
  | .bankSwitchBoundary _ => true
  | .mapEvaluation _ m => m < 8
  | .sequencerStep _ n => n < 32
  | .sequencerRestart _ n => n < 32
  | .wreg _ n => n < 32
  | .setsig _ n => n < 32
  | .podAction _ n => n < 32
  | .areqAction _ n => n < 32
  | .emit _ n => n < 32
  | .cantx _ n => n < 32
  | .canFrameAccepted _ n frame _ => n < 4 && frame.ok
  | .canRemoteFrame _ n => n < 4
  | .canRxAck _ n obj _ => n < 4 && obj < 256
  | .canTxRequest _ n b => n < 4 && b < 3
  | .canTxAbort _ n b => n < 4 && b < 3
  | .canSelectionInstant _ n => n < 4
  | .canTxSuccess _ n _ _ => n < 4
  | .canTxAttemptFail _ n cause _ => n < 4 && cause < 8
  | .canError _ n cause _ _ _ => n < 4 && cause < 8
  | .canRecover _ n => n < 4
  | .busOffRecoveryDone _ n => n < 4
  | .canIntegrationDone _ n => n < 4
  | .serveClaim _ => true
  | .swapDrill _ => true
  | .drillTestEnd _ _ => true
  | .rallyLinkTrained _ _ => true
  | .rallyLinkDown _ _ => true
  | .hbSend _ => true
  | .hbMessage _ _ _ _ _ => true
  | .claimMessage _ _ _ _ _ => true
  | .offerMessage _ _ _ _ _ => true
  | .partnerSilent _ => true
  | .carrierSyncReceive _ st _ => st < 9
  | .rallyFrameReceive _ w => w.length ≤ 256
  | .takeoverGuardEnd _ => true
  | .takeoverEntry _ => true
  | .handoverTake _ => true
  | .serveInRise _ => true
  | .handoverDeadline _ => true
  | .contentionDecision _ _ => true
  | .contentionBackstop _ _ => true
  | .contentionLimit _ _ => true
  | .readbackFailure _ => true
  | .stoInputChange _ _ _ => true
  | .stoSoftRelease _ => true
  | .stoDiscrepancy _ => true
  | .shcmdRequest _ => true
  | .shcmdClear _ => true
  | .safetySample _ => true
  | .safetyEvaluation _ => true
  | .sfcmdWrite _ port _ be => port < 2 && be < 16
  | .slsDecelEnd _ => true
  | .ss1Timeout _ => true
  | .safeOutputCommandChange _ k _ => k < 8
  | .safeOutputReadbackSample _ k _ _ => k < 8
  | .safeOutputTestDue _ k => k < 8
  | .safeOutputTestTimeout _ k => k < 8
  | .testall _ => true
  | .diagnosticLossTimeout _ b => b < 3
  | .lossInstant _ slot _ _ => slot < 24
  | .thermalInstant _ => true
  | .scrubRead _ => true
  | .signatureCheck _ => true
  | .signatureCheckDone _ => true
  | .nresetRelease _ _ _ _ => true
  | .driverReadyRise _ st leg => st < 9 && leg < 4
  | .phaseZeroCurrent _ n => n < 4
  | .phaseMinOffEnd _ n => n < 4
  | .wireFaultEnd _ c j => c < 6 && j < 3
  | .supplyReturn _ idx => idx < 5
  | .canProtocolException _ n => n < 4
  | .safeOutputOverload _ k => k < 8
  | .statusHoldEnd _ page o lo => page < 2 ^ 12 && o < 2 ^ 11 && lo < 32

end Sys2Proof
end

