-- ==== Sys2Proof/Tests/Slice0.lean ====
section
/-!
SUPPORT. Tests: ill-formed commands that wellFormed refuses, the spec's worked examples, one command on a small state, and for every
statement with hypotheses states and operands that meet them.
-/

namespace Sys2Proof.Tests

-- One theorem after the other: each check by the kernel then waits for no other.
set_option Elab.async false

open Sys2Proof Sys2Proof.Machine

/-- A state whose only stored words are the enables of the units on the listed pages, with the timebase locked. -/
def en (pages : List Nat) (s : State) : State :=
  ({ s with regs := pages.map fun p => (p * 0x1000 + 0xC, 1#32) }).set ⟨.tbase, 0⟩ tb_TBSTAT_LOCK 1
/-- A state with the boot over. -/
def base : State := { (State.reset.set ⟨.tbase, 0⟩ tb_TBSTAT_LOCK 1).set uSys sys_MODESTAT_TRANS 0 with boot := .done }

/-! Well-formed and ill-formed commands. -/

/-- A frame whose header fields fit. -/
def goodFrame : HFrame := { port := 0, len := 0, addr := 0, seq := 0, be := 0, crc := 0, mode3 := false, cut := false }

/-- A CAN frame that fits. -/
def goodCan : CanFrame := { ide := false, fdf := false, brs := false, esi := false, ident := 0, dlc := 0, data := [] }

/-- For each check of wellFormed a command that fails it alone. -/
theorem test_ill_formed_1 : ([
    .supplyTrip 0 5, .modecmd 0 8 0 0, .modecmd 0 0 8 0, .registerWrite 0 2 0 0 0, .registerWrite 0 0 0 0 16,
    .registerWrite 0 0 (2 ^ 32) 0 0, .corRead 0 2 0, .corRead 0 0 (2 ^ 32), .wideValueLoRead 0 2 0,
    .wideValueLoRead 0 0 (2 ^ 32), .unitEnable 0 (2 ^ 12) false, .unitReset 0 (2 ^ 12), .unitResetComplete 0 (2 ^ 12),
    .faultClear 0 2 0, .faultClear 0 0 (2 ^ 12), .pageLock 0 2 0, .pageLock 0 0 (2 ^ 12), .lockall 0 2, .mbxSelWrite 0 2 0 0,
    .mbxSelWrite 0 0 0 16, .signalHostWrite 0 2 0 0 0, .signalHostWrite 0 0 4096 0 0, .signalHostWrite 0 0 0 0 16,
    .signalDirectoryWrite 0 2 0 0 0, .signalDirectoryWrite 0 0 4096 0 0, .signalDirectoryWrite 0 0 0 0 16,
    .signalBindingWrite 0 2 0 0 0, .signalBindingWrite 0 0 0 0 16, .signalBindingWrite 0 0 (2 ^ 32) 0 0,
    .poolAllocationCommit 0 2 0 0 0, .poolAllocationCommit 0 0 64 0 0, .poolAllocationCommit 0 0 0 0 16,
    .poolHostWrite 0 2 0 0 0, .poolHostWrite 0 0 (2 ^ 22) 0 0, .poolHostWrite 0 0 0 0 16, .tableMemoryWrite 0 2 0 0 0,
    .tableMemoryWrite 0 0 (2 ^ 19) 0 0, .tableMemoryWrite 0 0 0 0 16, .read 0 { goodFrame with port := 2 },
    .read 0 { goodFrame with len := 256 }, .read 0 { goodFrame with addr := 2 ^ 32 }, .read 0 { goodFrame with seq := 256 },
    .read 0 { goodFrame with be := 256 }, .write 0 { goodFrame with port := 2 } [0], .write 0 goodFrame [0, 0, 0],
    .writem 0 { goodFrame with port := 2 } [0] [0], .writem 0 goodFrame [0] [0, 0, 0], .writem 0 goodFrame [0, 0, 0] [0],
    .nop 0 { goodFrame with port := 2 }, .undefinedOpcode 0 { goodFrame with port := 2 } 255,
    .undefinedOpcode 0 goodFrame 256, .undefinedOpcode 0 goodFrame 1, .frameAbort 0 2, .eventBallPulseEnd 0 2,
    .srcpendClear 0 2 0 0 0, .srcpendClear 0 0 16 0 0, .srcpendClear 0 0 0 0 16, .cadenceEvent 0 16, .syncstart 0 (2 ^ 16),
    .syncstop 0 (2 ^ 16)] : List Instr).all (fun i => !wellFormed i) = true := by decide +kernel

theorem test_ill_formed_2 : ([
    .cadencePeriodWrite 0 16 0, .marginGaugeClear 0 9, .podCapture 0 128, .podDispatch 0 9, .ld 0 128, .st 0 128, .mpy 0 128,
    .mac 0 128, .msu 0 128, .add 0 128, .sub 0 128, .neg 0 128, .abs 0 128, .shl 0 128, .shr 0 128, .sat 0 128, .min 0 128,
    .max 0 128, .lim 0 128, .sel 0 128, .cmp 0 128, .skip 0 128, .integ 0 128, .diff 0 128, .lut 0 128, .sincos 0 128,
    .clarke 0 128, .park 0 128, .ipark 0 128, .vsd 0 128, .outOp 0 128, .endRun 0 128, .podApply 0 128,
    .laneTestDone 0 false 16, .lbistDone 0 (2 ^ 9), .rampSeed 0 128, .acompWrite 0 2 0 0 0 0, .acompWrite 0 0 16 0 0 0,
    .acompWrite 0 0 0 8 0 0, .acompWrite 0 0 0 0 0 16, .areqHostWrite 0 2 0 0 0 0, .areqHostWrite 0 0 16 0 0 0,
    .areqHostWrite 0 0 0 8 0 0, .areqHostWrite 0 0 0 0 0 16, .arenaDecision 0 16, .scorebookArm 0 8, .scorebookAbort 0 8,
    .scorebookTrig 0 8, .scorebookSample 0 8 false, .machWrite 0 2 0 0, .machWrite 0 0 0 16, .carrierPeriodWrite 0 2 0 0 0,
    .carrierPeriodWrite 0 0 2 0 0, .carrierPeriodWrite 0 0 0 0 16, .tractionLoadPoint 0 2 false, .selectionInstant 0 2,
    .relockTimeout 0 2, .resel 0 2, .ascCurrentSignChange 0 2, .tspdTimeout 0 2] : List Instr).all (fun i => !wellFormed i) = true := by decide +kernel

theorem test_ill_formed_3 : ([
    .protectionSourceActive 0 (.cmp 24) false, .protectionSourceActive 0 (.sw 9 0) false,
    .protectionSourceActive 0 (.sw 0 8) false, .protectionSourceActive 0 (.grp 9) false, .blankingEnd 0 9 0 false,
    .blankingEnd 0 0 8 false, .softStepEnd 0 9, .ascStart 0 9, .retryCheck 0 9 [], .retryCheck 0 0 [.cmp 24],
    .stageResume 0 9 [], .stageResume 0 0 [.cmp 24], .bootstrapRefresh 0 9 0 0, .bootstrapRefresh 0 0 4 0,
    .driverReadyFall 0 9 0, .driverReadyFall 0 0 4, .readyHoldEnd 0 9 0, .readyHoldEnd 0 0 4, .chopperComparatorCrossing 0 3,
    .phaseValleyCrossing 0 4, .phasePeakCrossing 0 4, .phaseMinOnEnd 0 4, .interleaveWindowOpen 0 4, .regStart 0 2,
    .acLoadPoint 0 3, .acStart 0 3 false, .acStartAbort 0 3, .acStop 0 3, .alignEnd 0 3, .rampCommutation 0 3,
    .zeroCrossArm 0 3, .zeroCrossing 0 3 0 false 0, .zeroCrossing 0 0 3 false 0, .zeroCrossing 0 0 0 false (2 ^ 32),
    .commutation 0 3, .crossingDeadline 0 3, .catchEnd 0 3, .brakeEnd 0 3, .hallEdge 0 3, .quadStep 0 0 false false (2 ^ 32),
    .quadStep 0 6 false false 0, .wireFault 0 6 0, .wireFault 0 0 3, .zEdge 0 0 (2 ^ 32), .zEdge 0 6 0,
    .hallStateChange 0 6 0, .hallStateChange 0 0 8, .zarm 0 6, .channelAlign 0 6, .channelConfigWrite 0 2 0 0 0,
    .channelConfigWrite 0 0 6 0 0, .channelConfigWrite 0 0 0 0 16, .drawPreset 0 2 0 0 0, .drawPreset 0 0 6 0 0,
    .drawPreset 0 0 0 0 16, .compareArm 0 2 0 false 0 0, .compareArm 0 0 24 false 0 0, .compareArm 0 0 0 false 0 16,
    .ssiFrameStart 0 6, .ssiFrameEnd 0 6 0] : List Instr).all (fun i => !wellFormed i) = true := by decide +kernel

theorem test_ill_formed_4 : ([
    .feedbackLatch 0 6, .emulationStep 0 6, .converterSample 0 8, .conversionComplete 0 8 0, .windowComparatorActive 0 8 0,
    .urgentHostTrigger 0 8 0, .urgentHostTrigger 0 0 2, .converterCal 0 8, .converterCalDone 0 8 0 0,
    .converterCalDone 0 0 (2 ^ 16) 0, .converterRelease 0 8, .converterRestore 0 8, .rdptrWrite 0 2 0 0 0,
    .rdptrWrite 0 0 8 0 0, .rdptrWrite 0 0 0 0 16, .bankCheck 0 2, .bankSwitch 0 16, .mapEvaluation 0 8, .sequencerStep 0 32,
    .sequencerRestart 0 32, .wreg 0 32, .setsig 0 32, .podAction 0 32, .areqAction 0 32, .emit 0 32, .cantx 0 32,
    .canFrameAccepted 0 4 goodCan 0, .canFrameAccepted 0 0 { goodCan with ident := 2 ^ 11 } 0,
    .canFrameAccepted 0 0 { goodCan with ide := true, ident := 2 ^ 29 } 0,
    .canFrameAccepted 0 0 { goodCan with dlc := 16 } 0, .canFrameAccepted 0 0 { goodCan with data := List.replicate 65 0 } 0,
    .canRemoteFrame 0 4, .canRxAck 0 4 0 0, .canRxAck 0 0 256 0, .canTxRequest 0 4 0, .canTxRequest 0 0 3, .canTxAbort 0 4 0,
    .canTxAbort 0 0 3, .canSelectionInstant 0 4, .canTxSuccess 0 4 0 0, .canTxAttemptFail 0 4 0 none,
    .canTxAttemptFail 0 0 8 none, .canError 0 4 0 false false false, .canError 0 0 8 false false false, .canRecover 0 4,
    .busOffRecoveryDone 0 4, .canIntegrationDone 0 4, .carrierSyncReceive 0 9 0, .rallyFrameReceive 0 (List.replicate 257 0),
    .sfcmdWrite 0 2 0 0, .sfcmdWrite 0 0 0 16, .safeOutputCommandChange 0 8 false, .safeOutputReadbackSample 0 8 false false,
    .safeOutputTestDue 0 8, .safeOutputTestTimeout 0 8, .diagnosticLossTimeout 0 3, .lossInstant 0 24 0 0,
    .driverReadyRise 0 9 0, .driverReadyRise 0 0 4, .phaseZeroCurrent 0 4] : List Instr).all (fun i => !wellFormed i) = true := by decide +kernel

theorem test_ill_formed_5 : ([
    .phaseMinOffEnd 0 4, .wireFaultEnd 0 6 0, .wireFaultEnd 0 0 3, .supplyReturn 0 5, .canProtocolException 0 4,
    .safeOutputOverload 0 8, .statusHoldEnd 0 (2 ^ 12) 0 0, .statusHoldEnd 0 0 (2 ^ 11) 0, .statusHoldEnd 0 0 0 32] : List Instr).all (fun i => !wellFormed i) = true := by decide +kernel


/-- The first frame, unit and entry are well formed, with a payload of one word. -/
theorem test_well_formed_1 : ([
    .powerOnReset 0 false false false, .nreset 0, .softwareDeviceReset 0 false false false, .referenceValid 0 false,
    .bootComplete 0, .pllLock 0, .pllLockLost 0, .interpolatorRecalibration 0 0, .vcoreCrossing 0 0, .vcmeasSample 0 0,
    .supplyTrip 0 0, .timebaseMonitorWindow 0 0, .modecmd 0 0 0 0, .calibrationComplete 0 false, .modeTransitionComplete 0,
    .dischargeTimeout 0, .registerWrite 0 0 0 0 0, .corRead 0 0 0, .wideValueLoRead 0 0 0, .unitEnable 0 0 false,
    .unitReset 0 0, .unitResetComplete 0 0, .faultClear 0 0 0, .pageLock 0 0 0, .lockall 0 0, .lockallComplete 0,
    .mbxSelWrite 0 0 0 0, .mailboxCaptureDone 0, .signalHostWrite 0 0 0 0 0, .signalDirectoryWrite 0 0 0 0 0,
    .signalBindingWrite 0 0 0 0 0, .poolAllocationCommit 0 0 0 0 0, .poolHostWrite 0 0 0 0 0, .tableMemoryWrite 0 0 0 0 0,
    .read 0 goodFrame, .write 0 goodFrame [0], .writem 0 goodFrame [0] [0], .nop 0 goodFrame,
    .undefinedOpcode 0 goodFrame 255, .frameAbort 0 0, .eventBallPulseEnd 0 0, .srcpendClear 0 0 0 0 0, .cadenceEvent 0 0,
    .syncstart 0 0, .syncstop 0 0, .cadencePeriodWrite 0 0 0, .marginGaugeClear 0 0, .podCapture 0 0, .podDispatch 0 0,
    .ld 0 0, .st 0 0, .mpy 0 0, .mac 0 0, .msu 0 0, .add 0 0, .sub 0 0, .neg 0 0, .abs 0 0, .shl 0 0, .shr 0 0] : List Instr).all (fun i => wellFormed i) = true := by decide +kernel

theorem test_well_formed_2 : ([
    .sat 0 0, .min 0 0, .max 0 0, .lim 0 0, .sel 0 0, .cmp 0 0, .skip 0 0, .integ 0 0, .diff 0 0, .lut 0 0, .sincos 0 0,
    .clarke 0 0, .park 0 0, .ipark 0 0, .vsd 0 0, .outOp 0 0, .endRun 0 0, .podApply 0 0, .rotationTick 0,
    .laneTestDone 0 false 0, .lbistStart 0, .lbistDone 0 0, .rampSeed 0 0, .acompWrite 0 0 0 0 0 0,
    .areqHostWrite 0 0 0 0 0 0, .arenaDecision 0 0, .scorebookArm 0 0, .scorebookAbort 0 0, .scorebookTrig 0 0,
    .scorebookSample 0 0 false, .machWrite 0 0 0 0, .carrierPeriodWrite 0 0 0 0 0, .tractionLoadPoint 0 0 false,
    .selectionInstant 0 0, .relockTimeout 0 0, .resel 0 0, .ascCurrentSignChange 0 0, .tspdTimeout 0 0,
    .protectionSourceActive 0 (.cmp 0) false, .blankingEnd 0 0 0 false, .softStepEnd 0 0, .ascStart 0 0, .retryCheck 0 0 [],
    .stageResume 0 0 [], .bootstrapRefresh 0 0 0 0, .driverReadyFall 0 0 0, .readyHoldEnd 0 0 0, .linkSupervisionInstant 0,
    .chopperComparatorCrossing 0 0, .chopperMinTimeEnd 0, .prechargeGo 0, .prechargeAbort 0, .contactorOpen 0,
    .prechargeCloseTimer 0, .prechargeTimeout 0, .dischargeOpenWaitEnd 0, .dischargePulse 0, .dischargePulseEnd 0,
    .phaseValleyCrossing 0 0, .phasePeakCrossing 0 0] : List Instr).all (fun i => wellFormed i) = true := by decide +kernel

theorem test_well_formed_3 : ([
    .phaseMinOnEnd 0 0, .interleaveWindowOpen 0 0, .shedDwellExpiry 0, .ovtCrossing 0 false, .regStart 0 0, .regStop 0,
    .regStartAbort 0, .vsupSupervisionInstant 0, .regRetryWaitEnd 0, .stopRundownEnd 0, .regDisTimeout 0,
    .obaLoadPoint 0 false, .obdLoadPoint 0 false, .pilotEdge 0 false, .pilotLevelSample 0 false 0,
    .pilotSteadyEvaluation 0 0, .proximityMeasurement 0 0, .oexpArmWrite 0 false, .acLoadPoint 0 0, .acStart 0 0 false,
    .acStartAbort 0 0, .acStop 0 0, .alignEnd 0 0, .rampCommutation 0 0, .zeroCrossArm 0 0, .zeroCrossing 0 0 0 false 0,
    .commutation 0 0, .crossingDeadline 0 0, .catchEnd 0 0, .brakeEnd 0 0, .hallEdge 0 0, .quadStep 0 0 false false 0,
    .wireFault 0 0 0, .zEdge 0 0 0, .hallStateChange 0 0 0, .zarm 0 0, .channelAlign 0 0, .channelConfigWrite 0 0 0 0 0,
    .drawPreset 0 0 0 0 0, .compareArm 0 0 0 false 0 0, .ssiFrameStart 0 0, .ssiFrameEnd 0 0 0, .feedbackLatch 0 0,
    .emulationStep 0 0, .converterSample 0 0, .conversionComplete 0 0 0, .windowComparatorActive 0 0 0,
    .urgentHostTrigger 0 0 0, .converterCal 0 0, .converterCalDone 0 0 0 0, .converterRelease 0 0, .converterRestore 0 0,
    .rdptrWrite 0 0 0 0 0, .bankCheck 0 0, .bankCheckDone 0, .bankSwitch 0 0, .bankSwitchAbort 0, .bankSwitchBoundary 0,
    .mapEvaluation 0 0, .sequencerStep 0 0] : List Instr).all (fun i => wellFormed i) = true := by decide +kernel

theorem test_well_formed_4 : ([
    .sequencerRestart 0 0, .wreg 0 0, .setsig 0 0, .podAction 0 0, .areqAction 0 0, .emit 0 0, .cantx 0 0,
    .canFrameAccepted 0 0 goodCan 0, .canRemoteFrame 0 0, .canRxAck 0 0 0 0, .canTxRequest 0 0 0, .canTxAbort 0 0 0,
    .canSelectionInstant 0 0, .canTxSuccess 0 0 0 0, .canTxAttemptFail 0 0 0 none, .canError 0 0 0 false false false,
    .canRecover 0 0, .busOffRecoveryDone 0 0, .canIntegrationDone 0 0, .serveClaim 0, .swapDrill 0, .drillTestEnd 0 false,
    .rallyLinkTrained 0 0, .rallyLinkDown 0 false, .hbSend 0, .hbMessage 0 0 0 0 0, .claimMessage 0 0 0 0 0,
    .offerMessage 0 0 0 0 0, .partnerSilent 0, .carrierSyncReceive 0 0 0, .rallyFrameReceive 0 [0], .takeoverGuardEnd 0,
    .takeoverEntry 0, .handoverTake 0, .serveInRise 0, .handoverDeadline 0, .contentionDecision 0 false,
    .contentionBackstop 0 false, .contentionLimit 0 false, .readbackFailure 0, .stoInputChange 0 false false,
    .stoSoftRelease 0, .stoDiscrepancy 0, .shcmdRequest 0, .shcmdClear 0, .safetySample 0, .safetyEvaluation 0,
    .sfcmdWrite 0 0 0 0, .slsDecelEnd 0, .ss1Timeout 0, .safeOutputCommandChange 0 0 false,
    .safeOutputReadbackSample 0 0 false false, .safeOutputTestDue 0 0, .safeOutputTestTimeout 0 0, .testall 0,
    .diagnosticLossTimeout 0 0, .lossInstant 0 0 0 0, .thermalInstant 0, .scrubRead 0, .signatureCheck 0] : List Instr).all (fun i => wellFormed i) = true := by decide +kernel

theorem test_well_formed_5 : ([
    .signatureCheckDone 0, .nresetRelease 0 false false false, .driverReadyRise 0 0 0, .phaseZeroCurrent 0 0,
    .phaseMinOffEnd 0 0, .wireFaultEnd 0 0 0, .supplyReturn 0 0, .canProtocolException 0 0, .safeOutputOverload 0 0,
    .statusHoldEnd 0 0 0 0] : List Instr).all (fun i => wellFormed i) = true := by decide +kernel

/-! Arithmetic and tables, against the spec's worked examples. -/

/-- The check value of the CRC of R117: of the ASCII digits 1 to 9. -/
theorem test_crc32_check_value : crc32 [0x31, 0x32, 0x33, 0x34, 0x35, 0x36, 0x37, 0x38, 0x39] = 0xCBF43926#32 := by decide +kernel

/-- R142: 0.5, 1.5 and 2.5 round to 0, 2 and 2, and 32,769 saturates. -/
theorem test_round_half_even : roundQ15 0x4000 = 0 ∧ roundQ15 0xC000 = 2 ∧ roundQ15 0x14000 = 2 ∧ satQ15 (roundQ15 0x40008000) = 32767 := by decide

/-- R148: cos 0 = sin 90° = TS[256] = 32,767; and the SINCOS of the load-point example of R239. -/
theorem test_sincos_example : sinA 0x4000 = 32767 ∧ cosA 0 = 32767 ∧ sinA 10650 = 27939 ∧ cosA 10650 = 17120 := by decide +kernel

/-- The load-point example of R239: the angle of 45° turned by OMEGA 537 over 18,750 ticks. -/
theorem test_turned_example : turned 0x2000 537 37500 12 = 10650 := by decide

/-- The load-point example of R239: MI of the vector (−11,056, 770) at a link of 21,504. -/
theorem test_modulation_index_example : modIndex (11056 ^ 2 + 770 ^ 2) 21504 = 26528 := by decide +kernel

/-- The precharge window example of R294: 51 / 1,024 of a pack of 21,504 is 1,071, so BOOST holds from 20,433. -/
theorem test_precharge_window_example :
    let s : State := State.reset.set uBrk brk_LPRE0_WIN 51
    s.inWindow 20433 21504 = true ∧ s.inWindow 20432 21504 = false := by decide +kernel

/-- The discharge example of R299: DMAX 0x0666 of a period of 40,000 ticks is 2,000 ticks. -/
theorem test_discharge_pulse_example :
    let s : State := (State.reset.set uBrk brk_LDIS2_PER 40000).set uBrk brk_LDIS1_DMAX 0x0666
    s.pulseTicks = 2000 := by decide +kernel

/-- The ramp example of R184: the jerk of 410 per run reaches the rate of 327,680 after 800 runs, where the clamp holds it. -/
theorem test_ramp_step_jerk :
    rampStep 327680 410 (24000 * 65536) 0 0 = (410, 410) ∧
    rampStep 327680 410 (24000 * 65536) 1000 (799 * 410) = (1000 + 327680, 327680) := by decide

/-- The ramp without a jerk limit: 5 LSB a run. -/
theorem test_ramp_step_plain : rampStep 327680 0 (24000 * 65536) 0 0 = (327680, 327680) := by decide

/-- The hysteresis example of R190: four captures at 16,900, 17,039, 16,000 and 15,728. -/
theorem test_region_hysteresis_example :
    let e : List Int := [0x2000, 0x4000, 0x6000]
    decideRegion 655 16900 1 e = 1 ∧ decideRegion 655 17039 1 e = 2 ∧ decideRegion 655 16000 2 e = 2 ∧
      decideRegion 655 15728 2 e = 1 := by decide

/-- The curve example of R426: between (0, 16,000) and (8,192, 8,000), 2,048 gives 14,000. -/
theorem test_curve_example : curveAt 2048 [(0, 16000), (8192, 8000)] = 14000 := by decide

/-- The charger example: a duty of 892 ‰ offers 63.0 A, and 100 Ω is a 63 A cable. -/
theorem test_charger_example : pilotCurrent 892 = 630 ∧ proximity 100 = (4, 630) := by decide

/-- The tracking terms of the arena example of R202: 0.25 of −6,400 and 0.5 of −2,400. -/
theorem test_tracking_term_example :
    let s : State := (State.reset.setW ((uPod 21).addr pod_TRKGAIN_MANT.off) 0x2000).setW ((uPod 25).addr pod_TRKGAIN_MANT.off) 0x4000
    s.trackTerm 21 19200 25600 = -52428800 ∧ s.trackTerm 25 19200 21600 = -39321600 := by decide +kernel

/-- Gray code of 13 bits: the code of 6,144 is 5,120 and back. -/
theorem test_gray_to_binary : grayToBin 13 (6144 ^^^ 3072) = 6144 ∧ grayToBin 4 0b1000 = 15 := by decide

/-! Addresses and registers. -/

/-- R96 in the worked example of the SIGB page: 0x350840 reaches SIGERR, 0x350848 an unlisted offset, and 0x351040 no page. -/
theorem test_address_aliases :
    State.reset.target 0x350840 = some (.reg ⟨.sigb, 0⟩ 0x40) ∧ State.reset.target 0x350848 = some (.reg ⟨.sigb, 0⟩ 0x48) ∧
      State.reset.target 0x351040 = none := by decide +kernel

/-- R101, R103: a write of byte 1 alone changes bits 15 to 8 alone. -/
theorem test_byte_enables : beMask 0b0010 = 0x0000FF00#32 ∧ maskedWord (beMask 0b0101) 0x11223344#32 0xAABBCCDD#32 = 0x11BB33DD#32 := by decide

/-- The ledger entry of the pool plan: BASE 1,920 and SIZEM1 127 give 128 KiB at 0x9E0000. -/
theorem test_pool_region_example :
    let s : State := (State.reset.setW (uPalloc.addr (palloc_ALLOCA_BASE 21).off) 0x007F0780#32).setW
      (uPalloc.addr (palloc_ALLOCB_VALID 21).off) 0x80000050#32
    s.region 0x50 = some (0x009E0000, 128 * 1024) := by decide +kernel

/-! The queue and the host link. -/

/-- The command in front runs, and what waits behind it stays. -/
theorem test_step_takes_the_front :
    step { State.reset with pending := [.nreset 5, .bootComplete 6] } =
      execNreset 5 { State.reset with pending := [.bootComplete 6] } := rfl

/-- An empty queue idles. -/
theorem test_step_idles : step State.reset = .next State.reset := rfl

/-- No row of the table has bits, so no word spells a command. -/
theorem test_no_word_spells_a_command : decodeTableWord 32 0x12345678 = none ∧ State.reset.withFetchWord 32 7 = State.reset := ⟨rfl, rfl⟩

/-- The header of the frame example of R115. -/
theorem test_header_example :
    headerBytes .read { port := 0, len := 1, addr := 0x1048, seq := 0x2C, be := 0, crc := 0, mode3 := false, cut := false } =
      [0x01, 0x01, 0x48, 0x10, 0x00, 0x00, 0x2C, 0x00] := by decide

/-- The frame example of R115: TBCNT in one burst, after the start byte of R119 and the status word, with the low word 0x0A12 and the latched high word 4. -/
theorem test_frame_example :
    let f : HFrame := { port := 0, len := 1, addr := 0x1048, seq := 0x2C, be := 0, crc := 0, mode3 := false, cut := false }
    let s : State := { base.set ⟨.sys, 0⟩ sys_MODESTAT_MODE 3 with tick := 17179871762 }
    (match (s.hlink .read { f with crc := requestCrc .read f [] } []) with
      | .next t => ((t.port 0).resp.take 13)
      | _ => []) = [0xA5, 0x2C, 0, 0, 0, 0x12, 0x0A, 0, 0, 4, 0, 0, 0] := by decide +kernel

/-- A frame with a wrong CRC is rejected with code 1, and counted (R118). -/
theorem test_bad_crc :
    let f : HFrame := { port := 0, len := 0, addr := 0, seq := 0, be := 0, crc := 0, mode3 := false, cut := false }
    (match base.hlink .nop f [] with
      | .next t => ((t.port 0).resp.getD 2 0, t.get (uHp 0) hp_CRCCNT_COUNT)
      | _ => (0, 0)) = (1#8, 1) := by decide +kernel

/-! One command on a small state. -/

/-- What a command leaves, read by a function; nothing where it does not go on. -/
def after {α : Type} (o : Host.Outcome State Fault Refusal) (f : State → α) : Option α :=
  match o with
  | .next t => some (f t)
  | _ => none

/-- R30: the host writes a Q15 signal that it has claimed; bits 15 to 0 are sign-extended. -/
theorem test_signal_write :
    let s : State := base.setDir 7 dir_WCLASS 6
    after (execSignalHostWrite 100 0 7 0x00018001#32 15 (s.setDir 7 dir_HOSTW 1)) (·.sig 7) = some 0xFFFF8001#32 := by decide +kernel

/-- R39: a write of table memory outside CONFIG to the bank that is not active stores, and drops its BANKOK. -/
theorem test_table_write :
    let s : State := (base.set uSys sys_MODESTAT_MODE 4).set uTbk tbk_TBSTAT_BANKOK 3
    after (execTableMemoryWrite 100 0 0x40008 0xDEADBEEF#32 15 s) (fun t => (t.memWord (bankBase 1 + 8), t.bankOk 1, t.bankOk 0)) =
      some (0xDEADBEEF#32, false, true) := by decide +kernel

/-- R65: MGCTL.CLR. -/
theorem test_margin_gauge_clear :
    after (execMarginGaugeClear 100 2 base) (fun t => (t.get (uLane 2) ln_MGMIN_TICKS, t.get (uLane 2) ln_MGPOD_POD)) =
      some (0x0FFFFFFF, 0) := by decide +kernel

/-- R136: ST with WRAP stores the modular form, and without it saturates and notes it. -/
theorem test_st_saturates :
    let s : State := { base.setW ((uPod 3).addr 0x400) (BitVec.ofNat 32 (2 * 67108864 + 4 * 65536)) with
      pods := [(3, { run := some { lane := 0, accs := [(0, 32769 * 32768)] } })] }
    after (execSt 100 3 s) (fun t => (((t.pod 3).run.map fun r => (r.node 4, r.stSat)), t.evBit (uPod 3) 2)) =
      some (some (32767, true), true) := by decide +kernel

/-- R149: VSD of one vector in both sets turned by 30°: (32,767, 0, 28,378, −16,384) gives the sums
32,767.56, 0, −0.57 and 0, so α saturates to 32,767 and x rounds to −1. -/
theorem test_vsd :
    let s : State := { base.setW ((uPod 3).addr 0x400) (BitVec.ofNat 32 (26 * 67108864 + 8 * 1048576 + 1 * 16384)) with
      pods := [(3, { run := some { lane := 0, nodes := [(1, 32767), (3, 28378), (4, -16384)] } })] }
    after (execVsd 100 3 s) (fun t => (t.pod 3).run.map fun r => [r.node 8, r.node 9, r.node 10, r.node 11]) =
      some (some [32767, 0, -1, 0]) := by decide +kernel

/-- R198, and the first decision of the arena example: of the values 24,000, 25,600 and 19,200 the third wins. -/
theorem test_arena_decision :
    let s : State := (base.set (uQuad 0) (arq_ACFG_EN 0) 1).set (uQuad 0) (arq_ACFG_MODE 0) 1
    s.arenaWinner 0 [2, 5] = some 2 := by decide +kernel

/-- R288, R292: a chopper below its minimum on-time waits. -/
theorem test_chopper_off_at_reset : after (execChopperMinTimeEnd 100 base) (·.get uBrk brk_LSTAT_CHOP) = some 0 := by decide +kernel

/-- R376: one step up from (0, 0) to (1, 0) counts by 1 with the configuration of QUAD. -/
theorem test_quad_step_place : quadPlace false false = 0 ∧ quadPlace true false = 1 ∧ quadPlace true true = 2 ∧ quadPlace false true = 3 := by decide

/-- R467: a bus-off recovery that has waited clears the error counters. -/
theorem test_bus_off_recovery_of_a_controller_at_rest :
    after (execBusOffRecoveryDone 100 1 base) (·.cnState 1) = some (base.cnState 1) := by decide +kernel

/-- R517: both STO inputs released leave no request of theirs. -/
theorem test_sto_discrepancy_needs_a_difference :
    after (execStoDiscrepancy 100 base) (·.get uSsv ssv_STOSTAT_DISC) = some 0 := by decide +kernel

/-- R551: the thermal step with α 0 leaves the temperature, and with α 65,536 takes R_th times P. -/
theorem test_foster_step_holds : fosterStep 100 0 500 77 = 77 := by decide +kernel

/-! The reset state. -/

/-- R588: MODE 1 with TRANS 1, and no command waits. -/
theorem test_reset_mode : State.reset.mode = 1 ∧ State.reset.get uSys sys_MODESTAT_TRANS = 1 ∧ State.reset.pending = [] := by decide +kernel

/-- R583: at reset every event ball is high. -/
theorem test_reset_balls : State.reset.ballLow 0 = false ∧ State.reset.ballLow 1 = false := by decide +kernel

/-- No word is its own complement. -/
theorem not_own_complement (w : Word) : w ≠ ~~~w := by
  intro h
  have := congrArg (·.getLsbD 0) h
  simp at this

/-! For every statement with hypotheses, states and operands that meet the hypotheses of each of its clauses. -/

theorem witness_micro_operands :
    (∃ x y k : Nat, x < 0x50 ∧ y < 0x50 ∧ k < 8) :=
  ⟨0x4F, 0, 7, by decide⟩

theorem witness_micro_arithmetic :
    ((let b := base
     let p : Nat := 3
     let f : Nat := 4194304 * 0 + 257
     let s : State := { (b.setW ((uPod p).addr 0x414) (BitVec.ofNat 32 (1 * 67108864 + f))) with pods := [(p, { run := some ({ lane := 1, pc := 5, nodes := [(1, 16384), (2, -20000), (3, 32767), (4, -5), (5, 7000), (6, 12345), (9, -32768), (10, 900)], accs := [(0, 123456789), (1, -549755813888), (2, 549755813000), (3, -98304), (4, 49152)], gains := [(12345, 3), (-20000, 9), (32767, 15), (1, 0), (5, 5), (-7, 2), (32767, 0), (-32768, 15)], gt := true, eq := false, accSat := b.tick % 2 = 1, freeze := b.tick % 3 = 1, track := 777, setp := if b.tick % 5 = 0 then some (2, 4444) else none }) })], flips := [] }
     let r : PodRun := (((s.pod p).run).getD {})
     let w : Word := s.progWord p r.pc
     s.microAt p 1 r w) ∧
    (let b := base
     let p : Nat := 3
     let f : Nat := 4194304 * 0 + 257
     let s : State := { (b.setW ((uPod p).addr 0x414) (BitVec.ofNat 32 (3 * 67108864 + f))) with pods := [(p, { run := some ({ lane := 1, pc := 5, nodes := [(1, 16384), (2, -20000), (3, 32767), (4, -5), (5, 7000), (6, 12345), (9, -32768), (10, 900)], accs := [(0, 123456789), (1, -549755813888), (2, 549755813000), (3, -98304), (4, 49152)], gains := [(12345, 3), (-20000, 9), (32767, 15), (1, 0), (5, 5), (-7, 2), (32767, 0), (-32768, 15)], gt := true, eq := false, accSat := b.tick % 2 = 1, freeze := b.tick % 3 = 1, track := 777, setp := if b.tick % 5 = 0 then some (2, 4444) else none }) })], flips := [] }
     let r : PodRun := (((s.pod p).run).getD {})
     let w : Word := s.progWord p r.pc
     s.microAt p 3 r w) ∧
    (let b := base
     let p : Nat := 3
     let f : Nat := 4194304 * 0 + 257
     let s : State := { (b.setW ((uPod p).addr 0x414) (BitVec.ofNat 32 (4 * 67108864 + f))) with pods := [(p, { run := some ({ lane := 1, pc := 5, nodes := [(1, 16384), (2, -20000), (3, 32767), (4, -5), (5, 7000), (6, 12345), (9, -32768), (10, 900)], accs := [(0, 123456789), (1, -549755813888), (2, 549755813000), (3, -98304), (4, 49152)], gains := [(12345, 3), (-20000, 9), (32767, 15), (1, 0), (5, 5), (-7, 2), (32767, 0), (-32768, 15)], gt := true, eq := false, accSat := b.tick % 2 = 1, freeze := b.tick % 3 = 1, track := 777, setp := if b.tick % 5 = 0 then some (2, 4444) else none }) })], flips := [] }
     let r : PodRun := (((s.pod p).run).getD {})
     let w : Word := s.progWord p r.pc
     s.microAt p 4 r w)) ∧
    ((let b := base
     let p : Nat := 3
     let f : Nat := 4194304 * 0 + 257
     let s : State := { (b.setW ((uPod p).addr 0x414) (BitVec.ofNat 32 (5 * 67108864 + f))) with pods := [(p, { run := some ({ lane := 1, pc := 5, nodes := [(1, 16384), (2, -20000), (3, 32767), (4, -5), (5, 7000), (6, 12345), (9, -32768), (10, 900)], accs := [(0, 123456789), (1, -549755813888), (2, 549755813000), (3, -98304), (4, 49152)], gains := [(12345, 3), (-20000, 9), (32767, 15), (1, 0), (5, 5), (-7, 2), (32767, 0), (-32768, 15)], gt := true, eq := false, accSat := b.tick % 2 = 1, freeze := b.tick % 3 = 1, track := 777, setp := if b.tick % 5 = 0 then some (2, 4444) else none }) })], flips := [] }
     let r : PodRun := (((s.pod p).run).getD {})
     let w : Word := s.progWord p r.pc
     s.microAt p 5 r w) ∧
    (let b := base
     let p : Nat := 3
     let f : Nat := 4194304 * 0 + 257
     let s : State := { (b.setW ((uPod p).addr 0x414) (BitVec.ofNat 32 (6 * 67108864 + f))) with pods := [(p, { run := some ({ lane := 1, pc := 5, nodes := [(1, 16384), (2, -20000), (3, 32767), (4, -5), (5, 7000), (6, 12345), (9, -32768), (10, 900)], accs := [(0, 123456789), (1, -549755813888), (2, 549755813000), (3, -98304), (4, 49152)], gains := [(12345, 3), (-20000, 9), (32767, 15), (1, 0), (5, 5), (-7, 2), (32767, 0), (-32768, 15)], gt := true, eq := false, accSat := b.tick % 2 = 1, freeze := b.tick % 3 = 1, track := 777, setp := if b.tick % 5 = 0 then some (2, 4444) else none }) })], flips := [] }
     let r : PodRun := (((s.pod p).run).getD {})
     let w : Word := s.progWord p r.pc
     s.microAt p 6 r w) ∧
    (let b := base
     let p : Nat := 3
     let f : Nat := 4194304 * 0 + 257
     let s : State := { (b.setW ((uPod p).addr 0x414) (BitVec.ofNat 32 (7 * 67108864 + f))) with pods := [(p, { run := some ({ lane := 1, pc := 5, nodes := [(1, 16384), (2, -20000), (3, 32767), (4, -5), (5, 7000), (6, 12345), (9, -32768), (10, 900)], accs := [(0, 123456789), (1, -549755813888), (2, 549755813000), (3, -98304), (4, 49152)], gains := [(12345, 3), (-20000, 9), (32767, 15), (1, 0), (5, 5), (-7, 2), (32767, 0), (-32768, 15)], gt := true, eq := false, accSat := b.tick % 2 = 1, freeze := b.tick % 3 = 1, track := 777, setp := if b.tick % 5 = 0 then some (2, 4444) else none }) })], flips := [] }
     let r : PodRun := (((s.pod p).run).getD {})
     let w : Word := s.progWord p r.pc
     s.microAt p 7 r w)) ∧
    ((let b := base
     let p : Nat := 3
     let f : Nat := 4194304 * 0 + 257
     let s : State := { (b.setW ((uPod p).addr 0x414) (BitVec.ofNat 32 (8 * 67108864 + f))) with pods := [(p, { run := some ({ lane := 1, pc := 5, nodes := [(1, 16384), (2, -20000), (3, 32767), (4, -5), (5, 7000), (6, 12345), (9, -32768), (10, 900)], accs := [(0, 123456789), (1, -549755813888), (2, 549755813000), (3, -98304), (4, 49152)], gains := [(12345, 3), (-20000, 9), (32767, 15), (1, 0), (5, 5), (-7, 2), (32767, 0), (-32768, 15)], gt := true, eq := false, accSat := b.tick % 2 = 1, freeze := b.tick % 3 = 1, track := 777, setp := if b.tick % 5 = 0 then some (2, 4444) else none }) })], flips := [] }
     let r : PodRun := (((s.pod p).run).getD {})
     let w : Word := s.progWord p r.pc
     s.microAt p 8 r w) ∧
    (let b := base
     let p : Nat := 3
     let f : Nat := 4194304 * 0 + 257
     let s : State := { (b.setW ((uPod p).addr 0x414) (BitVec.ofNat 32 (9 * 67108864 + f))) with pods := [(p, { run := some ({ lane := 1, pc := 5, nodes := [(1, 16384), (2, -20000), (3, 32767), (4, -5), (5, 7000), (6, 12345), (9, -32768), (10, 900)], accs := [(0, 123456789), (1, -549755813888), (2, 549755813000), (3, -98304), (4, 49152)], gains := [(12345, 3), (-20000, 9), (32767, 15), (1, 0), (5, 5), (-7, 2), (32767, 0), (-32768, 15)], gt := true, eq := false, accSat := b.tick % 2 = 1, freeze := b.tick % 3 = 1, track := 777, setp := if b.tick % 5 = 0 then some (2, 4444) else none }) })], flips := [] }
     let r : PodRun := (((s.pod p).run).getD {})
     let w : Word := s.progWord p r.pc
     s.microAt p 9 r w) ∧
    (let b := base
     let p : Nat := 3
     let f : Nat := 4194304 * 0 + 257
     let s : State := { (b.setW ((uPod p).addr 0x414) (BitVec.ofNat 32 (10 * 67108864 + f))) with pods := [(p, { run := some ({ lane := 1, pc := 5, nodes := [(1, 16384), (2, -20000), (3, 32767), (4, -5), (5, 7000), (6, 12345), (9, -32768), (10, 900)], accs := [(0, 123456789), (1, -549755813888), (2, 549755813000), (3, -98304), (4, 49152)], gains := [(12345, 3), (-20000, 9), (32767, 15), (1, 0), (5, 5), (-7, 2), (32767, 0), (-32768, 15)], gt := true, eq := false, accSat := b.tick % 2 = 1, freeze := b.tick % 3 = 1, track := 777, setp := if b.tick % 5 = 0 then some (2, 4444) else none }) })], flips := [] }
     let r : PodRun := (((s.pod p).run).getD {})
     let w : Word := s.progWord p r.pc
     s.microAt p 10 r w)) ∧
    ((let b := base
     let p : Nat := 3
     let f : Nat := 4194304 * 0 + 257
     let s : State := { (b.setW ((uPod p).addr 0x414) (BitVec.ofNat 32 (11 * 67108864 + f))) with pods := [(p, { run := some ({ lane := 1, pc := 5, nodes := [(1, 16384), (2, -20000), (3, 32767), (4, -5), (5, 7000), (6, 12345), (9, -32768), (10, 900)], accs := [(0, 123456789), (1, -549755813888), (2, 549755813000), (3, -98304), (4, 49152)], gains := [(12345, 3), (-20000, 9), (32767, 15), (1, 0), (5, 5), (-7, 2), (32767, 0), (-32768, 15)], gt := true, eq := false, accSat := b.tick % 2 = 1, freeze := b.tick % 3 = 1, track := 777, setp := if b.tick % 5 = 0 then some (2, 4444) else none }) })], flips := [] }
     let r : PodRun := (((s.pod p).run).getD {})
     let w : Word := s.progWord p r.pc
     s.microAt p 11 r w) ∧
    (let b := base
     let p : Nat := 3
     let f : Nat := 4194304 * 0 + 257
     let s : State := { (b.setW ((uPod p).addr 0x414) (BitVec.ofNat 32 (13 * 67108864 + f))) with pods := [(p, { run := some ({ lane := 1, pc := 5, nodes := [(1, 16384), (2, -20000), (3, 32767), (4, -5), (5, 7000), (6, 12345), (9, -32768), (10, 900)], accs := [(0, 123456789), (1, -549755813888), (2, 549755813000), (3, -98304), (4, 49152)], gains := [(12345, 3), (-20000, 9), (32767, 15), (1, 0), (5, 5), (-7, 2), (32767, 0), (-32768, 15)], gt := true, eq := false, accSat := b.tick % 2 = 1, freeze := b.tick % 3 = 1, track := 777, setp := if b.tick % 5 = 0 then some (2, 4444) else none }) })], flips := [] }
     let r : PodRun := (((s.pod p).run).getD {})
     let w : Word := s.progWord p r.pc
     s.microAt p 13 r w) ∧
    (let b := base
     let p : Nat := 3
     let f : Nat := 4194304 * 0 + 257
     let s : State := { (b.setW ((uPod p).addr 0x414) (BitVec.ofNat 32 (14 * 67108864 + f))) with pods := [(p, { run := some ({ lane := 1, pc := 5, nodes := [(1, 16384), (2, -20000), (3, 32767), (4, -5), (5, 7000), (6, 12345), (9, -32768), (10, 900)], accs := [(0, 123456789), (1, -549755813888), (2, 549755813000), (3, -98304), (4, 49152)], gains := [(12345, 3), (-20000, 9), (32767, 15), (1, 0), (5, 5), (-7, 2), (32767, 0), (-32768, 15)], gt := true, eq := false, accSat := b.tick % 2 = 1, freeze := b.tick % 3 = 1, track := 777, setp := if b.tick % 5 = 0 then some (2, 4444) else none }) })], flips := [] }
     let r : PodRun := (((s.pod p).run).getD {})
     let w : Word := s.progWord p r.pc
     s.microAt p 14 r w)) :=
  ⟨by decide +kernel, by decide +kernel, by decide +kernel, by decide +kernel⟩

theorem witness_micro_data_moves :
    ((let b := base
     let p : Nat := 3
     let f : Nat := 4194304 * 0 + 257
     let s : State := { (b.setW ((uPod p).addr 0x414) (BitVec.ofNat 32 (12 * 67108864 + f))) with pods := [(p, { run := some ({ lane := 1, pc := 5, nodes := [(1, 16384), (2, -20000), (3, 32767), (4, -5), (5, 7000), (6, 12345), (9, -32768), (10, 900)], accs := [(0, 123456789), (1, -549755813888), (2, 549755813000), (3, -98304), (4, 49152)], gains := [(12345, 3), (-20000, 9), (32767, 15), (1, 0), (5, 5), (-7, 2), (32767, 0), (-32768, 15)], gt := true, eq := false, accSat := b.tick % 2 = 1, freeze := b.tick % 3 = 1, track := 777, setp := if b.tick % 5 = 0 then some (2, 4444) else none }) })], flips := [] }
     let r : PodRun := (((s.pod p).run).getD {})
     let w : Word := s.progWord p r.pc
     s.microAt p 12 r w) ∧
    (let b := base
     let p : Nat := 3
     let f : Nat := 4194304 * 0 + 257
     let s : State := { (b.setW ((uPod p).addr 0x414) (BitVec.ofNat 32 (15 * 67108864 + f))) with pods := [(p, { run := some ({ lane := 1, pc := 5, nodes := [(1, 16384), (2, -20000), (3, 32767), (4, -5), (5, 7000), (6, 12345), (9, -32768), (10, 900)], accs := [(0, 123456789), (1, -549755813888), (2, 549755813000), (3, -98304), (4, 49152)], gains := [(12345, 3), (-20000, 9), (32767, 15), (1, 0), (5, 5), (-7, 2), (32767, 0), (-32768, 15)], gt := true, eq := false, accSat := b.tick % 2 = 1, freeze := b.tick % 3 = 1, track := 777, setp := if b.tick % 5 = 0 then some (2, 4444) else none }) })], flips := [] }
     let r : PodRun := (((s.pod p).run).getD {})
     let w : Word := s.progWord p r.pc
     s.microAt p 15 r w) ∧
    (let b := base
     let p : Nat := 3
     let f : Nat := 4194304 * 0 + 524288 * 4 + 1
     let s : State := { (b.setW ((uPod p).addr 0x414) (BitVec.ofNat 32 (16 * 67108864 + f))) with pods := [(p, { run := some ({ lane := 1, pc := 5, nodes := [(1, 16384), (2, -20000), (3, 32767), (4, -5), (5, 7000), (6, 12345), (9, -32768), (10, 900)], accs := [(0, 123456789), (1, -549755813888), (2, 549755813000), (3, -98304), (4, 49152)], gains := [(12345, 3), (-20000, 9), (32767, 15), (1, 0), (5, 5), (-7, 2), (32767, 0), (-32768, 15)], gt := true, eq := false, accSat := b.tick % 2 = 1, freeze := b.tick % 3 = 1, track := 777, setp := if b.tick % 5 = 0 then some (2, 4444) else none }) })], flips := [] }
     let r : PodRun := (((s.pod p).run).getD {})
     let w : Word := s.progWord p r.pc
     s.microAt p 16 r w)) ∧
    ((let b := base
     let p : Nat := 3
     let f : Nat := 4194304 * 0 + 257
     let s : State := { (b.setW ((uPod p).addr 0x414) (BitVec.ofNat 32 (17 * 67108864 + f))) with pods := [(p, { run := some ({ lane := 1, pc := 5, nodes := [(1, 16384), (2, -20000), (3, 32767), (4, -5), (5, 7000), (6, 12345), (9, -32768), (10, 900)], accs := [(0, 123456789), (1, -549755813888), (2, 549755813000), (3, -98304), (4, 49152)], gains := [(12345, 3), (-20000, 9), (32767, 15), (1, 0), (5, 5), (-7, 2), (32767, 0), (-32768, 15)], gt := true, eq := false, accSat := b.tick % 2 = 1, freeze := b.tick % 3 = 1, track := 777, setp := if b.tick % 5 = 0 then some (2, 4444) else none }) })], flips := [] }
     let r : PodRun := (((s.pod p).run).getD {})
     let w : Word := s.progWord p r.pc
     s.microAt p 17 r w) ∧
    (let b := base
     let p : Nat := 3
     let f : Nat := 524288 * 4 + 1
     let s : State := { (b.setW ((uPod p).addr 0x414) (BitVec.ofNat 32 (18 * 67108864 + f))) with pods := [(p, { run := some ({ lane := 1, pc := 5, nodes := [(1, 16384), (2, -20000), (3, 32767), (4, -5), (5, 7000), (6, 12345), (9, -32768), (10, 900)], accs := [(0, 123456789), (1, -549755813888), (2, 549755813000), (3, -98304), (4, 49152)], gains := [(12345, 3), (-20000, 9), (32767, 15), (1, 0), (5, 5), (-7, 2), (32767, 0), (-32768, 15)], gt := true, eq := false, accSat := b.tick % 2 = 1, freeze := b.tick % 3 = 1, track := 777, setp := if b.tick % 5 = 0 then some (2, 4444) else none }) })], flips := [] }
     let r : PodRun := (((s.pod p).run).getD {})
     let w : Word := s.progWord p r.pc
     s.microAt p 18 r w) ∧
    (let b := base
     let p : Nat := 3
     let f : Nat := 4194304 * 0 + 65536 * 1 + 0
     let s : State := { (b.setW ((uPod p).addr 0x414) (BitVec.ofNat 32 (2 * 67108864 + f))) with pods := [(p, { run := some ({ lane := 1, pc := 5, nodes := [(1, 16384), (2, -20000), (3, 32767), (4, -5), (5, 7000), (6, 12345), (9, -32768), (10, 900)], accs := [(0, 123456789), (1, -549755813888), (2, 549755813000), (3, -98304), (4, 49152)], gains := [(12345, 3), (-20000, 9), (32767, 15), (1, 0), (5, 5), (-7, 2), (32767, 0), (-32768, 15)], gt := true, eq := false, accSat := b.tick % 2 = 1, freeze := b.tick % 3 = 1, track := 777, setp := if b.tick % 5 = 0 then some (2, 4444) else none }) })], flips := [] }
     let r : PodRun := (((s.pod p).run).getD {})
     let w : Word := s.progWord p r.pc
     s.microAt p 2 r w)) ∧
    ((let b := base
     let p : Nat := 3
     let f : Nat := 4194304 * 0 + 65536 * 1 + 2
     let s : State := { (b.setW ((uPod p).addr 0x414) (BitVec.ofNat 32 (20 * 67108864 + f))) with pods := [(p, { run := some ({ lane := 1, pc := 5, nodes := [(1, 16384), (2, -20000), (3, 32767), (4, -5), (5, 7000), (6, 12345), (9, -32768), (10, 900)], accs := [(0, 123456789), (1, -549755813888), (2, 549755813000), (3, -98304), (4, 49152)], gains := [(12345, 3), (-20000, 9), (32767, 15), (1, 0), (5, 5), (-7, 2), (32767, 0), (-32768, 15)], gt := true, eq := false, accSat := b.tick % 2 = 1, freeze := b.tick % 3 = 1, track := 777, setp := if b.tick % 5 = 0 then some (2, 4444) else none }) })], flips := [] }
     let r : PodRun := (((s.pod p).run).getD {})
     let w : Word := s.progWord p r.pc
     s.microAt p 20 r w) ∧
    (let b := base
     let p : Nat := 3
     let f : Nat := 4194304 * 0 + 65536 * 1 + 2
     let s : State := { (b.setW ((uPod p).addr 0x414) (BitVec.ofNat 32 (27 * 67108864 + f))) with pods := [(p, { run := some ({ lane := 1, pc := 5, nodes := [(1, 16384), (2, -20000), (3, 32767), (4, -5), (5, 7000), (6, 12345), (9, -32768), (10, 900)], accs := [(0, 123456789), (1, -549755813888), (2, 549755813000), (3, -98304), (4, 49152)], gains := [(12345, 3), (-20000, 9), (32767, 15), (1, 0), (5, 5), (-7, 2), (32767, 0), (-32768, 15)], gt := true, eq := false, accSat := b.tick % 2 = 1, freeze := b.tick % 3 = 1, track := 777, setp := if b.tick % 5 = 0 then some (2, 4444) else none }) })], flips := [] }
     let r : PodRun := (((s.pod p).run).getD {})
     let w : Word := s.progWord p r.pc
     s.microAt p 27 r w) ∧
    (let b := base
     let p : Nat := 3
     let f : Nat := 10 * 1048576 + 1 * 16384 + 3 * 256
     let s : State := { (b.setW ((uPod p).addr 0x414) (BitVec.ofNat 32 (22 * 67108864 + f))) with pods := [(p, { run := some ({ lane := 1, pc := 5, nodes := [(1, 16384), (2, -20000), (3, 32767), (4, -5), (5, 7000), (6, 12345), (9, -32768), (10, 900)], accs := [(0, 123456789), (1, -549755813888), (2, 549755813000), (3, -98304), (4, 49152)], gains := [(12345, 3), (-20000, 9), (32767, 15), (1, 0), (5, 5), (-7, 2), (32767, 0), (-32768, 15)], gt := true, eq := false, accSat := b.tick % 2 = 1, freeze := b.tick % 3 = 1, track := 777, setp := if b.tick % 5 = 0 then some (2, 4444) else none }) })], flips := [] }
     let r : PodRun := (((s.pod p).run).getD {})
     let w : Word := s.progWord p r.pc
     s.microAt p 22 r w)) ∧
    ((let b := base
     let p : Nat := 3
     let f : Nat := 10 * 1048576 + 1 * 16384 + 3 * 256
     let s : State := { (b.setW ((uPod p).addr 0x414) (BitVec.ofNat 32 (23 * 67108864 + f))) with pods := [(p, { run := some ({ lane := 1, pc := 5, nodes := [(1, 16384), (2, -20000), (3, 32767), (4, -5), (5, 7000), (6, 12345), (9, -32768), (10, 900)], accs := [(0, 123456789), (1, -549755813888), (2, 549755813000), (3, -98304), (4, 49152)], gains := [(12345, 3), (-20000, 9), (32767, 15), (1, 0), (5, 5), (-7, 2), (32767, 0), (-32768, 15)], gt := true, eq := false, accSat := b.tick % 2 = 1, freeze := b.tick % 3 = 1, track := 777, setp := if b.tick % 5 = 0 then some (2, 4444) else none }) })], flips := [] }
     let r : PodRun := (((s.pod p).run).getD {})
     let w : Word := s.progWord p r.pc
     s.microAt p 23 r w) ∧
    (let b := base
     let p : Nat := 3
     let f : Nat := 10 * 1048576 + 1 * 16384 + 3 * 256
     let s : State := { (b.setW ((uPod p).addr 0x414) (BitVec.ofNat 32 (24 * 67108864 + f))) with pods := [(p, { run := some ({ lane := 1, pc := 5, nodes := [(1, 16384), (2, -20000), (3, 32767), (4, -5), (5, 7000), (6, 12345), (9, -32768), (10, 900)], accs := [(0, 123456789), (1, -549755813888), (2, 549755813000), (3, -98304), (4, 49152)], gains := [(12345, 3), (-20000, 9), (32767, 15), (1, 0), (5, 5), (-7, 2), (32767, 0), (-32768, 15)], gt := true, eq := false, accSat := b.tick % 2 = 1, freeze := b.tick % 3 = 1, track := 777, setp := if b.tick % 5 = 0 then some (2, 4444) else none }) })], flips := [] }
     let r : PodRun := (((s.pod p).run).getD {})
     let w : Word := s.progWord p r.pc
     s.microAt p 24 r w) ∧
    (let b := base
     let p : Nat := 3
     let f : Nat := 10 * 1048576 + 1 * 16384 + 3 * 256
     let s : State := { (b.setW ((uPod p).addr 0x414) (BitVec.ofNat 32 (25 * 67108864 + f))) with pods := [(p, { run := some ({ lane := 1, pc := 5, nodes := [(1, 16384), (2, -20000), (3, 32767), (4, -5), (5, 7000), (6, 12345), (9, -32768), (10, 900)], accs := [(0, 123456789), (1, -549755813888), (2, 549755813000), (3, -98304), (4, 49152)], gains := [(12345, 3), (-20000, 9), (32767, 15), (1, 0), (5, 5), (-7, 2), (32767, 0), (-32768, 15)], gt := true, eq := false, accSat := b.tick % 2 = 1, freeze := b.tick % 3 = 1, track := 777, setp := if b.tick % 5 = 0 then some (2, 4444) else none }) })], flips := [] }
     let r : PodRun := (((s.pod p).run).getD {})
     let w : Word := s.progWord p r.pc
     s.microAt p 25 r w)) ∧
    ((let b := base
     let p : Nat := 3
     let f : Nat := 4194304 * 2 + 1
     let s : State := { ((b.setW ((uPod p).addr 0x20) 0).setW ((uPod p).addr 0x414) (BitVec.ofNat 32 (21 * 67108864 + f))) with pods := [(p, { run := some ({ lane := 1, pc := 5, nodes := [(1, 16384), (2, -20000), (3, 32767), (4, -5), (5, 7000), (6, 12345), (9, -32768), (10, 900)], accs := [(0, 123456789), (1, -549755813888), (2, 549755813000), (3, -98304), (4, 49152)], gains := [(12345, 3), (-20000, 9), (32767, 15), (1, 0), (5, 5), (-7, 2), (32767, 0), (-32768, 15)], gt := true, eq := false, accSat := b.tick % 2 = 1, freeze := b.tick % 3 = 1, track := 777, setp := if b.tick % 5 = 0 then some (2, 4444) else none }) })], flips := [] }
     let r : PodRun := (((s.pod p).run).getD {})
     let w : Word := s.progWord p r.pc
     s.microAt p 21 r w ∧ s.flips = [] ∧ s.lutValue p r w = none ∧ s.sel (uPod p) 0 = 0) ∧
    (let b := base
     let p : Nat := 3
     let f : Nat := 4194304 * 2 + 1
     let s : State := ({ (((b.setW ((uPod p).addr 0x414) (BitVec.ofNat 32 (21 * 67108864 + f))).set (uPod p) (pod_TBL_TABLE 0) 2).set uTbk tbk_TBSTAT_BANKOK 1) with
    pods := [(p, { run := some ({ lane := 1, pc := 5, nodes := [(1, 16384), (2, -20000), (3, 32767), (4, -5), (5, 7000), (6, 12345), (9, -32768), (10, 900)], accs := [(0, 123456789), (1, -549755813888), (2, 549755813000), (3, -98304), (4, 49152)], gains := [(12345, 3), (-20000, 9), (32767, 15), (1, 0), (5, 5), (-7, 2), (32767, 0), (-32768, 15)], gt := true, eq := false, accSat := b.tick % 2 = 1, freeze := b.tick % 3 = 1, track := 777, setp := if b.tick % 5 = 0 then some (2, 4444) else none }) })], flips := [] }.setMemWords (bankBase 0) [0, 5]).setMemWords (bankBase 0 + 0x30) [0x10000100, 4] |>.setMemWords (bankBase 0 + 0x100) [0, 2, 0x0000F000, 0x70001000]
     let r : PodRun := (((s.pod p).run).getD {})
     let w : Word := s.progWord p r.pc
     let y : Int := (s.lutValue p r w).getD 0
     s.microAt p 21 r w ∧ s.flips = [] ∧ s.lutValue p r w = some y)) :=
  ⟨by decide +kernel, by decide +kernel, by decide +kernel, by decide +kernel, by decide +kernel⟩

theorem witness_micro_integ :
    (let b := base
     let p : Nat := 3
     let f : Nat := 257
     let s : State := { (b.setW ((uPod p).addr 0x414) (BitVec.ofNat 32 (19 * 67108864 + f))) with pods := [(p, { run := some ({ lane := 1, pc := 5, nodes := [(1, 16384), (2, -20000), (3, 32767), (4, -5), (5, 7000), (6, 12345), (9, -32768), (10, 900)], accs := [(0, 123456789), (1, -549755813888), (2, 549755813000), (3, -98304), (4, 49152)], gains := [(12345, 3), (-20000, 9), (32767, 15), (1, 0), (5, 5), (-7, 2), (32767, 0), (-32768, 15)], gt := true, eq := false, accSat := b.tick % 2 = 1, freeze := b.tick % 3 = 1, track := 777, setp := if b.tick % 5 = 0 then some (2, 4444) else none }) })], flips := [] }
     let r : PodRun := (((s.pod p).run).getD {})
     let w : Word := s.progWord p r.pc
     let a₁ : Int := (if r.freeze then r.acc (fieldA w) else satAcc (r.acc (fieldA w) + s.product p r (bits w 8 8) (bits w 0 8)))
     let trk : Bool := s.on (uPod p) pod_TRKCFG_EN && s.get (uPod p) pod_TRKCFG_ACC = fieldA w
     let a₂ : Int := if trk then satAcc (a₁ + r.track) else a₁
     s.microAt p 19 r w ∧ (a₁ = if r.freeze then r.acc (fieldA w) else satAcc (r.acc (fieldA w) + s.product p r (bits w 8 8) (bits w 0 8)))
    ∧ trk = (s.on (uPod p) pod_TRKCFG_EN && s.get (uPod p) pod_TRKCFG_ACC = fieldA w) ∧ (a₂ = if trk then satAcc (a₁ + r.track)
    else a₁)) :=
  by decide +kernel

theorem witness_micro_vsd :
    (let b := base
     let p : Nat := 3
     let f : Nat := 10 * 1048576 + 1 * 16384 + 3 * 256
     let s : State := { (b.setW ((uPod p).addr 0x414) (BitVec.ofNat 32 (26 * 67108864 + f))) with pods := [(p, { run := some ({ lane := 1, pc := 5, nodes := [(1, 16384), (2, -20000), (3, 32767), (4, -5), (5, 7000), (6, 12345), (9, -32768), (10, 900)], accs := [(0, 123456789), (1, -549755813888), (2, 549755813000), (3, -98304), (4, 49152)], gains := [(12345, 3), (-20000, 9), (32767, 15), (1, 0), (5, 5), (-7, 2), (32767, 0), (-32768, 15)], gt := true, eq := false, accSat := b.tick % 2 = 1, freeze := b.tick % 3 = 1, track := 777, setp := if b.tick % 5 = 0 then some (2, 4444) else none }) })], flips := [] }
     let r : PodRun := (((s.pod p).run).getD {})
     let w : Word := s.progWord p r.pc
     s.microAt p 26 r w) :=
  by decide +kernel

theorem witness_pod_capture :
    (let b := base
     let t : Nat := 5000000
     let p : Nat := 127
     let s : State := (let b := en [384, 402] b; let s1 : State := ((((b.set uSys sys_MODESTAT_MODE [3,4,5,6,7].toArray[b.tick % 5]!).set (uPod p) pod_FECFG_EN 0).set (uPod p) pod_SCHCFG_EN 0).set (uPod p) pod_RAMPCFG_EN (b.tick % 2)).set (uPod p) hdr_UCTL_EN 1; { s1 with pods := [(p, { event := some 5, seedNext := b.tick % 3 = 0 })], badParity := [] })
     let e : Nat := 5
     let x0 : Int := ((fun i => if s.on (uPod p) (pod_INBIND_EN i) then s.sig (s.get (uPod p) (pod_INBIND_SIG i)) else 0) (s.get (uPod p) pod_RAMPCFG_SPIN)).toInt
     let x1 : Int := ((fun i => if s.on (uPod p) (pod_INBIND_EN i) then s.sig (s.get (uPod p) (pod_INBIND_SIG i)) else 0) (s.get (uPod p) pod_RAMPCFG_PVIN)).toInt
     p < 128 ∧ (s.pod p).event = some e ∧ (s.pod p).captured = false ∧ s.runsMode = true ∧ s.enabled (uPod p) = true ∧ (s.at t).due (e
    + s.get (uPod p) pod_CAPOFS_TICKS) = true ∧ s.badParity = [] ∧ (sget (fun _ => []) s.podRecs p = []) ∧ s.get (uPod p) pod_SCHCFG_EN
    = 0 ∧ s.get (uPod p) pod_FECFG_EN = 0 ∧ (x0 = ((fun i => if s.on (uPod p) (pod_INBIND_EN i) then s.sig (s.get (uPod p) (pod_INBIND_SIG i))
    else 0) (s.get (uPod p) pod_RAMPCFG_SPIN)).toInt) ∧ (x1 = ((fun i => if s.on (uPod p) (pod_INBIND_EN i) then s.sig (s.get (uPod p) (pod_INBIND_SIG i))
    else 0) (s.get (uPod p) pod_RAMPCFG_PVIN)).toInt)) ∧
    (let b := base
     let p : Nat := 127
     let s : State := b
     p < 128 ∧ s.serves (uPod p) 0x10C) :=
  by decide +kernel

theorem witness_dispatch_and_arena_order :
    (∃ (s : State) (n p : Nat), s.pickPod n s.ready = some p) ∧
    (∃ (s : State) (a c : Nat) (l : List Nat), l.Pairwise (· < ·) ∧ s.arenaWinner a l = some c) :=
  ⟨⟨{ State.reset with ready := [7, 3] }, 0, 3, by decide⟩, ⟨State.reset, 0, 2, [2, 5], by decide⟩⟩

theorem witness_pod_run_and_apply :
    ((let b := base
     let p : Nat := 127
     let n : Nat := 7
     let s : State := (let b := en [384, 385, 393] b; let s1 : State := (b.set uSys sys_MODESTAT_MODE 4).set (uPod p) (pod_NODE_VALUE 5) 40000 |>.set (uPod p) (pod_ACCHI_VALUE 3) 200 |>.set uLaneSh lnsh_ROTSTAT_SUBST 15; { s1 with ready := [p], flips := [], laneAway := [] })
     s.laneOpen n = true ∧ s.pickPod n s.ready = some p ∧ p < 128 ∧ n < 9 ∧ s.flips = [] ∧ (s.pod p).region = none) ∧
    (let b := base
     let p : Nat := 127
     let s : State := { b.setW ((uPod p).addr 0x414) 0xFC000000 with pods := [(p, { run := some ({ lane := 1, pc := 5, started := 3, nodes := [(1, 16384), (2, -20000), (3, 32767)], accs := [(0, 123456789), (1, -549755813888), (2, 549755813000)], outs := [(0, 5), (7, 9)] }), event := if b.tick % 2 = 0 then some 7 else none })], flips := [] }
     let r : PodRun := ((s.pod p).run.getD {})
     p < 128 ∧ s.microAt p 0x3F r (s.progWord p r.pc) ∧ r.lane < 9) ∧
    (let b := base
     let t : Nat := 5
     let p : Nat := 127
     let outs : List (Nat × Word) := [(7, 0xFFFF8000), (2, 77)]
     let s : State := { b with pods := [(p, { event := some 5, staged := some outs, run := none })], ready := [p, 9] }
     let e : Nat := 5
     p < 128 ∧ (s.pod p).event = some e ∧ (s.at t).due (e + s.get (uPod p) pod_APPLY_TICKS) = true ∧ (s.pod p).staged = some outs ∧ (outs.map Prod.fst).Nodup
    ∧ (∀ o ∈ outs, o.1 < 8))) ∧
    ((let b := base
     let t : Nat := 5
     let p : Nat := 127
     let k : Nat := 7
     let n : Nat := 4095
     let w : Word := 0x12348000
     let s : State := { ((((b.set (uPod p) (pod_OUTBIND_KIND k) 1).set (uPod p) (pod_OUTBIND_TARGET k) n).setDir n dir_WCLASS 1).setDir n dir_WINST (p * 8 + k)) with pods := [(p, { event := some 5, staged := some [(k, w)], run := none })], ready := [p, 9] }
     let e : Nat := 5
     p < 128 ∧ k < 8 ∧ n < 4096 ∧ (s.pod p).event = some e ∧ (s.at t).due (e + s.get (uPod p) pod_APPLY_TICKS) = true ∧ (s.pod p).staged
    = some [(k, w)] ∧ s.get (uPod p) (pod_OUTBIND_KIND k) = 1 ∧ s.get (uPod p) (pod_OUTBIND_TARGET k) = n ∧ s.dir n dir_WCLASS
    = 1 ∧ s.dir n dir_WINST = p * 8 + k) ∧
    (let b := base
     let t : Nat := 5
     let p : Nat := 127
     let s : State := { b.set (uPod p) pod_OVR_LIM 7 |>.set (uPod p) pod_OVR_CONSEC 2 with pods := [(p, { event := some 5, staged := none, run := some {} })], ready := [p, 9] }
     let e : Nat := 5
     p < 128 ∧ (s.pod p).event = some e ∧ (s.at t).due (e + s.get (uPod p) pod_APPLY_TICKS) = true ∧ (s.pod p).staged = none ∧ ((s.pod p).reacted
    = true ∨ s.get (uPod p) pod_OVR_CONSEC + 1 < s.get (uPod p) pod_OVR_LIM))) :=
  ⟨by decide +kernel, by decide +kernel⟩

theorem witness_arena_decision :
    (let b := base
     let a : Nat := 15
     let s : State := (let b := en [384, 403, 407] b; let u := uQuad a; let j := a % 4; let b := (b.set u (arq_ACFG_EN j) 1).set u (arq_ACFG_MODE j) (b.tick % 2); forN 8 (fun c s => (((s.set u (arq_ACOMP_EN j c) 1).set u (arq_ACOMP_KIND j c) 1).set u (arq_AREQ_ACTIVE j c) ((b.tick / (c + 1)) % 2 + (if c = 3 then 1 else 0))).set u (arq_AREQ_VALUE j c) ((b.tick * (c * 7919 + 3)) % 65536)) b)
     let c : Nat := (s.arenaWinner a ((List.range 8).filter fun c => s.compValid a c)).getD 9
     a < 16 ∧ s.arenaOn a = true ∧ (∀ c ∈ List.range 8, s.compInt a c = false) ∧ (s.arenaWinner a ((List.range 8).filter fun c => s.compValid a c)
    = some c)) ∧
    (let b := base
     let a : Nat := 15
     let s : State := (let b := en [384, 403, 407] b; let u := uQuad a; let j := a % 4; let b := (b.set u (arq_ACFG_EN j) 1).set u (arq_ACFG_MODE j) (b.tick % 2); forN 8 (fun c s => (((s.set u (arq_ACOMP_EN j c) 1).set u (arq_ACOMP_KIND j c) 1).set u (arq_AREQ_ACTIVE j c) 0).set u (arq_AREQ_VALUE j c) ((b.tick * (c * 7919 + 3)) % 65536)) b)
     a < 16 ∧ s.arenaOn a = true ∧ (∀ c ∈ List.range 8, s.compInt a c = false) ∧ (((List.range 8).filter fun c => s.compValid a c)
    = [])) :=
  by decide +kernel

theorem witness_scorebook :
    ((let b := base
     let n : Nat := 7
     let s : State := (let b := en [816, 824] b; let b := ((((b.set uPalloc (palloc_ALLOCB_VALID 5) 1).set uPalloc (palloc_ALLOCB_CLIENT 5) (0x30 + n)).set uPalloc (palloc_ALLOCA_BASE 5) 16).set uPalloc (palloc_ALLOCA_SIZEM1 5) 1).set uSys sys_MODESTAT_MODE 4; let u := uScb n; let b := (forN 16 (fun k s => s.setW (u.addr (scb_TAP_EN k).off) 0) b).setW (u.addr (scb_TAP_EN 2).off) 0 |>.set u (scb_TAP_EN 2) 1 |>.set u (scb_TAP_KIND 2) 2 |>.set u (scb_TAP_IDX 2) 33 |>.setW (u.addr scb_TRIGCFG_KIND.off) 0 |>.set u scb_SCFG_CAD 3 |>.set u scb_SOFS_TICKS 5 |>.set (uCad 3) cad_PERIOD_TICKS 5000 |>.set (uCad 3) cad_CADCFG_MODE 0; (b.setW (sigAddr 33) 0xFFFF8123).set u scb_SCFG_TS64 (b.tick % 2) |>.set u scb_SCTL_ARM 0)
     let base : Nat := ((s.region (0x30 + n)).getD (0, 0)).1
     let bytes : Nat := ((s.region (0x30 + n)).getD (0, 0)).2
     n < 8 ∧ s.serves (uScb n) 0x58 ∧ s.get (uScb n) scb_SCTL_ARM = 0 ∧ s.runsMode = true ∧ s.region (0x30 + n) = some (base, bytes)
    ∧ s.enabled (uScb n) = true ∧ s.bookOk n bytes = true) ∧
    (let b := base
     let n : Nat := 7
     let s : State := b.set (uScb n) scb_SCTL_ARM 1
     n < 8 ∧ s.serves (uScb n) 0x58 ∧ s.get (uScb n) scb_SCTL_ARM = 1) ∧
    (let b := base
     let n : Nat := 7
     let s : State := b.set (uScb n) scb_SSTAT_STATE 1
     n < 8 ∧ s.serves (uScb n) 0x58 ∧ s.get (uScb n) scb_SSTAT_STATE = 1)) ∧
    ((let b := base
     let t : Nat := 10
     let n : Nat := 7
     let s : State := (let s1 : State := (let b := en [816, 824] b; let b := ((((b.set uPalloc (palloc_ALLOCB_VALID 5) 1).set uPalloc (palloc_ALLOCB_CLIENT 5) (0x30 + n)).set uPalloc (palloc_ALLOCA_BASE 5) 16).set uPalloc (palloc_ALLOCA_SIZEM1 5) 1).set uSys sys_MODESTAT_MODE 4; let u := uScb n; let b := (forN 16 (fun k s => s.setW (u.addr (scb_TAP_EN k).off) 0) b).setW (u.addr (scb_TAP_EN 2).off) 0 |>.set u (scb_TAP_EN 2) 1 |>.set u (scb_TAP_KIND 2) 2 |>.set u (scb_TAP_IDX 2) 33 |>.setW (u.addr scb_TRIGCFG_KIND.off) 0 |>.set u scb_SCFG_CAD 3 |>.set u scb_SOFS_TICKS 5 |>.set (uCad 3) cad_PERIOD_TICKS 5000 |>.set (uCad 3) cad_CADCFG_MODE 0; (b.setW (sigAddr 33) 0xFFFF8123).set u scb_SCFG_TS64 (b.tick % 2)); { (((s1.set (uScb n) scb_SCTL_ARM 1).set (uScb n) scb_SSTAT_STATE 4).set (uScb n) scb_NREC_SLOTS 6).set (uScb n) scb_WRPTR_SLOT 4 with books := [(n, { base := 0x804000, words := s1.bookWords n, seq := 65535, gap := b.tick % 3 = 0, since := none, event := some 5, recAt := b.tick })], flips := [], badParity := [] })
     let e : Nat := 5
     let a0 : Nat := (s.book n).base + 4 * (s.book n).words * s.get (uScb n) scb_WRPTR_SLOT
     let rw : List Word := s.bookHeader n false true :: BitVec.ofNat 32 (s.at t).tick :: ((if s.on (uScb n) scb_SCFG_TS64 then [BitVec.ofNat 32 ((s.at t).tick / 2 ^ 32)] else []) ++ (s.taps n).map fun k => s.tapWord n k)
     n < 8 ∧ (s.book n).event = some e ∧ (s.at t).due (e + s.get (uScb n) scb_SOFS_TICKS) = true ∧ s.get (uScb n) scb_SCTL_ARM = 1
    ∧ s.runsMode = true ∧ s.enabled (uScb n) = true ∧ s.get (uScb n) scb_SSTAT_STATE = 4 ∧ s.flips = [] ∧ s.badParity = [] ∧ ((s.book n).since
    = none ∨ s.get (uScb n) scb_SDEC_DEC ≤ (s.book n).since.getD 0) ∧ a0 = (s.book n).base + 4 * (s.book n).words * s.get (uScb n) scb_WRPTR_SLOT
    ∧ (rw = s.bookHeader n false true :: BitVec.ofNat 32 (s.at t).tick :: ((if s.on (uScb n) scb_SCFG_TS64 then [BitVec.ofNat 32 ((s.at t).tick / 2 ^ 32)]
    else []) ++ (s.taps n).map fun k => s.tapWord n k))) ∧
    (let b := base
     let t : Nat := 10
     let n : Nat := 7
     let s : State := (let s1 : State := (let b := en [816, 824] b; let b := ((((b.set uPalloc (palloc_ALLOCB_VALID 5) 1).set uPalloc (palloc_ALLOCB_CLIENT 5) (0x30 + n)).set uPalloc (palloc_ALLOCA_BASE 5) 16).set uPalloc (palloc_ALLOCA_SIZEM1 5) 1).set uSys sys_MODESTAT_MODE 4; let u := uScb n; let b := (forN 16 (fun k s => s.setW (u.addr (scb_TAP_EN k).off) 0) b).setW (u.addr (scb_TAP_EN 2).off) 0 |>.set u (scb_TAP_EN 2) 1 |>.set u (scb_TAP_KIND 2) 2 |>.set u (scb_TAP_IDX 2) 33 |>.setW (u.addr scb_TRIGCFG_KIND.off) 0 |>.set u scb_SCFG_CAD 3 |>.set u scb_SOFS_TICKS 5 |>.set (uCad 3) cad_PERIOD_TICKS 20 |>.set u scb_SDEC_DEC 0 |>.set (uCad 3) cad_CADCFG_MODE 0; (b.setW (sigAddr 33) 0xFFFF8123).set u scb_SCFG_TS64 (b.tick % 2)); { (((s1.set (uScb n) scb_SCTL_ARM 1).set (uScb n) scb_SSTAT_STATE 4).set (uScb n) scb_NREC_SLOTS 6).set (uScb n) scb_WRPTR_SLOT 4 with books := [(n, { base := 0x804000, words := s1.bookWords n, seq := 65535, gap := b.tick % 3 = 0, since := some 3, event := some 5, recAt := b.tick })], flips := [], badParity := [] })
     let e : Nat := 5
     n < 8 ∧ (s.book n).event = some e ∧ (s.at t).due (e + s.get (uScb n) scb_SOFS_TICKS) = true ∧ s.get (uScb n) scb_SCTL_ARM = 1
    ∧ s.runsMode = true ∧ s.enabled (uScb n) = true ∧ s.get (uScb n) scb_SSTAT_STATE = 4 ∧ s.flips = [] ∧ s.badParity = [] ∧ ((s.book n).since
    = none ∨ s.get (uScb n) scb_SDEC_DEC ≤ (s.book n).since.getD 0) ∧ (s.at t).bookBusy n = true)) :=
  ⟨by decide +kernel, by decide +kernel⟩

theorem witness_lanes :
    ((let b := base
     let t : Nat := 800000
     let s : State := { (((forN 9 (fun n s => (((s.set (uLane n) ln_STSTAT_RESULT 1).set (uLane n) hdr_USTAT_STATE 0).set (uLane n) hdr_UCTL_URST 0)) (en [384, 385, 386, 387, 388, 389, 390, 391, 392, 393, 394] b)).set uLaneSh hdr_UCTL_URST 0)).set uSys sys_MODESTAT_MODE 4 with rotNext := b.tick % 9, laneBad := [] }
     s.locked = true ∧ s.runsMode = true ∧ s.tick ≤ t ∧ t % 800000 = 0 ∧ (∀ n ∈ List.range 9, s.enabled (uLane n) = true ∧ s.get (uLane n) hdr_USTAT_STATE
    ≠ 3 ∧ n ∉ s.laneBad ∧ s.get (uLane n) ln_STSTAT_RESULT ≠ 3)) ∧
    (let b := base
     let n : Nat := 8
     let s : State := ((b.set uLaneSh lnsh_ROTSTAT_TEST n).set (uLane n) ln_STSTAT_RESULT 3).set (uLane n) ln_LNSTAT_RUNNING 0
     n < 9 ∧ s.get uLaneSh lnsh_ROTSTAT_TEST = n ∧ s.get (uLane n) ln_STSTAT_RESULT = 3 ∧ s.get (uLane n) ln_LNSTAT_RUNNING = 0) ∧
    (let b := base
     let n : Nat := 8
     let step : Nat := 15
     let s : State := (((b.set uLaneSh lnsh_ROTSTAT_TEST n).set (uLane n) ln_STSTAT_RESULT 3).set (uLane n) ln_LNSTAT_RUNNING 0).setW ((uLane n).addr 0x20) 0
     n < 9 ∧ step < 16 ∧ s.get uLaneSh lnsh_ROTSTAT_TEST = n ∧ s.get (uLane n) ln_STSTAT_RESULT = 3 ∧ s.get (uLane n) ln_LNSTAT_RUNNING
    = 0 ∧ s.sel (uLane n) 0 = 0)) ∧
    ((let b := base
     let s : State := (b.set uLaneSh lnsh_LBISTCMD_GO 0).set uSys sys_MODESTAT_MODE 1
     s.serves uLaneSh 0x88 ∧ s.inMode .config = true) ∧
    (let b := base
     let s : State := (b.set uLaneSh lnsh_LBISTCMD_GO 0).set uSys sys_MODESTAT_MODE 3
     s.serves uLaneSh 0x88 ∧ s.inMode .config = false ∧ s.get uLaneSh lnsh_LBISTCMD_GO = 0) ∧
    (let b := base
     let s : State := b.set uLaneSh lnsh_LBISTCMD_GO 1
     s.get uLaneSh lnsh_LBISTCMD_GO = 1)) ∧
    (let b := base
     let n : Nat := 257
     let s : State := (forN 9 (fun n s => s.setW ((uLane n).addr 0x20) 0) (b.set uLaneSh lnsh_LBISTCMD_GO 1)).setW (uLaneSh.addr 0x20) 0
     n < 512 ∧ s.get uLaneSh lnsh_LBISTCMD_GO = 1 ∧ s.sel uLaneSh 0 = 0 ∧ (∀ k ∈ List.range 9, s.sel (uLane k) 0 = 0)) :=
  ⟨by decide +kernel, by decide +kernel, by decide +kernel⟩

theorem witness_margin_gauge_clear_stated :
    (let b := base
     let n : Nat := 8
     let s : State := b
     s.serves (uLane n) 0x10C ∧ n < 9) :=
  by decide +kernel

theorem witness_cadences :
    ((let b := base
     let n : Nat := 15
     let mask : Nat := 65535
     let per : Nat := 40
     let ph : Nat := 39
     let s : State := (((en [0, 2, 63] b).set uCadSh cadsh_RUNNING_CAD 0).set (uCad n) cad_CADCFG_MODE 0).set (uCad n) cad_PERIOD_TICKS per |>.set (uCad n) cad_PHASE_TICKS ph
     s.serves uCadSh 0x80 ∧ n < 16 ∧ mask.testBit n = true ∧ s.enabled (uCad n) = true ∧ s.cadRuns n = false ∧ s.get (uCad n) cad_CADCFG_MODE
    = 0 ∧ 40 ≤ s.get (uCad n) cad_PERIOD_TICKS ∧ s.get (uCad n) cad_PHASE_TICKS < s.get (uCad n) cad_PERIOD_TICKS) ∧
    (let b := base
     let n : Nat := 15
     let mask : Nat := 65535
     let per : Nat := 39
     let ph : Nat := 0
     let s : State := (((en [0, 2, 63] b).set uCadSh cadsh_RUNNING_CAD 0).set (uCad n) cad_CADCFG_MODE 0).set (uCad n) cad_PERIOD_TICKS per |>.set (uCad n) cad_PHASE_TICKS ph
     s.serves uCadSh 0x80 ∧ n < 16 ∧ mask.testBit n = true ∧ s.enabled (uCad n) = true ∧ s.cadRuns n = false ∧ s.get (uCad n) cad_CADCFG_MODE
    = 0 ∧ s.get (uCad n) cad_PERIOD_TICKS < 40) ∧
    (let b := base
     let n : Nat := 15
     let mask : Nat := 65535
     let src : Nat := 7
     let s : State := ((((en [0, 2, 63] b).set uCadSh cadsh_RUNNING_CAD 0).set (uCad n) cad_CADCFG_MODE 1).set (uCad n) cad_CADCFG_SRC src)
     s.serves uCadSh 0x80 ∧ n < 16 ∧ mask.testBit n = true ∧ s.enabled (uCad n) = true ∧ s.cadRuns n = false ∧ s.get (uCad n) cad_CADCFG_MODE
    = 1 ∧ s.get (uCad n) cad_CADCFG_SRC = src ∧ src < 8)) ∧
    ((let b := base
     let n : Nat := 15
     let mask : Nat := 65535
     let src : Nat := 8
     let s : State := ((((en [0, 2, 63] b).set uCadSh cadsh_RUNNING_CAD 0).set (uCad n) cad_CADCFG_MODE 1).set (uCad n) cad_CADCFG_SRC src)
     s.serves uCadSh 0x80 ∧ n < 16 ∧ mask.testBit n = true ∧ s.enabled (uCad n) = true ∧ s.cadRuns n = false ∧ s.get (uCad n) cad_CADCFG_MODE
    = 1 ∧ s.get (uCad n) cad_CADCFG_SRC = src ∧ 8 ≤ src) ∧
    (let b := base
     let n : Nat := 15
     let mask : Nat := 65535
     let per : Nat := 40
     let ph : Nat := 40
     let s : State := (((en [0, 2, 63] b).set uCadSh cadsh_RUNNING_CAD 0).set (uCad n) cad_CADCFG_MODE 0).set (uCad n) cad_PERIOD_TICKS per |>.set (uCad n) cad_PHASE_TICKS ph
     s.serves uCadSh 0x80 ∧ n < 16 ∧ mask.testBit n = true ∧ s.enabled (uCad n) = true ∧ s.cadRuns n = false ∧ s.get (uCad n) cad_CADCFG_MODE
    = 0 ∧ 40 ≤ s.get (uCad n) cad_PERIOD_TICKS ∧ s.get (uCad n) cad_PERIOD_TICKS ≤ s.get (uCad n) cad_PHASE_TICKS) ∧
    (let b := base
     let n : Nat := 15
     let s : State := b.set uCadSh cadsh_RUNNING_CAD (b.tick % 65536)
     s.serves uCadSh 0x84 ∧ n < 16)) ∧
    ((let b := base
     let t : Nat := 100
     let n : Nat := 15
     let d : Nat := 100
     let s : State := { (((en [0, 2, 63] b).set uCadSh cadsh_RUNNING_CAD 65535).set uSys sys_MODESTAT_MODE 1) with cads := [(n, { due := [d] })] }
     n < 16 ∧ s.locked = true ∧ s.runsMode = false ∧ s.enabled (uCad n) = true ∧ s.cadRuns n = true ∧ (s.cad n).slaved = false ∧ (s.cad n).due
    = [d] ∧ d ≤ t ∧ s.tick ≤ t) ∧
    (let b := base
     let t : Nat := 100
     let n : Nat := 15
     let d : Nat := 100
     let s : State := { (((en [0, 2, 63] b).set uCadSh cadsh_RUNNING_CAD 65535).set uSys sys_MODESTAT_MODE 1) with cads := [(n, { slaved := true, due := [d] })] }
     n < 16 ∧ s.locked = true ∧ s.runsMode = false ∧ s.enabled (uCad n) = true ∧ s.cadRuns n = true ∧ (s.cad n).slaved = true ∧ (s.cad n).due
    = [d] ∧ d ≤ t ∧ s.tick ≤ t) ∧
    (let b := base
     let n : Nat := 15
     let v : Nat := 40
     let s : State := b
     s.serves (uCad n) 0x44 ∧ n < 16 ∧ v < 2 ^ 28 ∧ (s.cadRuns n = false ∨ (s.cad n).slaved = true ∨ 40 ≤ v))) ∧
    (let b := base
     let n : Nat := 15
     let v : Nat := 39
     let s : State := { (b.set uCadSh cadsh_RUNNING_CAD 65535) with cads := [(n, { interval := 4000 })] }
     s.serves (uCad n) 0x44 ∧ n < 16 ∧ s.cadRuns n = true ∧ (s.cad n).slaved = false ∧ v < 40 ∧ (s.cad n).interval < 2 ^ 28) :=
  ⟨by decide +kernel, by decide +kernel, by decide +kernel, by decide +kernel⟩

theorem witness_memory_integrity :
    (let b := base
     let t : Nat := 2600
     let c : Nat := 5119
     let s : State := { (b.set uSys sys_MODESTAT_MODE 3) with scrubNext := c, scrubAt := none, flips := [] }
     s.locked = true ∧ s.deepDormant = false ∧ s.tick ≤ t ∧ t % 2600 ≤ 80 ∧ s.scrubAt ≠ some (t / 2600) ∧ s.scrubNext = c ∧ c + 1 < 152576
    ∧ s.errs c = []) ∧
    (let b := base
     let t : Nat := 2600
     let c : Nat := 21504
     let e : Nat × Byte := (36, 255)
     let s : State := { (b.set uSys sys_MODESTAT_MODE 3) with scrubNext := c, scrubAt := none, flips := [(37 * c + e.1, e.2)] }
     s.locked = true ∧ s.deepDormant = false ∧ s.tick ≤ t ∧ t % 2600 ≤ 80 ∧ s.scrubAt ≠ some (t / 2600) ∧ s.scrubNext = c ∧ c + 1 < 152576
    ∧ s.errs c = [e]) ∧
    (let b := base
     let t : Nat := 2600
     let c : Nat := 152575
     let s : State := { (b.set uSys sys_MODESTAT_MODE 3) with scrubNext := c, scrubAt := none, flips := [] }
     s.locked = true ∧ s.deepDormant = false ∧ s.tick ≤ t ∧ t % 2600 ≤ 80 ∧ s.scrubAt ≠ some (t / 2600) ∧ s.scrubNext = c ∧ c + 1 = 152576
    ∧ s.errs c = []) ∧
    (let b := base
     let t : Nat := 400000
     let s : State := (b.set uPscrub psc_CSSTAT_ARMED 1).set uSys sys_MODESTAT_MODE 1
     s.get uPscrub psc_CSSTAT_ARMED = 1 ∧ s.locked = true ∧ s.deepDormant = false ∧ s.tick ≤ t ∧ t % 800000 = 400000) ∧
    (∃ s : State, s.get uPscrub psc_CSSTAT_BUSY = 1 ∧ s.signature = s.getW (uPscrub.addr psc_CSREF_CRC.off)) ∧
    (∃ s : State, s.get uPscrub psc_CSSTAT_BUSY = 1 ∧ s.signature ≠ s.getW (uPscrub.addr psc_CSREF_CRC.off) ∧ s.inMode .config = true) :=
  ⟨by decide +kernel, by decide +kernel, by decide +kernel, by decide +kernel, ⟨((base.set uPscrub psc_CSSTAT_BUSY 1).set uSys sys_MODESTAT_MODE 1).setW (uPscrub.addr psc_CSREF_CRC.off) ((base.set uPscrub psc_CSSTAT_BUSY 1).set uSys sys_MODESTAT_MODE 1).signature, by unfold State.get; rw [State.getW_setW_other _ _ (by decide)]; decide +kernel,
    by rw [signature_setW_csref, State.getW_setW_same]⟩, ⟨((base.set uPscrub psc_CSSTAT_BUSY 1).set uSys sys_MODESTAT_MODE 1).setW (uPscrub.addr psc_CSREF_CRC.off) (~~~((base.set uPscrub psc_CSSTAT_BUSY 1).set uSys sys_MODESTAT_MODE 1).signature), by unfold State.get; rw [State.getW_setW_other _ _ (by decide)]; decide +kernel,
    by rw [signature_setW_csref, State.getW_setW_same]; exact not_own_complement _,
    by unfold State.inMode State.mode State.get; rw [State.getW_setW_other _ _ (by decide)]; decide +kernel⟩⟩

theorem witness_reset_and_boot :
    ((let b := base
     let s : State := { b with boot := .held }
     s.boot = .held) ∧
    (let b := base
     let s : State := b
     s.boot ≠ .held) ∧
    (let b := base
     let s : State := { b with boot := .reference }
     s.boot = .reference)) ∧
    ((let b := base
     let s : State := { (b.set uTbase tb_TBSTAT_LOCK 0) with boot := .lock }
     s.locked = false ∧ s.boot = .lock) ∧
    (let b := base
     let s : State := (b.set uTbase tb_TBSTAT_LOCK 0).set uSys sys_MODESTAT_VARIANT 0
     s.locked = false ∧ s.boot = .done ∧ s.deepDormant = false) ∧
    (let b := base
     let s : State := { (b.set uSys sys_MODESTAT_MODE 1) with boot := .memory }
     s.boot = .memory ∧ s.inMode .config = true ∧ s.stoIn = false)) ∧
    ((let b := base
     let s : State := b
     s.locked = true ∧ s.boot = .done) ∧
    (let b := base
     let s : State := { b with boot := .memory }
     s.locked = true ∧ s.boot ≠ .done) ∧
    (let b := base
     let t : Nat := 0
     let s : State := b.set uSys sys_MODESTAT_MODE 1
     let d : Nat := (s.dlAt).getD 0
     s.locked = true ∧ s.boot = .done ∧ s.inMode .calibrate = false ∧ (s.dlAt = none ∨ s.dlAt = some d ∧ d + 40000 ≤ (s.at t).tick))) :=
  ⟨by decide +kernel, by decide +kernel, by decide +kernel⟩

theorem witness_unit_enable_reset :
    (let b := base
     let page : Nat := 0x100
     let s : State := (if page % 3 = 0 then (en [] b) else b)
     let u : Machine.Unit := (unitAt page).getD ⟨.sys, 0⟩
     unitAt page = some u ∧ s.serves u 0xC) ∧
    (let b := base
     let page : Nat := 0x100
     let s : State := b
     let u : Machine.Unit := (unitAt page).getD ⟨.sys, 0⟩
     unitAt page = some u ∧ s.serves u 0xC) ∧
    (let b := base
     let page : Nat := 0x100
     let s : State := (match unitAt page with | some u => b.set u hdr_UCTL_URST 1 | none => b)
     let u : Machine.Unit := (unitAt page).getD ⟨.sys, 0⟩
     unitAt page = some u ∧ s.on u hdr_UCTL_URST = true) :=
  by decide +kernel

theorem witness_modes :
    ((let b := base
     let target : Nat := 1
     let after : Nat := 0
     let s : State := (b.set uSys sys_MODESTAT_TRANS 0).set uSys sys_STRAPS_TMODE 0 |>.set uSys sys_MODESTAT_MODE (b.tick % 7 + (if b.tick = 0 then 3 else 0)) |>.set uSrv srv_SVCFG_PAIREN 0
     let frm : Nat := s.mode
     s.serves uSys 0xC4 ∧ target < 16 ∧ after < 16 ∧ target ≠ 2 ∧ target ≠ 7 ∧ s.modeCause target after frm = 0) ∧
    (let b := base
     let s : State := ((b.set uSys sys_MODESTAT_TRANS 0).set uSys sys_STRAPS_TMODE 0).set uSys sys_MODESTAT_MODE 1 |>.set uSys sys_LOCKALL_ALL 1 |>.setW (uSsv.addr ssv_SHCAUSE_CAUSE.off) 0 |> forN 9 (fun n s => s.set (uStage n) stg_GSTAT_LATCH 0)
     let frm : Nat := s.mode
     s.serves uSys 0xC4 ∧ s.modeCause 2 3 frm = 0) ∧
    (let b := base
     let after : Nat := 1
     let s : State := (b.set uSys sys_MODESTAT_TRANS 0).set uSys sys_STRAPS_TMODE 0 |>.set uSys sys_MODESTAT_MODE [3,4,6].toArray[b.tick % 3]!
     let frm : Nat := s.mode
     s.serves uSys 0xC4 ∧ after < 16 ∧ s.modeCause 7 after frm = 0)) ∧
    ((let b := base
     let target : Nat := 2
     let after : Nat := 3
     let frm : Nat := 3
     let s : State := b
     s.serves uSys 0xC4 ∧ target < 16 ∧ after < 16 ∧ frm < 16 ∧ s.modeCause target after frm ≠ 0) ∧
    (let b := base
     let x : Trans := ⟨1, 0, 0⟩
     let s : State := { ((b.set uSys sys_MODESTAT_TRANS 1).set uSsv ssv_STOCFG_MODE 0).setW (uSsv.addr ssv_SHCAUSE_CAUSE.off) 0 |>.set uSys sys_MODESTAT_MODE (if b.tick % 2 = 0 then 3 else 6) with trans := some x }
     s.trans = some x ∧ x.target = 1 ∧ (s.mode = 3 ∨ s.mode = 6) ∧ s.pair.take = none ∧ s.pair.release = none ∧ s.stoIn = false ∧ s.get uSsv ssv_SHCAUSE_CAUSE
    = 0 ∧ s.get uSys sys_MODESTAT_TRANS = 1 ∧ s.get uSsv ssv_STOCFG_MODE = 0) ∧
    (let b := base
     let x : Trans := ⟨4, 0, 0⟩
     let s : State := { ((b.set uSys sys_MODESTAT_TRANS 1)).set uSys sys_MODESTAT_MODE [3,3,4,5,6].toArray[b.tick % 5]! with trans := some x }
     s.trans = some x ∧ x.target < 6 ∧ s.mode ≠ 0 ∧ s.mode ≠ 2 ∧ s.mode ≠ 7 ∧ s.pair.take = none ∧ s.pair.release = none)) ∧
    ((let b := base
     let x : Trans := ⟨3, 0, 0⟩
     let s : State := { ((b.set uSys sys_MODESTAT_TRANS 1)).set uSys sys_MODESTAT_MODE 0 with trans := some x }
     s.trans = some x ∧ x.target < 6 ∧ s.inMode .dormant = true ∧ s.locked = true ∧ s.pair.take = none ∧ s.pair.release = none) ∧
    (let b := base
     let x : Trans := ⟨7, 1, 0⟩
     let s : State := { ((b.set uSys sys_MODESTAT_TRANS 1)).set uSys sys_MODESTAT_MODE 7 with trans := some x, discharged := true }
     s.trans = some x ∧ x.after < 2 ∧ s.inMode .discharge = true ∧ s.discharged = true ∧ s.pair.take = none ∧ s.pair.release = none) ∧
    (let b := base
     let s : State := forN 8 (fun n s => s.set (uCv n) cv_CVSTAT_CALIB 0) (((b.set uSys sys_MODESTAT_TRANS 1).set uSsv ssv_STOCFG_MODE 0).setW (uSsv.addr ssv_SHCAUSE_CAUSE.off) 0 |>.set uSys sys_MODESTAT_MODE 2)
     s.inMode .calibrate = true ∧ (∀ n ∈ List.range 8, s.get (uCv n) cv_CVSTAT_CALIB = 0) ∧ s.get uSys sys_MODESTAT_TRANS = 1 ∧ s.stoIn
    = false ∧ s.get uSsv ssv_SHCAUSE_CAUSE = 0 ∧ s.get uSsv ssv_STOCFG_MODE = 0)) ∧
    ((let b := base
     let s : State := forN 8 (fun n s => s.set (uCv n) cv_CVSTAT_CALIB 0) (((b.set uSys sys_MODESTAT_TRANS 1)).set uSys sys_MODESTAT_MODE 2)
     s.inMode .calibrate = true ∧ (∀ n ∈ List.range 8, s.get (uCv n) cv_CVSTAT_CALIB = 0) ∧ s.get uSys sys_MODESTAT_TRANS = 1 ∧ s.calFailed
    = false) ∧
    (let b := base
     let t : Nat := 2000000000
     let s : State := { (b.set uSys sys_MODESTAT_MODE 7) with tick := 1900000000, link := { b.link with disAt := 5 } }
     s.inMode .discharge = true ∧ s.discharged = false ∧ s.due (s.link.disAt + 800000000) = true ∧ (s.locked = false ∨ s.tick ≤ t))) :=
  ⟨by decide +kernel, by decide +kernel, by decide +kernel, by decide +kernel⟩

theorem witness_mode_table :
    ((∃ (s : State) (frm : Nat), frm ≠ s.mode) ∧ (∃ (s : State), s.get uSys sys_MODESTAT_TRANS = 1) ∧
    (∃ (s : State), s.mode = 1 ∧ s.get uSys sys_MODESTAT_TRANS = 0 ∧ s.get uSys sys_STRAPS_TMODE = 0)) :=
  ⟨⟨base, 5, by decide +kernel⟩, ⟨State.reset, by decide +kernel⟩, ⟨base, by decide +kernel⟩⟩

theorem witness_register_access :
    ((let b := base
     let port : Nat := 1
     let page : Nat := 0x100
     let o : Nat := 0x14
     let be : Nat := 15
     let s : State := (let s1 : State := (if b.tick % 3 = 0 then (match unitAt page with | some u => b.set u hdr_UCTL_LOCK 1 | none => b) else b).set uSys sys_MODESTAT_MODE (let m := b.tick % 8; if m = 0 then 3 else m); { s1 with lockBusy := false, swReset := false, boot := .done, badParity := [], flips := [] })
     let u : Machine.Unit := (unitAt page).getD ⟨.sys, 0⟩
     let m : Word := (kindMask .rw (u.fieldsAt o) ||| (if s.on u hdr_UCTL_LOCK then 0 else kindMask .rwl (u.fieldsAt o))) &&& beMask be
     s.calm ∧ port < 2 ∧ s.idlePort port ∧ unitAt page = some u ∧ s.unheld u ∧ (o = 0x14 ∨ o = 0x18 ∨ o = 0x20) ∧ 0 < be ∧ be < 16
    ∧ (m = (kindMask .rw (u.fieldsAt o) ||| (if s.on u hdr_UCTL_LOCK then 0 else kindMask .rwl (u.fieldsAt o))) &&& beMask be)) ∧
    (let b := base
     let port : Nat := 1
     let page : Nat := 0x100
     let s : State := ((let s1 : State := (b).set uSys sys_MODESTAT_MODE (let m := b.tick % 8; if m = 0 then 3 else m); { s1 with lockBusy := false, swReset := false, boot := .done, badParity := [], flips := [] })).set uSys sys_CFG_STMODE 0
     let u : Machine.Unit := (unitAt page).getD ⟨.sys, 0⟩
     s.calm ∧ port < 2 ∧ s.idlePort port ∧ unitAt page = some u ∧ s.unheld u ∧ s.stmode = false ∧ (s.port port).latch = none) ∧
    (let b := base
     let port : Nat := 1
     let page : Nat := 0x100
     let s : State := ((let s1 : State := (b).set uSys sys_MODESTAT_MODE (let m := b.tick % 8; if m = 0 then 3 else m); { s1 with lockBusy := false, swReset := false, boot := .done, badParity := [], flips := [] })).set uSys sys_CFG_STMODE 1
     let u : Machine.Unit := (unitAt page).getD ⟨.sys, 0⟩
     s.calm ∧ port < 2 ∧ s.idlePort port ∧ unitAt page = some u ∧ s.unheld u ∧ s.stmode = true ∧ (s.port port).latch = none)) ∧
    ((let b := base
     let port : Nat := 1
     let s : State := (let s1 : State := (b).set uSys sys_MODESTAT_MODE (let m := b.tick % 8; if m = 0 then 3 else m); { s1 with lockBusy := false, swReset := false, boot := .done, badParity := [], flips := [] })
     s.calm ∧ port < 2 ∧ s.idlePort port ∧ s.unheld uTbase) ∧
    (let b := base
     let port : Nat := 1
     let s : State := { (let s1 : State := (b).set uSys sys_MODESTAT_MODE (let m := b.tick % 8; if m = 0 then 3 else m); { s1 with lockBusy := false, swReset := false, boot := .done, badParity := [], flips := [] }) with ports := [(port, { latch := some (0x104C, 77) })] }
     s.calm ∧ port < 2 ∧ s.idlePort port ∧ s.unheld uTbase) ∧
    (let b := base
     let t : Nat := 100000
     let page : Nat := 0x100
     let lo : Nat := 0
     let h : Nat := 1
     let s : State := (match unitAt page with | some u => { b.setW (u.addr 0x10) 0xFFFFFFFF with holds := [(holdKey u ⟨0x10, lo, 1⟩, h)], tick := 149000000 } | none => b) |>.set uSys sys_CFG_STMODE 1
     let u : Machine.Unit := (unitAt page).getD ⟨.sys, 0⟩
     s.stmode = true ∧ unitAt page = some u ∧ ((u.fieldsAt 0x10).any (fun f => f.lo ≤ lo && lo < f.lo + f.w && f.kind = .cor) = true)
    ∧ (sget (fun _ => 0) s.holds (holdKey u ⟨0x10, lo, 1⟩) = h) ∧ 0 < h ∧ (s.at t).due (h - 1 + 100000) = true ∧ lo < 32)) :=
  ⟨by decide +kernel, by decide +kernel⟩

theorem witness_fault_clear_and_lock :
    ((let b := base
     let t : Nat := 0
     let port : Nat := 1
     let page : Nat := 0x100
     let s : State := (let s1 : State := ((match unitAt page with | some u => b.set u hdr_USTAT_OWNF 1 | none => b)).set uSys sys_MODESTAT_MODE (let m := b.tick % 8; if m = 0 then 3 else m); { s1 with lockBusy := false, swReset := false, boot := .done, badParity := [], flips := [] })
     let u : Machine.Unit := (unitAt page).getD ⟨.sys, 0⟩
     s.calm ∧ port < 2 ∧ s.idlePort port ∧ unitAt page = some u ∧ s.unheld u ∧ u.kind ∉ [.stage, .cm, .chan, .so, .reg, .srv] ∧ s.causeStands u
    = false ∧ (s.at t).noted (0x2000000 + page) = false) ∧
    (let b := base
     let port : Nat := 1
     let page : Nat := 0x100
     let s : State := (let s1 : State := (b).set uSys sys_MODESTAT_MODE (let m := b.tick % 8; if m = 0 then 3 else m); { s1 with lockBusy := false, swReset := false, boot := .done, badParity := [], flips := [] })
     let u : Machine.Unit := (unitAt page).getD ⟨.sys, 0⟩
     s.calm ∧ port < 2 ∧ s.idlePort port ∧ unitAt page = some u ∧ s.unheld u) ∧
    (let b := base
     let port : Nat := 1
     let s : State := (let s1 : State := (b.set uSys sys_LOCKALL_ALL 0).set uSys sys_MODESTAT_MODE (let m := b.tick % 8; if m = 0 then 3 else m); { s1 with lockBusy := false, swReset := false, boot := .done, badParity := [], flips := [] })
     s.calm ∧ port < 2 ∧ s.idlePort port ∧ s.unheld uSys ∧ s.get uSys sys_LOCKALL_ALL = 0)) ∧
    (let b := base
     let s : State := { b with lockBusy := true }
     s.lockBusy = true) :=
  ⟨by decide +kernel, by decide +kernel⟩

theorem witness_mailbox_and_signals :
    ((let b := base
     let port : Nat := 1
     let s : State := (let s1 : State := (b).set uSys sys_MODESTAT_MODE (let m := b.tick % 8; if m = 0 then 3 else m); { s1 with lockBusy := false, swReset := false, boot := .done, badParity := [], flips := [] })
     s.calm ∧ port < 2 ∧ s.idlePort port) ∧
    (let b := base
     let v : Nat := 18446744073709551615
     let s : State := { b with mbxCap := some (some v) }
     s.mbxCap = some (some v)) ∧
    (let b := base
     let s : State := { b with mbxCap := some none }
     s.mbxCap = some none)) ∧
    ((let b := base
     let port : Nat := 1
     let n : Nat := 4095
     let be : Nat := 15
     let s : State := (let s1 : State := ((b.setDir n dir_WCLASS 6).setDir n dir_TYPE (b.tick % 2)).set uSys sys_MODESTAT_MODE (let m := b.tick % 8; if m = 0 then 3 else m); { s1 with lockBusy := false, swReset := false, boot := .done, badParity := [], flips := [] })
     s.calm ∧ port < 2 ∧ s.idlePort port ∧ n < 4096 ∧ 0 < be ∧ be < 16 ∧ s.dir n dir_WCLASS = 6) ∧
    (let b := base
     let port : Nat := 1
     let n : Nat := 4095
     let be : Nat := 15
     let s : State := (let s1 : State := (b).set uSys sys_MODESTAT_MODE (let m := b.tick % 8; if m = 0 then 3 else m); { s1 with lockBusy := false, swReset := false, boot := .done, badParity := [], flips := [] })
     s.calm ∧ port < 2 ∧ s.idlePort port ∧ n < 4096 ∧ 0 < be ∧ be < 16 ∧ s.dir n dir_WCLASS ≠ 6) ∧
    (let b := base
     let port : Nat := 1
     let n : Nat := 4095
     let s : State := (let s1 : State := (b.setW (dirAddr n) 0).set uSys sys_MODESTAT_MODE 1; { s1 with lockBusy := false, swReset := false, boot := .done, badParity := [], flips := [] })
     s.calm ∧ port < 2 ∧ s.idlePort port ∧ n < 4096 ∧ s.inMode .config = true ∧ s.get uSigb hdr_UCTL_LOCK = 0 ∧ s.dir n dir_WCLASS
    = 0 ∧ s.dir n dir_RDRCNT = 0)) :=
  ⟨by decide +kernel, by decide +kernel⟩

theorem witness_binding_write :
    (let b := base
     let port : Nat := 1
     let p : Nat := 127
     let k : Nat := 7
     let n : Nat := 4095
     let s : State := (let s1 : State := (((b.setW (dirAddr n) 0).setW ((uPod p).addr (pod_OUTBIND_KIND k).off) 0).set (uPod p) hdr_UCTL_EN 0 |>.set (uPod p) hdr_UCTL_LOCK 0).set uSys sys_MODESTAT_MODE (let m := b.tick % 8; if m = 0 then 3 else m); { s1 with lockBusy := false, swReset := false, boot := .done, badParity := [], flips := [] })
     s.calm ∧ port < 2 ∧ s.idlePort port ∧ p < 128 ∧ k < 8 ∧ n < 4096 ∧ s.enabled (uPod p) = false ∧ s.unheld (uPod p) ∧ s.get (uPod p) hdr_UCTL_LOCK
    = 0 ∧ s.get (uPod p) (pod_OUTBIND_KIND k) = 0 ∧ s.dir n dir_TYPE = 0 ∧ s.dir n dir_WCLASS = 0) ∧
    (let b := base
     let port : Nat := 1
     let p : Nat := 127
     let k : Nat := 7
     let n : Nat := 4095
     let s : State := (let s1 : State := (((b.setW (dirAddr n) 0).setDir n dir_WCLASS 6).setW ((uPod p).addr (pod_OUTBIND_KIND k).off) 0 |>.set (uPod p) hdr_UCTL_EN 0 |>.set (uPod p) hdr_UCTL_LOCK 0).set uSys sys_MODESTAT_MODE (let m := b.tick % 8; if m = 0 then 3 else m); { s1 with lockBusy := false, swReset := false, boot := .done, badParity := [], flips := [] })
     s.calm ∧ port < 2 ∧ s.idlePort port ∧ p < 128 ∧ k < 8 ∧ n < 4096 ∧ s.enabled (uPod p) = false ∧ s.unheld (uPod p) ∧ s.get (uPod p) hdr_UCTL_LOCK
    = 0 ∧ s.get (uPod p) (pod_OUTBIND_KIND k) = 0 ∧ s.dir n dir_TYPE = 0 ∧ s.dir n dir_WCLASS = 6) :=
  by decide +kernel

theorem witness_memory_and_configuration_writes :
    ((let b := base
     let port : Nat := 1
     let off : Nat := 4194300
     let be : Nat := 15
     let s : State := (let s1 : State := (b.setMemWord (poolBase + off) 0xA5A5A5A5 15).set uSys sys_MODESTAT_MODE 1; { s1 with lockBusy := false, swReset := false, boot := .done, badParity := [], flips := [] })
     s.calm ∧ port < 2 ∧ s.idlePort port ∧ off % 4 = 0 ∧ off < 0x400000 ∧ 0 < be ∧ be < 16 ∧ s.inMode .config = true ∧ s.errs (cwOfAddr (poolBase
    + off)) = []) ∧
    (let b := base
     let port : Nat := 1
     let off : Nat := 262144
     let be : Nat := 15
     let s : State := (let s1 : State := (b.setMemWord (tableBase + off) 0xA5A5A5A5 15).set uSys sys_MODESTAT_MODE (let m := b.tick % 8; if m = 0 then 3 else m); { s1 with lockBusy := false, swReset := false, boot := .done, badParity := [], flips := [] })
     s.calm ∧ port < 2 ∧ s.idlePort port ∧ off % 4 = 0 ∧ off < 0x80000 ∧ 0 < be ∧ be < 16 ∧ (s.inMode .config = true ∨ off / 0x40000
    ≠ s.activeBank) ∧ s.errs (cwOfAddr (tableBase + off)) = []) ∧
    (let b := base
     let port : Nat := 1
     let off : Nat := 0
     let be : Nat := 15
     let s : State := (let s1 : State := (b).set uSys sys_MODESTAT_MODE 4; { s1 with lockBusy := false, swReset := false, boot := .done, badParity := [], flips := [] })
     s.calm ∧ port < 2 ∧ s.idlePort port ∧ off % 4 = 0 ∧ off < 0x80000 ∧ 0 < be ∧ be < 16 ∧ s.inMode .config = false ∧ off / 0x40000
    = s.activeBank)) ∧
    ((let b := base
     let port : Nat := 1
     let n : Nat := 63
     let c : Nat := 0x50
     let s : State := (let s1 : State := ((forN 64 (fun k s => (s.setW (uPalloc.addr (palloc_ALLOCB_VALID k).off) 0).setW (uPalloc.addr (palloc_ALLOCA_BASE k).off) 0) b)).set uSys sys_MODESTAT_MODE 1; { s1 with lockBusy := false, swReset := false, boot := .done, badParity := [], flips := [] })
     s.calm ∧ port < 2 ∧ s.idlePort port ∧ n < 64 ∧ c < 256 ∧ s.unheld uPalloc ∧ s.get uPalloc (palloc_ALLOCB_VALID n) = 0 ∧ (s.set uPalloc (palloc_ALLOCB_CLIENT n) c).allocCause n
    = 0) ∧
    (let b := base
     let port : Nat := 1
     let a : Nat := 3
     let c : Nat := 7
     let be : Nat := 15
     let s : State := (let s1 : State := (b).set uSys sys_MODESTAT_MODE (let m := b.tick % 8; if m = 0 then 3 else m); { s1 with lockBusy := false, swReset := false, boot := .done, badParity := [], flips := [] })
     s.calm ∧ port < 2 ∧ s.idlePort port ∧ 0 < be ∧ be < 16 ∧ a < 16 ∧ c < 8 ∧ s.unheld (uQuad a) ∧ s.noted ((uQuad a).addr (0x140
    + 0x80 * (a % 4) + 4 * c)) = false) ∧
    (let b := base
     let port : Nat := 1
     let a : Nat := 3
     let c : Nat := 7
     let be : Nat := 15
     let s : State := (let s1 : State := (b).set uSys sys_MODESTAT_MODE (let m := b.tick % 8; if m = 0 then 3 else m); { s1 with lockBusy := false, swReset := false, boot := .done, badParity := [], flips := [] })
     s.calm ∧ port < 2 ∧ s.idlePort port ∧ 0 < be ∧ be < 16 ∧ a < 16 ∧ c < 8 ∧ s.unheld (uQuad a))) ∧
    ((let b := base
     let port : Nat := 1
     let be : Nat := 15
     let s : State := (let s1 : State := (b).set uSys sys_MODESTAT_MODE (let m := b.tick % 8; if m = 0 then 3 else m); { s1 with lockBusy := false, swReset := false, boot := .done, badParity := [], flips := [] })
     s.calm ∧ port < 2 ∧ s.idlePort port ∧ 0 < be ∧ be < 16 ∧ s.unheld (uStage 0)) ∧
    (let b := base
     let port : Nat := 1
     let st : Nat := 1
     let be : Nat := 15
     let s : State := (let s1 : State := (b).set uSys sys_MODESTAT_MODE (let m := b.tick % 8; if m = 0 then 3 else m); { s1 with lockBusy := false, swReset := false, boot := .done, badParity := [], flips := [] })
     s.calm ∧ port < 2 ∧ s.idlePort port ∧ 0 < be ∧ be < 16 ∧ st < 2 ∧ s.unheld (uStage st)) ∧
    (let b := base
     let port : Nat := 1
     let c : Nat := 5
     let be : Nat := 15
     let s : State := (let s1 : State := (b).set uSys sys_MODESTAT_MODE (let m := b.tick % 8; if m = 0 then 3 else m); { s1 with lockBusy := false, swReset := false, boot := .done, badParity := [], flips := [] })
     s.calm ∧ port < 2 ∧ s.idlePort port ∧ 0 < be ∧ be < 16 ∧ c < 6 ∧ s.unheld (uChan c))) ∧
    ((let b := base
     let t : Nat := 0
     let port : Nat := 1
     let c : Nat := 5
     let be : Nat := 15
     let s : State := (let s1 : State := (b).set uSys sys_MODESTAT_MODE (let m := b.tick % 8; if m = 0 then 3 else m); { s1 with lockBusy := false, swReset := false, boot := .done, badParity := [], flips := [] })
     s.calm ∧ port < 2 ∧ s.idlePort port ∧ 0 < be ∧ be < 16 ∧ c < 6 ∧ (s.at t).noted ((uDec c).addr 0x40) = false ∧ s.unheld (uDec c)) ∧
    (let b := base
     let port : Nat := 1
     let i : Nat := 23
     let w : Word := 0x12345678
     let be : Nat := 15
     let s : State := (let s1 : State := (b).set uSys sys_MODESTAT_MODE (let m := b.tick % 8; if m = 0 then 3 else m); { s1 with lockBusy := false, swReset := false, boot := .done, badParity := [], flips := [] })
     s.calm ∧ port < 2 ∧ s.idlePort port ∧ 0 < be ∧ be < 16 ∧ i < 24 ∧ w.getLsbD 0 = false ∧ s.unheld (uCk i)) ∧
    (let b := base
     let port : Nat := 1
     let i : Nat := 23
     let be : Nat := 15
     let s : State := (let s1 : State := (b).set uSys sys_MODESTAT_MODE (let m := b.tick % 8; if m = 0 then 3 else m); { s1 with lockBusy := false, swReset := false, boot := .done, badParity := [], flips := [] })
     s.calm ∧ port < 2 ∧ s.idlePort port ∧ 0 < be ∧ be < 16 ∧ i < 24 ∧ s.get (uCk i) ck_KCTL_ARM = 0 ∧ s.unheld (uCk i))) ∧
    ((let b := base
     let t : Nat := 0
     let port : Nat := 1
     let n : Nat := 7
     let s : State := (let s1 : State := (forN 64 (fun k s => s.setW (uPalloc.addr (palloc_ALLOCB_VALID k).off) 0) b).set uSys sys_MODESTAT_MODE (let m := b.tick % 8; if m = 0 then 3 else m); { s1 with lockBusy := false, swReset := false, boot := .done, badParity := [], flips := [] })
     s.calm ∧ port < 2 ∧ s.idlePort port ∧ n < 8 ∧ s.unheld (uCv n) ∧ s.cvRegion n = none ∧ (s.at t).noted ((uCv n).addr 0x68) = false) ∧
    (let b := base
     let t : Nat := 0
     let port : Nat := 1
     let k : Nat := 15
     let be : Nat := 15
     let s : State := (let s1 : State := (b.setW (uRouter.addr (0x100 + 4 * k)) 0xFFFF1234).set uSys sys_MODESTAT_MODE (let m := b.tick % 8; if m = 0 then 3 else m); { s1 with lockBusy := false, swReset := false, boot := .done, badParity := [], flips := [] })
     s.calm ∧ port < 2 ∧ s.idlePort port ∧ k < 16 ∧ 0 < be ∧ be < 16 ∧ s.unheld uRouter ∧ (∀ j ∈ List.range 32, (s.at t).noted (0x1000000
    + 32 * k + j) = false)) ∧
    (let x : Nat := 1
     x < 2)) :=
  ⟨by decide +kernel, by decide +kernel, by decide +kernel, by decide +kernel, by decide +kernel⟩

theorem witness_host_frames :
    ((let b := base
     let f0 : HFrame := { port := 0, len := 3, addr := 0x800000, seq := 7, be := 0x0F, crc := 0, mode3 := false, cut := false }
     let f : HFrame := { f0 with be := 0, crc := requestCrc .read { f0 with be := 0 } [] }
     let s : State := (let s1 : State := (b.setMemWords 0x8000A0 [1,2,3,4]).set uSys sys_MODESTAT_MODE (let m := b.tick % 8; if m = 0 then 3 else m); { s1 with lockBusy := false, swReset := false, boot := .done, badParity := [], flips := [] })
     s.calm ∧ s.boot ≠ .held ∧ f.port < 2 ∧ s.idlePort f.port ∧ f.len < 256 ∧ f.addr < 2 ^ 32 ∧ f.seq < 256 ∧ f.be < 256 ∧ (f.part
    = 0 ∨ f.len < f.part) ∧ requestCrc .read f [] = f.crc ∧ (((s.port f.port).stored.filter fun x => f.seq ≠ 0 && x.1 = f.seq
    && x.2.1 = f.crc) = none) ∧ f.be < 16 ∧ f.addr % 4 = 0 ∧ poolBase ≤ f.addr ∧ f.addr + 4 * f.len < 0xC00000 ∧ s.flips = []) ∧
    (let b := base
     let f0 : HFrame := { port := 0, len := 3, addr := 0x800000, seq := 7, be := 0x0F, crc := 0, mode3 := false, cut := false }
     let d : List Word := [1, 0xFFFFFFFF, 3, 0x80000000]
     let f : HFrame := { f0 with be := f0.be % 16, crc := requestCrc .write { f0 with be := f0.be % 16 } (takeWords (requestWords f0) d) }
     let s : State := (let s1 : State := (b.setMemWords 0x8000A0 [1,2,3,4]).set uSys sys_MODESTAT_MODE 1; { s1 with lockBusy := false, swReset := false, boot := .done, badParity := [], flips := [] })
     s.calm ∧ s.inMode .config = true ∧ s.boot ≠ .held ∧ f.port < 2 ∧ s.idlePort f.port ∧ f.len < 256 ∧ f.addr < 2 ^ 32 ∧ f.seq < 256
    ∧ f.be < 256 ∧ (f.part = 0 ∨ f.len < f.part) ∧ requestCrc .write f (takeWords (f.len + 1) d) = f.crc ∧ (((s.port f.port).stored.filter
    fun x => f.seq ≠ 0 && x.1 = f.seq && x.2.1 = f.crc) = none) ∧ f.be < 16 ∧ f.addr % 4 = 0 ∧ poolBase ≤ f.addr ∧ f.addr + 4 * f.len < 0xC00000
    ∧ s.flips = []) ∧
    (let b := base
     let f0 : HFrame := { port := 0, len := 3, addr := 0x800000, seq := 7, be := 0x0F, crc := 0, mode3 := false, cut := false }
     let d : List Word := [1, 0xFFFFFFFF, 3, 0x80000000]
     let e : List Word := [0xFFFFFFFF]
     let f : HFrame := { f0 with be := f0.be % 16, crc := requestCrc .writem { f0 with be := f0.be % 16 } (takeWords (enableWords f0) e ++ takeWords (requestWords f0) d) }
     let s : State := (let s1 : State := (b.setMemWords 0x8000A0 [1,2,3,4]).set uSys sys_MODESTAT_MODE 1; { s1 with lockBusy := false, swReset := false, boot := .done, badParity := [], flips := [] })
     s.calm ∧ s.inMode .config = true ∧ s.boot ≠ .held ∧ f.port < 2 ∧ s.idlePort f.port ∧ f.len < 256 ∧ f.addr < 2 ^ 32 ∧ f.seq < 256
    ∧ f.be < 256 ∧ (f.part = 0 ∨ f.len < f.part) ∧ requestCrc .writem f (takeWords (f.len / 8 + 1) e ++ takeWords (f.len + 1) d)
    = f.crc ∧ (((s.port f.port).stored.filter fun x => f.seq ≠ 0 && x.1 = f.seq && x.2.1 = f.crc) = none) ∧ f.be < 16 ∧ f.addr % 4
    = 0 ∧ poolBase ≤ f.addr ∧ f.addr + 4 * f.len < 0xC00000 ∧ s.flips = [])) ∧
    ((let b := base
     let f0 : HFrame := { port := 0, len := 3, addr := 0x800000, seq := 7, be := 0x0F, crc := 0, mode3 := false, cut := false, part := 2 }
     let d : List Word := [1, 0xFFFFFFFF, 3, 0x80000000]
     let f : HFrame := { f0 with be := f0.be % 16, crc := requestCrc .write { f0 with be := f0.be % 16 } (takeWords (requestWords f0) d) }
     let s : State := (let s1 : State := (b.setMemWords 0x8000A0 [1,2,3,4]).set uSys sys_MODESTAT_MODE 1; { s1 with lockBusy := false, swReset := false, boot := .done, badParity := [], flips := [] })
     s.calm ∧ s.inMode .config = true ∧ s.boot ≠ .held ∧ f.port < 2 ∧ s.idlePort f.port ∧ f.len < 256 ∧ f.addr < 2 ^ 32 ∧ f.seq < 256
    ∧ f.be < 256 ∧ 0 < f.part ∧ f.part ≤ f.len ∧ requestCrc .write f (takeWords (f.len + 1) d) = f.crc ∧ (((s.port f.port).stored.filter
    fun x => f.seq ≠ 0 && x.1 = f.seq && x.2.1 = f.crc) = none) ∧ f.be < 16 ∧ f.addr % 4 = 0 ∧ poolBase ≤ f.addr ∧ f.addr + 4 * f.len < 0xC00000
    ∧ s.flips = []) ∧
    (let b := base
     let f0 : HFrame := { port := 0, len := 3, addr := 0x800000, seq := 7, be := 0x0F, crc := 0, mode3 := false, cut := false, part := 2 }
     let d : List Word := [1, 0xFFFFFFFF, 3, 0x80000000]
     let f : HFrame := { f0 with be := f0.be % 16, crc := requestCrc .write { f0 with be := f0.be % 16 } (takeWords (requestWords f0) d) }
     let s : State := (let s : State := (let s1 : State := (b.setMemWords 0x8000A0 [1,2,3,4]).set uSys sys_MODESTAT_MODE 1; { s1 with lockBusy := false, swReset := false, boot := .done, badParity := [], flips := [] }); s.modPort f.port fun h => { h with burst := some { burstOf .write f (takeWords (f.len + 1) d) with next := f.part } })
     let n : Nat := f.part
     s.calm ∧ s.inMode .config = true ∧ f.port < 2 ∧ f.addr % 4 = 0 ∧ f.be < 16 ∧ n ≤ f.len ∧ poolBase ≤ f.addr ∧ f.addr + 4 * f.len < 0xC00000 ∧ s.flips = [] ∧ (s.port f.port).burst = some { burstOf .write f (takeWords (f.len + 1) d) with next := n }) ∧
    (let b := base
     let f0 : HFrame := { port := 0, len := 3, addr := 0x800000, seq := 7, be := 0x0F, crc := 0, mode3 := false, cut := false }
     let f : HFrame := { f0 with be := 0, len := 0, crc := requestCrc .nop { f0 with be := 0, len := 0 } [] }
     let s : State := (let s1 : State := (b).set uSys sys_MODESTAT_MODE (let m := b.tick % 8; if m = 0 then 3 else m); { s1 with lockBusy := false, swReset := false, boot := .done, badParity := [], flips := [] })
     s.swReset = false ∧ s.boot ≠ .held ∧ f.port < 2 ∧ s.idlePort f.port ∧ f.len < 256 ∧ f.addr < 2 ^ 32 ∧ f.seq < 256 ∧ f.be < 256
    ∧ (f.part = 0 ∨ f.len < f.part) ∧ requestCrc .nop f [] = f.crc ∧ (((s.port f.port).stored.filter fun x => f.seq ≠ 0 && x.1
    = f.seq && x.2.1 = f.crc) = none) ∧ f.be < 16 ∧ f.len = 0)) ∧
    ((let b := base
     let f0 : HFrame := { port := 0, len := 3, addr := 0x800000, seq := 7, be := 0x0F, crc := 0, mode3 := false, cut := false }
     let op : Nat := 4
     let f : HFrame := { f0 with crc := requestCrc (.undef op) f0 [] }
     let s : State := b
     s.boot ≠ .held ∧ f.port < 2 ∧ s.idlePort f.port ∧ f.len < 256 ∧ f.addr < 2 ^ 32 ∧ f.seq < 256 ∧ f.be < 256 ∧ op ∉ [1, 2, 3, 15]
    ∧ requestCrc (.undef op) f [] = f.crc ∧ (((s.port f.port).stored.filter fun x => f.seq ≠ 0 && x.1 = f.seq && x.2.1 = f.crc)
    = none)) ∧
    (let b := base
     let f0 : HFrame := { port := 0, len := 3, addr := 0x800000, seq := 7, be := 0x0F, crc := 0, mode3 := false, cut := false }
     let f : HFrame := { f0 with crc := requestCrc .nop f0 [] + 1 }
     let s : State := b
     s.boot ≠ .held ∧ f.port < 2 ∧ s.idlePort f.port ∧ f.len < 256 ∧ f.addr < 2 ^ 32 ∧ f.seq < 256 ∧ f.be < 256 ∧ requestCrc .nop f []
    ≠ f.crc) ∧
    (let b := base
     let f0 : HFrame := { port := 0, len := 3, addr := 0x800000, seq := 7, be := 0x0F, crc := 0, mode3 := false, cut := false }
     let f : HFrame := { f0 with seq := 9, crc := requestCrc .read { f0 with seq := 9 } [] }
     let l : List Byte := [5, 6]
     let s : State := { b with ports := [(f.port, { stored := some (f.seq, f.crc, l) })] }
     s.boot ≠ .held ∧ f.port < 2 ∧ s.idlePort f.port ∧ f.len < 256 ∧ f.addr < 2 ^ 32 ∧ f.seq < 256 ∧ f.be < 256 ∧ requestCrc .read f []
    = f.crc ∧ 0 < f.seq ∧ (s.port f.port).stored = some (f.seq, f.crc, l))) ∧
    (let b := base
     let port : Nat := 1
     let s : State := b
     s.boot ≠ .held ∧ port < 2 ∧ s.idlePort port) :=
  ⟨by decide +kernel, by decide +kernel, by decide +kernel, by decide +kernel⟩

theorem witness_traction_carrier :
    (let b := base
     let t : Nat := 77
     let st : Nat := 1
     let d : Nat := 77
     let s : State := (let b := en [548, 516] b; let b := ((b.set uSys sys_MODESTAT_MODE [3,4,5,6,7].toArray[b.tick % 5]!).set (uStage st) trac_TCAR_PERIOD 25000).set (uStage 0) trac_TCFG_MACH 0; { b with trac := sset (fun _ => {}) b.trac st { b.tr st with next := some d, nextPeak := false } })
     st < 2 ∧ s.lead st = st ∧ s.tracRuns st = true ∧ (s.at t).carrierDue st false = some d) ∧
    (let b := base
     let t : Nat := 77
     let st : Nat := 1
     let d : Nat := 77
     let s : State := (let b := en [548, 516] b; let b := ((b.set uSys sys_MODESTAT_MODE [3,4,7].toArray[b.tick % 3]!).set (uStage st) trac_TCAR_PERIOD 25000).set (uStage 0) trac_TCFG_MACH 0; { ((b.setW (sigAddr 40) 21504).set (uStage st) trac_TVDC_SIG 40).set (uStage st) trac_TVDC_MIN 100 |>.set (uStage st) trac_TCFG_LOADPT 2 with pods := [], trac := [(st, { period := 25000, len := 25001 + b.tick % 3, valley := 5, next := some d, nextPeak := true, thetaAt := if b.tick % 2 = 0 then some 3 else none })], refs := [(st * 256, BitVec.ofNat 32 (b.tick % 32768)), (st * 256 + 1, 770)], badParity := [] })
     let va : Int := (s.vAlphaBeta st (s.angleAt st (2 * d + ((s.tr st).len - (s.tr st).len / 2)))).1
     let vb : Int := (s.vAlphaBeta st (s.angleAt st (2 * d + ((s.tr st).len - (s.tr st).len / 2)))).2
     let vdc : Int := lo16 (s.sig (s.get (uStage st) trac_TVDC_SIG))
     st < 2 ∧ s.lead st = st ∧ s.tracRuns st = true ∧ (s.at t).carrierDue st true = some d ∧ s.isLoad st true = true ∧ (∀ q ∈ s.pods.map Prod.fst,
    (s.at t).applyDue q = false) ∧ s.badParity = [] ∧ vdc = lo16 (s.sig (s.get (uStage st) trac_TVDC_SIG)) ∧ 0 < vdc ∧ (s.get (uStage st) trac_TVDC_MIN : Int) ≤ vdc
    ∧ s.vAlphaBeta st (s.angleAt st (2 * d + ((s.tr st).len - (s.tr st).len / 2))) = (va, vb)) :=
  by decide +kernel

theorem witness_position_and_asc :
    ((let b := base
     let t : Nat := 90000000
     let st : Nat := 1
     let s : State := (let b := en [548, 516] b; let b := ((b.set uSys sys_MODESTAT_MODE 3).set (uStage st) trac_TCAR_PERIOD 25000).set (uStage 0) trac_TCFG_MACH 0; (let b := (((b.set (uStage st) trac_TSEN1_SIG 50).setW (sigAddr 50) (BitVec.ofNat 32 (b.tick % 2))).set (uStage st) trac_TOBS1_SIG 51).setW (sigAddr 51) 1000 |>.set (uStage st) trac_TOBS1_LOCKTH (b.tick % 2000) |>.set (uStage st) trac_TPSTAT_STATE 0 |>.set (uStage st) trac_TSRC_SRC 0; { b with trac := sset (fun _ => {}) b.trac st { b.tr st with selFrom := some 5 } }))
     let v : Nat := 5
     let i : PosIn := s.posIn st
     st < 2 ∧ s.lead st = st ∧ s.tracRuns st = true ∧ (s.at t).selectDue st = some v ∧ s.posIn st = i ∧ s.inMode .run = false ∧ s.get (uStage st) trac_TSRC_SRC
    = 0) ∧
    (let b := base
     let t : Nat := 90000000
     let st : Nat := 1
     let s : State := (let b := en [548, 516] b; let b := ((b.set uSys sys_MODESTAT_MODE 4).set (uStage st) trac_TCAR_PERIOD 25000).set (uStage 0) trac_TCFG_MACH 0; (let b := (((b.set (uStage st) trac_TSEN1_SIG 50).setW (sigAddr 50) 1).set (uStage st) trac_TOBS1_SIG 51).setW (sigAddr 51) 1000 |>.set (uStage st) trac_TOBS1_LOCKTH (b.tick % 2000) |>.set (uStage st) trac_TPSTAT_STATE 0 |>.set (uStage st) trac_TSRC_SRC 0 |>.setW ((uStage st).addr 0x20) 0; { b with trac := sset (fun _ => {}) b.trac st { b.tr st with selFrom := some 5 } }))
     let v : Nat := 5
     let i : PosIn := s.posIn st
     st < 2 ∧ s.lead st = st ∧ s.tracRuns st = true ∧ (s.at t).selectDue st = some v ∧ s.posIn st = i ∧ s.inMode .run = true ∧ s.badParity
    = [] ∧ s.get (uStage st) trac_TPSTAT_STATE = 0 ∧ i.sOk = true ∧ s.sel (uStage st) 6 = 0) ∧
    (let b := base
     let t : Nat := 90000000
     let st : Nat := 1
     let s : State := (let b := en [548, 516] b; let b := ((b.set uSys sys_MODESTAT_MODE 4).set (uStage st) trac_TCAR_PERIOD 25000).set (uStage 0) trac_TCFG_MACH 0; (let b := (((b.set (uStage st) trac_TSEN1_SIG 50).setW (sigAddr 50) 0).set (uStage st) trac_TOBS1_SIG 51).setW (sigAddr 51) 1000 |>.set (uStage st) trac_TOBS1_LOCKTH 500 |>.set (uStage st) trac_TPSTAT_STATE 0 |>.set (uStage st) trac_TSRC_SRC 0 |>.set (uStage st) trac_TSRC_FBEN 1; { b with trac := sset (fun _ => {}) b.trac st { b.tr st with selFrom := some 5 } }))
     let v : Nat := 5
     let i : PosIn := s.posIn st
     st < 2 ∧ s.lead st = st ∧ s.tracRuns st = true ∧ (s.at t).selectDue st = some v ∧ s.posIn st = i ∧ s.inMode .run = true ∧ s.badParity
    = [] ∧ s.get (uStage st) trac_TPSTAT_STATE = 0 ∧ i.sOk = false ∧ i.lock = true ∧ s.get (uStage st) trac_TSRC_FBEN = 1)) ∧
    ((let b := base
     let t : Nat := 90000000
     let st : Nat := 1
     let s : State := (let b := en [548, 516] b; let b := ((b.set uSys sys_MODESTAT_MODE 4).set (uStage st) trac_TCAR_PERIOD 25000).set (uStage 0) trac_TCFG_MACH 0; (let b := (((b.set (uStage st) trac_TSEN1_SIG 50).setW (sigAddr 50) 0).set (uStage st) trac_TOBS1_SIG 51).setW (sigAddr 51) 1000 |>.set (uStage st) trac_TOBS1_LOCKTH (b.tick % 2000) |>.set (uStage st) trac_TPSTAT_STATE 0 |>.set (uStage st) trac_TSRC_SRC 0 |>.set (uStage st) trac_TSRC_FBEN 0; { b with trac := sset (fun _ => {}) b.trac st { b.tr st with selFrom := some 5 } }))
     let v : Nat := 5
     let i : PosIn := s.posIn st
     st < 2 ∧ s.lead st = st ∧ s.tracRuns st = true ∧ (s.at t).selectDue st = some v ∧ s.posIn st = i ∧ s.inMode .run = true ∧ s.badParity
    = [] ∧ s.get (uStage st) trac_TPSTAT_STATE = 0 ∧ i.sOk = false ∧ s.get (uStage st) trac_TSRC_FBEN = 0) ∧
    (let b := base
     let t : Nat := 90000000
     let st : Nat := 1
     let s : State := (let b := en [548, 516] b; let b := ((b.set uSys sys_MODESTAT_MODE 4).set (uStage st) trac_TCAR_PERIOD 25000).set (uStage 0) trac_TCFG_MACH 0; { (b.set (uStage st) trac_TPSTAT_STATE 2).setW ((uStage st).addr 0x20) (BitVec.ofNat 32 (b.tick % 4)) |>.set (uStage st) stg_GSTAT_STATE 0 |>.set (uStage st) trac_TLOSS_RELOCKN 3 with trac := [(st, { holdAt := 5, selFrom := some 5, locked := b.tick % 3 })] })
     let v : Nat := 5
     st < 2 ∧ (s.at t).selectDue st = some v ∧ s.inMode .run = true ∧ s.badParity = [] ∧ s.get (uStage st) trac_TPSTAT_STATE = 2 ∧ (s.at t).relockOver st
    = true ∧ ((s.posIn st).lock = false ∨ (s.tr st).locked + 1 < s.get (uStage st) trac_TLOSS_RELOCKN) ∧ s.gstate st = 0 ∧ s.sel (uStage st) 0 < 4
    ∧ s.sel (uStage st) 4 = 0 ∧ s.enabled (uStage st) = true) ∧
    (let b := base
     let st : Nat := 1
     let s : State := b
     st < 2 ∧ s.serves (uStage st) 0xF0)) ∧
    ((let b := base
     let t : Nat := 100
     let st : Nat := 1
     let t0 : Nat := 77
     let s : State := (let s1 : State := en [] b; { (s1.set (uStage 0) trac_TCFG_MACH 0).set (uStage st) stg_GSTAT_STATE 3 |>.set (uStage st) (trac_TCUR_EN 0) 1 with trac := [(st, { signAt := some t0 })] })
     st < 2 ∧ s.lead st = st ∧ s.gstate st = 3 ∧ s.get (uStage st) (trac_TCUR_EN 0) = 1 ∧ (s.tr st).signAt = some t0 ∧ s.locked = true
    ∧ t0 < (s.at t).tick) ∧
    (let b := base
     let t : Nat := 90000000
     let st : Nat := 1
     let t0 : Nat := 77
     let s : State := { (b.set (uStage 0) trac_TCFG_MACH 0).set (uStage st) stg_GSTAT_STATE 3 |>.set (uStage st) (trac_TCUR_EN 0) 1 with trac := [(st, { signAt := some t0 })] }
     st < 2 ∧ s.lead st = st ∧ s.gstate st = 3 ∧ (s.tr st).signAt = some t0 ∧ (s.at t).due (t0 + 20000000) = true)) :=
  ⟨by decide +kernel, by decide +kernel, by decide +kernel⟩

theorem witness_protection_trip :
    (let b := base
     let t : Nat := 0
     let g : Nat := 5
     let k : Nat := 1
     let s : State := (let b := en [548, 532] b; let b := (b.set (uStage 0) trac_TCFG_MACH 0).set uSys sys_MODESTAT_MODE 4; let b := (forN 9 (fun h s => (((s.setW ((uStage h).addr (stg_GSRC0_CMP).off) 0).set (uStage h) stg_GSTAT_STATE 0).set (uStage h) stg_GSTAT_LATCH 0)) b); (b.set (uStage g) stg_GSRC1_SWRET 65535))
     g < 9 ∧ s.lead g = g ∧ s.acts g = true ∧ s.gstate g = 0 ∧ s.glatch g = false ∧ s.isSource g (.sw g k) = true ∧ (∀ h ∈ List.range 9,
    h ≠ g → s.isSource h (.sw g k) = false) ∧ (s.at t).srcBlanked (.sw g k) = false ∧ .sw g k ∉ s.srcActive) ∧
    (let b := base
     let g : Nat := 5
     let n : Nat := 9
     let s : State := (let b := en [548, 532, 672, 685, 687] b; let b := (b.set (uStage 0) trac_TCFG_MACH 0).set uSys sys_MODESTAT_MODE 4; let b := (forN 9 (fun h s => (((s.setW ((uStage h).addr (stg_GSRC0_CMP).off) 0).set (uStage h) stg_GSTAT_STATE 0).set (uStage h) stg_GSTAT_LATCH 0)) b); (b.setW ((uStage g).addr stg_GSRC0_CMP.off) 0xFFFFFFFF))
     g < 9 ∧ s.lead g = g ∧ s.acts g = true ∧ s.gstate g = 0 ∧ s.glatch g = false ∧ s.isSource g (.cmp n) = true ∧ (∀ h ∈ List.range 9,
    h ≠ g → s.isSource h (.cmp n) = false) ∧ s.cmpOn n = true ∧ .cmp n ∉ s.srcActive) ∧
    (let b := base
     let t : Nat := 0
     let g : Nat := 5
     let k : Nat := 1
     let s : State := (let b := en [548, 532] b; let b := (b.set (uStage 0) trac_TCFG_MACH 0).set uSys sys_MODESTAT_MODE 4; let b := (forN 9 (fun h s => (((s.setW ((uStage h).addr (stg_GSRC0_CMP).off) 0).set (uStage h) stg_GSTAT_STATE 0).set (uStage h) stg_GSTAT_LATCH 0)) b); (b.set (uStage g) stg_GSRC1_SWRET 65535))
     g < 9 ∧ s.lead g = g ∧ s.acts g = true ∧ s.gstate g = 0 ∧ s.glatch g = false ∧ s.isSource g (.sw g k) = true ∧ (∀ h ∈ List.range 9,
    h ≠ g → s.isSource h (.sw g k) = false) ∧ (s.at t).srcBlanked (.sw g k) = false) :=
  by decide +kernel

theorem witness_turn_off_and_retry :
    ((let b := base
     let t : Nat := 90000
     let st : Nat := 8
     let s : State := { (b.set (uStage 0) trac_TCFG_MACH 0).set (uStage st) stg_GSTAT_STATE 1 with stages := [(st, { start := 7, soft := true, asc := b.tick % 2 = 0 })] }
     st < 9 ∧ s.lead st = st ∧ s.gstate st = 1 ∧ (s.at t).due ((s.stg st).start + s.gsoft st) = true) ∧
    (let b := base
     let t : Nat := 90000
     let st : Nat := 1
     let s : State := { (b.set (uStage 0) trac_TCFG_MACH 0).set (uStage st) stg_GSTAT_STATE 2 with stages := [(st, { start := 7, asc := true })] }
     st < 9 ∧ s.lead st = st ∧ s.gstate st = 2 ∧ (s.stg st).asc = true ∧ (s.stg st).episode = false ∧ (s.at t).due ((s.stg st).start
    + s.gsoft st + (s.dead32 st + 31) / 32) = true) ∧
    (let b := base
     let t : Nat := 90000
     let st : Nat := 8
     let d : Nat := 77
     let gone : List Src := [.cmp 3]
     let s : State := { (b.set (uStage 0) trac_TCFG_MACH 0).set (uStage st) stg_GSTAT_STATE 2 |>.setW ((uStage st).addr stg_GSRC0_CMP.off) 0xFF with stages := [(st, { retryAt := some 77, resuming := none, episode := true })], srcActive := [.cmp 3] }
     st < 9 ∧ s.lead st = st ∧ (s.stg st).retryAt = some d ∧ (s.at t).due d = true ∧ (s.srcOff gone).srcNow st = false)) ∧
    ((let b := base
     let t : Nat := 90000
     let st : Nat := 8
     let d : Nat := 77
     let gone : List Src := []
     let s : State := { (b.set (uStage 0) trac_TCFG_MACH 0).set (uStage st) stg_GSTAT_STATE 2 |>.setW ((uStage st).addr stg_GSRC0_CMP.off) 0xFF with stages := [(st, { retryAt := some 77, resuming := none, episode := true })], srcActive := [.cmp 3] }
     st < 9 ∧ s.lead st = st ∧ (s.stg st).retryAt = some d ∧ (s.at t).due d = true ∧ (s.srcOff gone).srcNow st = true) ∧
    (let b := base
     let t : Nat := 90000
     let st : Nat := 8
     let gone : List Src := [.cmp 3]
     let s : State := { (b.set (uStage 0) trac_TCFG_MACH 0).set (uStage st) stg_GSTAT_STATE 2 |>.setW ((uStage st).addr stg_GSRC0_CMP.off) 0xFF with stages := [(st, { retryAt := none, resuming := some false, episode := true })], srcActive := [.grp 99] }
     st < 9 ∧ s.lead st = st ∧ (s.stg st).resuming = some false ∧ s.gstate st ≠ 1 ∧ (s.at t).resumePoint st = true ∧ (s.srcOff gone).srcNow st
    = false)) :=
  ⟨by decide +kernel, by decide +kernel⟩

theorem witness_ready_holds_and_refresh :
    ((let b := base
     let t : Nat := 90000000
     let st : Nat := 7
     let leg : Nat := 2
     let s : State := (let b := en [548, 540] b; let b := (b.set (uStage 0) trac_TCFG_MACH 0).set uSys sys_MODESTAT_MODE 4 |>.set (uStage st) stg_GSTAT_STATE 0 |>.set (uStage st) stg_GREF_EN 1 |>.set (uStage st) stg_GRDY_EN 15; { b with stages := [(st, { cmds := [⟨leg, 32 * 60, true, false⟩], edges := [⟨2 * leg, 32 * 77, true⟩] })], notReady := [] })
     let p : Nat := ((s.at t).refreshAt st leg).getD 0
     2 ≤ st ∧ st < 8 ∧ leg < stageLegs st ∧ s.get (uStage st) stg_GREF_EN = 1 ∧ s.gstate st = 0 ∧ s.acts st = true ∧ (s.at t).refreshAt st leg
    = some p ∧ (s.at t).commanded st (2 * leg) = true ∧ (s.readyHold st leg) = none) ∧
    (let b := base
     let t : Nat := 90000000
     let st : Nat := 7
     let leg : Nat := 2
     let s : State := (let b := en [548, 540] b; let b := (b.set (uStage 0) trac_TCFG_MACH 0).set uSys sys_MODESTAT_MODE 4 |>.set (uStage st) stg_GSTAT_STATE 0 |>.set (uStage st) stg_GREF_EN 1 |>.set (uStage st) stg_GRDY_EN 15; { b with stages := [(st, { cmds := [⟨leg, 32 * 60, true, false⟩], edges := [⟨2 * leg, 32 * 77, true⟩] })], notReady := [] })
     hasReady st leg = true ∧ st < 9 ∧ (s.get (uStage st) stg_GRDY_EN).testBit leg = true ∧ s.acts st = true ∧ s.gstate st = 0 ∧ (s.at t).commanded st (2 * leg)
    = true ∧ s.readyHold st leg = none) ∧
    (let b := base
     let st : Nat := 7
     let leg : Nat := 2
     let s : State := (let b := en [] b; let b := (b.set (uStage 0) trac_TCFG_MACH 0).set uSys sys_MODESTAT_MODE 4 |>.set (uStage st) stg_GSTAT_STATE 0 |>.set (uStage st) stg_GREF_EN 1 |>.set (uStage st) stg_GRDY_EN 15; { b with stages := [(st, { holds := [⟨leg, 5, 900, true⟩] })], notReady := [st * 8 + leg] })
     let h : ReadyHold := (s.readyHold st leg).getD ⟨0, 0, 0, false⟩
     st < 9 ∧ s.readyHold st leg = some h ∧ h.extended = true)) ∧
    ((let b := base
     let t : Nat := 900
     let st : Nat := 7
     let leg : Nat := 2
     let s : State := (let b := en [] b; let b := (b.set (uStage 0) trac_TCFG_MACH 0).set uSys sys_MODESTAT_MODE 4 |>.set (uStage st) stg_GSTAT_STATE 0 |>.set (uStage st) stg_GREF_EN 1 |>.set (uStage st) stg_GRDY_EN 15; { b with stages := [(st, { holds := [⟨leg, 5, 900, false⟩] })], notReady := [] })
     let h : ReadyHold := (s.readyHold st leg).getD ⟨0, 0, 0, false⟩
     st < 9 ∧ s.readyHold st leg = some h ∧ h.extended = false ∧ (s.at t).due h.until_ = true ∧ (st * 8 + leg) ∉ s.notReady) ∧
    (let b := base
     let t : Nat := 900
     let st : Nat := 7
     let leg : Nat := 2
     let s : State := (let b := en [] b; let b := (b.set (uStage 0) trac_TCFG_MACH 0).set uSys sys_MODESTAT_MODE 4 |>.set (uStage st) stg_GSTAT_STATE 0 |>.set (uStage st) stg_GREF_EN 1 |>.set (uStage st) stg_GRDY_EN 15; { b with stages := [(st, { holds := [⟨leg, 5, 900, false⟩] })], notReady := [st * 8 + leg] })
     let h : ReadyHold := (s.readyHold st leg).getD ⟨0, 0, 0, false⟩
     st < 9 ∧ s.readyHold st leg = some h ∧ h.extended = false ∧ (s.at t).due h.until_ = true ∧ (st * 8 + leg) ∈ s.notReady)) :=
  ⟨by decide +kernel, by decide +kernel⟩

theorem witness_chopper_and_discharge :
    ((let b := base
     let s : State := (let b := en [548, 544, 672, 685] b; let b := (b.set uSys sys_MODESTAT_MODE (if b.tick % 2 = 0 then 4 else 7)).setW ((uStage 2).addr 0x20) 0 |>.setW (uBrk.addr brk_LSTAT_CHOP.off) 0 |>.set uSess sess_SSTAT_ILK 0 |>.set uBrk stg_GSTAT_STATE 0 |>.set (uStage 2) stg_GSTAT_STATE 0 |>.set uBrk brk_LCFG_EN 1; { ((b.set uBrk brk_LCHOP_EN 1).setW ((⟨.wg, 0⟩ : Machine.Unit).addr 0xC) 1 |>.set uBrk brk_LCHOP_CMP (b.tick % 32) |>.set uBrk brk_LSTAT_CHOP 0) with failedCheck := [], link := { b.link with offAt := none } })
     s.chopActs = true ∧ s.cmpOn (s.get uBrk brk_LCHOP_CMP) = true ∧ s.get uBrk brk_LSTAT_CHOP = 0 ∧ s.link.offAt = none) ∧
    (let b := base
     let t : Nat := 90000000
     let t0 : Nat := 5
     let s : State := (let b := en [548, 544, 672, 685] b; let b := (b.set uSys sys_MODESTAT_MODE (if b.tick % 2 = 0 then 4 else 7)).setW ((uStage 2).addr 0x20) 0 |>.setW (uBrk.addr brk_LSTAT_CHOP.off) 0 |>.set uSess sess_SSTAT_ILK 0 |>.set uBrk stg_GSTAT_STATE 0 |>.set (uStage 2) stg_GSTAT_STATE 0 |>.set uBrk brk_LCFG_EN 1; { ((b.set uBrk brk_LCHOP_EN 1).setW ((⟨.wg, 0⟩ : Machine.Unit).addr 0xC) 1 |>.set uBrk brk_LCHOP_CMP (b.tick % 32) |>.set uBrk brk_LSTAT_CHOP 1) with failedCheck := [], link := { b.link with onAt := t0 } })
     s.chopActs = true ∧ s.cmpOn (s.get uBrk brk_LCHOP_CMP) = true ∧ s.get uBrk brk_LSTAT_CHOP = 1 ∧ s.link.onAt = t0 ∧ t0 + s.get uBrk brk_LCHOPT_MINON ≤ (s.at t).tick
    + 1) ∧
    (let b := base
     let t : Nat := 90000000
     let t0 : Nat := 5
     let s : State := (let b := en [548, 544, 672, 685] b; let b := (b.set uSys sys_MODESTAT_MODE (if b.tick % 2 = 0 then 4 else 7)).setW ((uStage 2).addr 0x20) 0 |>.setW (uBrk.addr brk_LSTAT_CHOP.off) 0 |>.set uSess sess_SSTAT_ILK 0 |>.set uBrk stg_GSTAT_STATE 0 |>.set (uStage 2) stg_GSTAT_STATE 0 |>.set uBrk brk_LCFG_EN 1; { ((b.set uBrk brk_LCHOP_EN 1).setW ((⟨.wg, 0⟩ : Machine.Unit).addr 0xC) 1 |>.set uBrk brk_LCHOP_CMP (b.tick % 32) |>.set uBrk brk_LSTAT_CHOP 0) with failedCheck := [], link := { b.link with offAt := some t0, level := 1 } })
     s.chopActs = true ∧ s.chopLevel = 1 ∧ s.get uBrk brk_LSTAT_CHOP = 0 ∧ s.link.offAt = some t0 ∧ t0 + s.get uBrk brk_LCHOPT_MINOFF ≤ (s.at t).tick)) ∧
    ((let b := base
     let t : Nat := 2000000000
     let s : State := (let b := en [548, 544] b; let b := (b.set uSys sys_MODESTAT_MODE 7).setW ((uStage 2).addr 0x20) 0 |>.setW (uBrk.addr brk_LSTAT_CHOP.off) 0 |>.set uSess sess_SSTAT_ILK 0 |>.set uBrk stg_GSTAT_STATE 0 |>.set (uStage 2) stg_GSTAT_STATE 0 |>.set uBrk brk_LCFG_EN 1; { ((b.set uBrk brk_LSTAT_DISSTATE 1).set uBrk brk_LDIS0_ROUTE 1 |>.set uBrk brk_LDIS2_TOPEN 3) with link := { b.link with disAt := 5 } })
     s.get uBrk brk_LSTAT_DISSTATE = 1 ∧ s.linkOn = true ∧ (s.at t).due (s.link.disAt + 400000 * s.get uBrk brk_LDIS2_TOPEN) = true
    ∧ s.get uBrk brk_LDIS0_ROUTE = 1) ∧
    (let b := base
     let t : Nat := 2000000000
     let s : State := (let b := en [548, 544] b; let b := (b.set uSys sys_MODESTAT_MODE 7).setW ((uStage 2).addr 0x20) 0 |>.setW (uBrk.addr brk_LSTAT_CHOP.off) 0 |>.set uSess sess_SSTAT_ILK 0 |>.set uBrk stg_GSTAT_STATE 0 |>.set (uStage 2) stg_GSTAT_STATE 0 |>.set uBrk brk_LCFG_EN 1; { ((b.set uBrk brk_LSTAT_DISSTATE 1).set uBrk brk_LDIS0_ROUTE 2 |>.set uBrk brk_LDIS2_TOPEN 3) with link := { b.link with disAt := 5 } })
     s.get uBrk brk_LSTAT_DISSTATE = 1 ∧ s.linkOn = true ∧ (s.at t).due (s.link.disAt + 400000 * s.get uBrk brk_LDIS2_TOPEN) = true
    ∧ s.get uBrk brk_LDIS0_ROUTE ≠ 1 ∧ s.sel (uStage 2) 1 = 0) ∧
    (let b := base
     let t : Nat := 2000000000
     let d : Nat := 77
     let s : State := (let b := en [548, 544] b; let b := (b.set uSys sys_MODESTAT_MODE 7).setW ((uStage 2).addr 0x20) 0 |>.setW (uBrk.addr brk_LSTAT_CHOP.off) 0 |>.set uSess sess_SSTAT_ILK 0 |>.set uBrk stg_GSTAT_STATE 0 |>.set (uStage 2) stg_GSTAT_STATE 0 |>.set uBrk brk_LCFG_EN 1; { ((b.set uBrk brk_LSTAT_DISSTATE 3).set uBrk brk_LDIS0_ROUTE 1 |>.set uBrk brk_LDIS2_TOPEN 3) with link := { b.link with nextPulse := 77 } }) |>.set uBrk brk_LDIS1_DMAX 20000
     s.get uBrk brk_LSTAT_DISSTATE = 3 ∧ s.linkOn = true ∧ s.link.nextPulse = d ∧ (s.at t).due d = true ∧ s.pulseTicks ≠ 0)) ∧
    ((let b := base
     let t : Nat := 2000000000
     let e : Nat := 700
     let s : State := (let b := en [] b; let b := (b.set uSys sys_MODESTAT_MODE 7).setW ((uStage 2).addr 0x20) 0 |>.setW (uBrk.addr brk_LSTAT_CHOP.off) 0 |>.set uSess sess_SSTAT_ILK 0 |>.set uBrk stg_GSTAT_STATE 0 |>.set (uStage 2) stg_GSTAT_STATE 0 |>.set uBrk brk_LCFG_EN 1; { ((b.set uBrk brk_LSTAT_DISSTATE 3).set uBrk brk_LDIS0_ROUTE 1 |>.set uBrk brk_LDIS2_TOPEN 3) with link := { b.link with pulseEnd := some 700 } })
     s.link.pulseEnd = some e ∧ (s.at t).due e = true) ∧
    (let b := base
     let t : Nat := 2000000000
     let e : Nat := 77
     let s : State := { (let b := en [548, 544] b; let b := (b.set uSys sys_MODESTAT_MODE 7).setW ((uStage 2).addr 0x20) 0 |>.setW (uBrk.addr brk_LSTAT_CHOP.off) 0 |>.set uSess sess_SSTAT_ILK 0 |>.set uBrk stg_GSTAT_STATE 0 |>.set (uStage 2) stg_GSTAT_STATE 0 |>.set uBrk brk_LCFG_EN 1; { ((b.set uBrk brk_LSTAT_DISSTATE 0).set uBrk brk_LDIS0_ROUTE 1 |>.set uBrk brk_LDIS2_TOPEN 3) with link := { b.link with events := [77, 99] } }) |>.set uBrk brk_LSIG0_VDC 33 |>.setW (sigAddr 33) (if b.tick = 0 then 0xFFFFFFFB else BitVec.ofNat 32 (b.tick % 40000)) with badParity := [] }
     let vdc : Int := lo16 (s.sig (s.get uBrk brk_LSIG0_VDC))
     s.link.events.head? = some e ∧ (s.at t).due (e + s.get uBrk brk_LCFG_OFS) = true ∧ s.linkOn = true ∧ uBrk.page ∉ s.failedCheck
    ∧ s.badParity = [] ∧ vdc = lo16 (s.sig (s.get uBrk brk_LSIG0_VDC)))) :=
  ⟨by decide +kernel, by decide +kernel, by decide +kernel⟩

theorem witness_precharge :
    ((let b := base
     let s : State := (let b := en [548, 544, 576] b; let b := (b.set uSys sys_MODESTAT_MODE 4).setW ((uStage 2).addr 0x20) 0 |>.setW (uBrk.addr brk_LSTAT_CHOP.off) 0 |>.set uSess sess_SSTAT_ILK 0 |>.set uBrk stg_GSTAT_STATE 0 |>.set (uStage 2) stg_GSTAT_STATE 0 |>.set uBrk brk_LCFG_EN 1; { (((b.set uBrk brk_LCONT_NEGEN 1).set uBrk brk_LCONT_POSEN 1).set uBrk brk_LSTAT_PRESTATE 0 |>.set uBrk brk_LPRECMD_GO 0) with link := { b.link with preAt := 5, stateAt := 5, vdc := 10, pack := 30000 } })
     s.serves uBrk 0xC0 ∧ s.inMode .run = true ∧ s.get uBrk brk_LPRECMD_GO = 0 ∧ s.linkOn = true ∧ s.get uBrk brk_LCONT_NEGEN = 1 ∧ s.get uBrk brk_LCONT_POSEN
    = 1 ∧ (s.get uBrk brk_LPRE1_PACKMIN : Int) ≤ s.link.pack ∧ (s.link.vdc - s.link.pack) * 1024 ≤ s.link.pack * s.get uBrk brk_LPRE0_WIN
    ∧ s.enabled uReg = true ∧ s.get uSess sess_SSTAT_ILK = 0) ∧
    (let b := base
     let ps : Nat := 3
     let s : State := (let b := en [] b; let b := (b.set uSys sys_MODESTAT_MODE 4).setW ((uStage 2).addr 0x20) 0 |>.setW (uBrk.addr brk_LSTAT_CHOP.off) 0 |>.set uSess sess_SSTAT_ILK 0 |>.set uBrk stg_GSTAT_STATE 0 |>.set (uStage 2) stg_GSTAT_STATE 0 |>.set uBrk brk_LCFG_EN 1; { (((b.set uBrk brk_LCONT_NEGEN 1).set uBrk brk_LCONT_POSEN 1).set uBrk brk_LSTAT_PRESTATE ps |>.set uBrk brk_LPRECMD_GO 1) with link := { b.link with preAt := 5, stateAt := 5, vdc := 10, pack := 30000 } })
     s.serves uBrk 0xC0 ∧ s.get uBrk brk_LPRECMD_GO = 1 ∧ s.get uBrk brk_LSTAT_PRESTATE = ps ∧ 1 ≤ ps ∧ ps ≤ 3) ∧
    (let b := base
     let s : State := b.set uBrk brk_LSTAT_PRESTATE (b.tick % 5)
     s.serves uBrk 0xC8)) ∧
    ((let b := base
     let t : Nat := 2000000000
     let s : State := (let b := en [] b; let b := (b.set uSys sys_MODESTAT_MODE 4).setW ((uStage 2).addr 0x20) 0 |>.setW (uBrk.addr brk_LSTAT_CHOP.off) 0 |>.set uSess sess_SSTAT_ILK 0 |>.set uBrk stg_GSTAT_STATE 0 |>.set (uStage 2) stg_GSTAT_STATE 0 |>.set uBrk brk_LCFG_EN 1; { (((b.set uBrk brk_LCONT_NEGEN 1).set uBrk brk_LCONT_POSEN 1).set uBrk brk_LSTAT_PRESTATE 1 |>.set uBrk brk_LPRECMD_GO 1) with link := { b.link with preAt := 5, stateAt := 5, vdc := 10, pack := 30000 } })
     s.get uBrk brk_LSTAT_PRESTATE = 1 ∧ ((s.at t).due (s.link.stateAt + 400000 * (if s.get uBrk brk_LCONT_TCLOSE = 0 then 1 else s.get uBrk brk_LCONT_TCLOSE))
    = true) ∧ s.sel (uStage 2) 1 = 0) ∧
    (let b := base
     let t : Nat := 2000000000
     let s : State := (let b := en [] b; let b := (b.set uSys sys_MODESTAT_MODE 4).setW ((uStage 2).addr 0x20) 0 |>.setW (uBrk.addr brk_LSTAT_CHOP.off) 0 |>.set uSess sess_SSTAT_ILK 0 |>.set uBrk stg_GSTAT_STATE 0 |>.set (uStage 2) stg_GSTAT_STATE 0 |>.set uBrk brk_LCFG_EN 1; { (((b.set uBrk brk_LCONT_NEGEN 1).set uBrk brk_LCONT_POSEN 1).set uBrk brk_LSTAT_PRESTATE 3 |>.set uBrk brk_LPRECMD_GO 1) with link := { b.link with preAt := 5, stateAt := 5, vdc := 10, pack := 30000 } })
     s.get uBrk brk_LSTAT_PRESTATE = 3 ∧ ((s.at t).due (s.link.stateAt + 400000 * (if s.get uBrk brk_LCONT_TCLOSE = 0 then 1 else s.get uBrk brk_LCONT_TCLOSE))
    = true) ∧ s.sel (uStage 2) 1 = 0) ∧
    (let b := base
     let t : Nat := 2000000000
     let ps : Nat := 2
     let s : State := (let b := en [] b; let b := (b.set uSys sys_MODESTAT_MODE 4).setW ((uStage 2).addr 0x20) 0 |>.setW (uBrk.addr brk_LSTAT_CHOP.off) 0 |>.set uSess sess_SSTAT_ILK 0 |>.set uBrk stg_GSTAT_STATE 0 |>.set (uStage 2) stg_GSTAT_STATE 0 |>.set uBrk brk_LCFG_EN 1; { (((b.set uBrk brk_LCONT_NEGEN 1).set uBrk brk_LCONT_POSEN 1).set uBrk brk_LSTAT_PRESTATE ps |>.set uBrk brk_LPRECMD_GO 1) with link := { b.link with preAt := 5, stateAt := 5, vdc := 10, pack := 30000 } }) |>.set uBrk brk_LPRE2_TMAX 5
     s.get uBrk brk_LSTAT_PRESTATE = ps ∧ 1 ≤ ps ∧ ps ≤ 2 ∧ (∀ e ∈ s.link.events.take 1, (s.at t).due (e + s.get uBrk brk_LCFG_OFS)
    = false) ∧ ((s.at t).due (s.link.preAt + 400000 * (if s.get uBrk brk_LPRE2_TMAX = 0 then 1 else s.get uBrk brk_LPRE2_TMAX))
    = true))) :=
  ⟨by decide +kernel, by decide +kernel⟩

theorem witness_regulator :
    ((let b := base
     let t : Nat := 9
     let n : Nat := 3
     let s : State := (let b := en [] b; let b := (b.set uSys sys_MODESTAT_MODE 4).setW ((uStage 2).addr 0x20) 0 |>.setW (uBrk.addr brk_LSTAT_CHOP.off) 0 |>.set uSess sess_SSTAT_ILK 0 |>.set uBrk stg_GSTAT_STATE 0 |>.set (uStage 2) stg_GSTAT_STATE 0 |>.set uBrk brk_LCFG_EN 1; (let s1 : State := (b.set uReg reg_RSTAT_STATE 2).set (uPhase n) ph_PHSTAT_STATE 1; { forN 4 (fun k s => ((s.set (uPhase k) ph_PHSTAT_STATE (if k = n then 1 else if k < n then 0 else b.tick % 3)).set (uPhase k) ph_PHSTAT_ONP (if k = n then 0 else 0)).set (uPhase k) ph_PHSTAT_WAITW (if k = n then 0 else 0)) (s1.setW (uReg.addr reg_RPULSE_MINOFF.off) 0) with convPhases := [(n, {})], conv := { s1.conv with ovt := none } }))
     n < 4 ∧ s.phState n = 1 ∧ s.get (uPhase n) ph_PHSTAT_ONP = 0 ∧ n ∉ s.conv.join ∧ s.conv.ovt = none ∧ s.rank n = 0 ∧ s.afterMinOff n 0 ≤ (s.at t).tick
    + 1 ∧ s.sel (uStage 2) 1 = 0) ∧
    (let b := base
     let t : Nat := 9
     let n : Nat := 3
     let s : State := (let b := en [] b; let b := (b.set uSys sys_MODESTAT_MODE 4).setW ((uStage 2).addr 0x20) 0 |>.setW (uBrk.addr brk_LSTAT_CHOP.off) 0 |>.set uSess sess_SSTAT_ILK 0 |>.set uBrk stg_GSTAT_STATE 0 |>.set (uStage 2) stg_GSTAT_STATE 0 |>.set uBrk brk_LCFG_EN 1; (let s1 : State := (b.set uReg reg_RSTAT_STATE 2).set (uPhase n) ph_PHSTAT_STATE 1; { forN 4 (fun k s => ((s.set (uPhase k) ph_PHSTAT_STATE (if k = n then 1 else if k < n then 0 else b.tick % 3)).set (uPhase k) ph_PHSTAT_ONP (if k = n then 0 else 0)).set (uPhase k) ph_PHSTAT_WAITW (if k = n then 0 else 0)) (s1.setW (uReg.addr reg_RPULSE_MINOFF.off) 0) with convPhases := [(n, { wait := some 5, off := some 4 })], conv := { s1.conv with ovt := none } }))
     n < 4 ∧ s.phState n = 1 ∧ s.get (uPhase n) ph_PHSTAT_ONP = 0 ∧ n ∉ s.conv.join ∧ s.conv.ovt = none ∧ s.rank n = 0 ∧ s.afterMinOff n 0 ≤ (s.at t).tick
    + 1 ∧ s.sel (uStage 2) 1 = 0 ∧ (s.phase n).wait ≠ none ∧ s.get (uPhase n) ph_PHSTAT_WAITW = 0) ∧
    (let b := base
     let t : Nat := 90000
     let n : Nat := 3
     let t0 : Nat := 7
     let s : State := (let b := en [] b; let b := (b.set uSys sys_MODESTAT_MODE 4).setW ((uStage 2).addr 0x20) 0 |>.setW (uBrk.addr brk_LSTAT_CHOP.off) 0 |>.set uSess sess_SSTAT_ILK 0 |>.set uBrk stg_GSTAT_STATE 0 |>.set (uStage 2) stg_GSTAT_STATE 0 |>.set uBrk brk_LCFG_EN 1; (let s1 : State := (b.set uReg reg_RSTAT_STATE 2).set (uPhase n) ph_PHSTAT_STATE 1; { forN 4 (fun k s => ((s.set (uPhase k) ph_PHSTAT_STATE (if k = n then 1 else if k < n then 0 else b.tick % 3)).set (uPhase k) ph_PHSTAT_ONP (if k = n then 1 else 0)).set (uPhase k) ph_PHSTAT_WAITW (if k = n then 0 else 0)) (s1.setW (uReg.addr reg_RPULSE_MINOFF.off) 0) with convPhases := [(n, { on := some 7 })], conv := { s1.conv with ovt := none } }))
     n < 4 ∧ s.get (uPhase n) ph_PHSTAT_ONP = 1 ∧ (s.phase n).on = some t0 ∧ t0 + s.get uReg reg_RPULSE_MINON ≤ (s.at t).tick + 1)) ∧
    ((let b := base
     let t : Nat := 3
     let n : Nat := 3
     let t0 : Nat := 7
     let s : State := (let b := en [] b; let b := (b.set uSys sys_MODESTAT_MODE 4).setW ((uStage 2).addr 0x20) 0 |>.setW (uBrk.addr brk_LSTAT_CHOP.off) 0 |>.set uSess sess_SSTAT_ILK 0 |>.set uBrk stg_GSTAT_STATE 0 |>.set (uStage 2) stg_GSTAT_STATE 0 |>.set uBrk brk_LCFG_EN 1; (let s1 : State := (b.set uReg reg_RSTAT_STATE 2).set (uPhase n) ph_PHSTAT_STATE 1; { forN 4 (fun k s => ((s.set (uPhase k) ph_PHSTAT_STATE (if k = n then 1 else if k < n then 0 else b.tick % 3)).set (uPhase k) ph_PHSTAT_ONP (if k = n then 1 else 0)).set (uPhase k) ph_PHSTAT_WAITW (if k = n then 0 else 0)) (s1.setW (uReg.addr reg_RPULSE_MINOFF.off) 0) with convPhases := [(n, { on := some 7 })], conv := { s1.conv with ovt := none } })) |> fun s => { s with tick := 3 } |>.set uReg reg_RPULSE_MINON 400
     n < 4 ∧ s.get (uPhase n) ph_PHSTAT_ONP = 1 ∧ (s.phase n).on = some t0 ∧ (s.at t).tick + 1 < t0 + s.get uReg reg_RPULSE_MINON) ∧
    (let b := base
     let t : Nat := 90000
     let n : Nat := 3
     let t0 : Nat := 7
     let s : State := (let b := en [] b; let b := (b.set uSys sys_MODESTAT_MODE 4).setW ((uStage 2).addr 0x20) 0 |>.setW (uBrk.addr brk_LSTAT_CHOP.off) 0 |>.set uSess sess_SSTAT_ILK 0 |>.set uBrk stg_GSTAT_STATE 0 |>.set (uStage 2) stg_GSTAT_STATE 0 |>.set uBrk brk_LCFG_EN 1; (let s1 : State := (b.set uReg reg_RSTAT_STATE 2).set (uPhase n) ph_PHSTAT_STATE 1; { forN 4 (fun k s => ((s.set (uPhase k) ph_PHSTAT_STATE (if k = n then 1 else if k < n then 0 else b.tick % 3)).set (uPhase k) ph_PHSTAT_ONP (if k = n then 1 else 0)).set (uPhase k) ph_PHSTAT_WAITW (if k = n then 0 else 0)) (s1.setW (uReg.addr reg_RPULSE_MINOFF.off) 0) with convPhases := [(n, { on := some 7, peak := true })], conv := { s1.conv with ovt := none } }))
     n < 4 ∧ s.get (uPhase n) ph_PHSTAT_ONP = 1 ∧ (s.phase n).peak = true ∧ (s.phase n).on = some t0 ∧ (s.at t).due (t0 + s.get uReg reg_RPULSE_MINON)
    = true) ∧
    (let b := base
     let t : Nat := 9
     let n : Nat := 3
     let s : State := (let b := en [] b; let b := (b.set uSys sys_MODESTAT_MODE 4).setW ((uStage 2).addr 0x20) 0 |>.setW (uBrk.addr brk_LSTAT_CHOP.off) 0 |>.set uSess sess_SSTAT_ILK 0 |>.set uBrk stg_GSTAT_STATE 0 |>.set (uStage 2) stg_GSTAT_STATE 0 |>.set uBrk brk_LCFG_EN 1; (let s1 : State := (b.set uReg reg_RSTAT_STATE 2).set (uPhase n) ph_PHSTAT_STATE 1; { forN 4 (fun k s => ((s.set (uPhase k) ph_PHSTAT_STATE (if k = n then 1 else if k < n then 0 else b.tick % 3)).set (uPhase k) ph_PHSTAT_ONP (if k = n then 0 else 0)).set (uPhase k) ph_PHSTAT_WAITW (if k = n then 1 else 0)) (s1.setW (uReg.addr reg_RPULSE_MINOFF.off) 0) with convPhases := [(n, { wait := some 5 })], conv := { s1.conv with ovt := none } }))
     n < 4 ∧ n ∉ s.conv.join ∧ s.get (uPhase n) ph_PHSTAT_WAITW = 1 ∧ s.conv.ovt = none ∧ (s.window n).1 ≤ ((s.at t).tick : Int) ∧ s.sel (uStage 2) 1
    = 0)) ∧
    ((let b := base
     let n : Nat := 3
     let s : State := (let b := en [] b; let b := (b.set uSys sys_MODESTAT_MODE 4).setW ((uStage 2).addr 0x20) 0 |>.setW (uBrk.addr brk_LSTAT_CHOP.off) 0 |>.set uSess sess_SSTAT_ILK 0 |>.set uBrk stg_GSTAT_STATE 0 |>.set (uStage 2) stg_GSTAT_STATE 0 |>.set uBrk brk_LCFG_EN 1; (let s1 : State := (b.set uReg reg_RSTAT_STATE 2).set (uPhase n) ph_PHSTAT_STATE 1; (s1.set (uPhase n) ph_PHSTAT_STATE 2).set (uPhase n) ph_PHSTAT_ONP 0))
     n < 4 ∧ s.get (uPhase n) ph_PHSTAT_ONP = 0 ∧ s.phState n = 2 ∧ s.get uReg reg_RSTAT_STATE ≠ 3) ∧
    (let b := base
     let t : Nat := 90000000
     let d : Nat := 7
     let s : State := (let b := en [] b; let b := (b.set uSys sys_MODESTAT_MODE 4).setW ((uStage 2).addr 0x20) 0 |>.setW (uBrk.addr brk_LSTAT_CHOP.off) 0 |>.set uSess sess_SSTAT_ILK 0 |>.set uBrk stg_GSTAT_STATE 0 |>.set (uStage 2) stg_GSTAT_STATE 0 |>.set uBrk brk_LCFG_EN 1; (let s1 : State := (b.set uReg reg_RSTAT_STATE 2).set (uPhase 0) ph_PHSTAT_STATE 1; { forN 4 (fun k s => s.set (uPhase k) ph_PHSTAT_STATE (if k < 2 then 1 else 0)) (s1.set uReg reg_RDWELL_TICKS 500) with conv := { s1.conv with below := some 7 } }))
     s.get uReg reg_RSTAT_STATE = 2 ∧ s.conv.below = some d ∧ (s.at t).due (d + s.get uReg reg_RDWELL_TICKS) = true ∧ (∀ k ∈ List.range 4,
    s.phState k ≠ 2) ∧ s.activePhases ≠ []) ∧
    (let b := base
     let t : Nat := 90000000
     let d : Nat := 7
     let s : State := (let b := en [] b; let b := (b.set uSys sys_MODESTAT_MODE 4).setW ((uStage 2).addr 0x20) 0 |>.setW (uBrk.addr brk_LSTAT_CHOP.off) 0 |>.set uSess sess_SSTAT_ILK 0 |>.set uBrk stg_GSTAT_STATE 0 |>.set (uStage 2) stg_GSTAT_STATE 0 |>.set uBrk brk_LCFG_EN 1; (let s1 : State := (b.set uReg reg_RSTAT_STATE 2).set (uPhase 0) ph_PHSTAT_STATE 1; { forN 4 (fun k s => s.set (uPhase k) ph_PHSTAT_STATE (if k < 2 then 1 else 0)) (s1.set uReg reg_RDWELL_TICKS 500 |>.set uReg reg_RCFG_NMAX 4) with conv := { s1.conv with above := some 7 } }))
     s.get uReg reg_RSTAT_STATE = 2 ∧ s.conv.below = none ∧ s.conv.above = some d ∧ (s.at t).due (d + s.get uReg reg_RDWELL_TICKS)
    = true ∧ (((List.range s.nmax).find? fun k => s.phState k = 0) ≠ none) ∧ s.sel (uStage 2) 1 = 0)) ∧
    ((let b := base
     let s : State := (let b := en [] b; let b := (b.set uSys sys_MODESTAT_MODE 4).setW ((uStage 2).addr 0x20) 0 |>.setW (uBrk.addr brk_LSTAT_CHOP.off) 0 |>.set uSess sess_SSTAT_ILK 0 |>.set uBrk stg_GSTAT_STATE 0 |>.set (uStage 2) stg_GSTAT_STATE 0 |>.set uBrk brk_LCFG_EN 1; (let s1 : State := (b.set uReg reg_RSTAT_STATE 2).set (uPhase 0) ph_PHSTAT_STATE 1; ((forN 4 (fun k s => s.set (uPhase k) ph_PHSTAT_ONP (if k = b.tick % 4 then 1 else b.tick / 8 % 2)) s1).set uReg reg_ROVT_EN 1).set uReg reg_RSTAT_DIR 0))
     s.get uReg reg_ROVT_EN = 1 ∧ s.get uReg reg_RSTAT_DIR = 0 ∧ (∃ k ∈ List.range 4, s.get (uPhase k) ph_PHSTAT_ONP = 1)) ∧
    (let b := base
     let d : Nat := 7
     let s : State := (let b := en [] b; let b := (b.set uSys sys_MODESTAT_MODE 4).setW ((uStage 2).addr 0x20) 0 |>.setW (uBrk.addr brk_LSTAT_CHOP.off) 0 |>.set uSess sess_SSTAT_ILK 0 |>.set uBrk stg_GSTAT_STATE 0 |>.set (uStage 2) stg_GSTAT_STATE 0 |>.set uBrk brk_LCFG_EN 1; (let s1 : State := (b.set uReg reg_RSTAT_STATE 2).set (uPhase 0) ph_PHSTAT_STATE 1; { s1 with conv := { s1.conv with ovt := some 7 } }))
     s.conv.ovt = some d ∧ s.sel (uStage 2) 1 = 0) ∧
    (let b := base
     let dir : Nat := 1
     let s : State := (let b := en [576] b; let b := (b.set uSys sys_MODESTAT_MODE 4).setW ((uStage 2).addr 0x20) 0 |>.setW (uBrk.addr brk_LSTAT_CHOP.off) 0 |>.set uSess sess_SSTAT_ILK 0 |>.set uBrk stg_GSTAT_STATE 0 |>.set (uStage 2) stg_GSTAT_STATE 0 |>.set uBrk brk_LCFG_EN 1; (let s1 : State := (b.set uReg reg_RSTAT_STATE 0).set (uPhase 0) ph_PHSTAT_STATE 1; (s1.set uReg reg_RCTL_START 0).set uBrk brk_LSTAT_PRESTATE 0))
     s.serves uReg 0xC0 ∧ dir < 2 ∧ s.inMode .run = true ∧ s.enabled uReg = true ∧ uReg.page ∉ s.failedCheck ∧ s.get uReg reg_RSTAT_STATE
    = 0 ∧ s.get uReg reg_RCTL_START = 0 ∧ s.get uBrk brk_LSTAT_PRESTATE = 0 ∧ s.sel (uStage 2) 1 = 0)) ∧
    ((let b := base
     let s : State := b.set uReg reg_RCTL_START (b.tick % 2)
     s.serves uReg 0xC0) ∧
    (let b := base
     let s : State := b.set uReg reg_RCTL_START 1
     s.serves uReg 0xC0 ∧ s.get uReg reg_RCTL_START = 1) ∧
    (let b := base
     let t : Nat := 2000000000
     let e : Nat := 77
     let s : State := (let b := en [576, 581] b; let b := (b.set uSys sys_MODESTAT_MODE 4).setW ((uStage 2).addr 0x20) 0 |>.setW (uBrk.addr brk_LSTAT_CHOP.off) 0 |>.set uSess sess_SSTAT_ILK 0 |>.set uBrk stg_GSTAT_STATE 0 |>.set (uStage 2) stg_GSTAT_STATE 0 |>.set uBrk brk_LCFG_EN 1; (let s1 : State := (b.set uReg reg_RSTAT_STATE 1).set (uPhase 0) ph_PHSTAT_STATE 1; { ((s1.set uReg reg_RTGT_VT (b.tick % 20000)).set uVsup vsup_VSIG_VOUT 33 |>.set uReg reg_RSTAT_DIR 0).setW (sigAddr 33) 30000 with badParity := [], conv := { s1.conv with events := [77, 99] } }))
     s.conv.events.head? = some e ∧ (s.at t).due (e + s.get uVsup vsup_VCFG_OFS) = true ∧ s.enabled uVsup = true ∧ s.badParity = []
    ∧ s.get uReg reg_RSTAT_STATE = 1 ∧ s.get uReg reg_RSTAT_DIR = 0 ∧ (s.get uReg reg_RTGT_VT : Int) * 15 ≤ s.sigI (s.get uVsup vsup_VSIG_VOUT) * 16
    ∧ s.sel (uStage 2) 1 = 0)) ∧
    ((let b := base
     let t : Nat := 2000000000
     let e : Nat := 77
     let s : State := (let b := en [576, 581] b; let b := (b.set uSys sys_MODESTAT_MODE 4).setW ((uStage 2).addr 0x20) 0 |>.setW (uBrk.addr brk_LSTAT_CHOP.off) 0 |>.set uSess sess_SSTAT_ILK 0 |>.set uBrk stg_GSTAT_STATE 0 |>.set (uStage 2) stg_GSTAT_STATE 0 |>.set uBrk brk_LCFG_EN 1; (let s1 : State := (b.set uReg reg_RSTAT_STATE 2).set (uPhase 0) ph_PHSTAT_STATE 1; { ((s1.set uVsup vsup_VSTAT_DIS 0).set uVsup vsup_VSIG_VOUT 33 |>.set uReg reg_RSTAT_DIR 0).setW (sigAddr 33) 30000 with badParity := [], conv := { s1.conv with events := [77, 99] } }))
     s.conv.events.head? = some e ∧ (s.at t).due (e + s.get uVsup vsup_VCFG_OFS) = true ∧ s.enabled uVsup = true ∧ s.badParity = []
    ∧ s.get uReg reg_RSTAT_STATE ≠ 1 ∧ s.get uReg reg_RSTAT_DIR = 0 ∧ s.get uVsup vsup_VSTAT_DIS = 0) ∧
    (let b := base
     let t : Nat := 9
     let s : State := (let b := en [] b; let b := (b.set uSys sys_MODESTAT_MODE 4).setW ((uStage 2).addr 0x20) 0 |>.setW (uBrk.addr brk_LSTAT_CHOP.off) 0 |>.set uSess sess_SSTAT_ILK 0 |>.set uBrk stg_GSTAT_STATE 0 |>.set (uStage 2) stg_GSTAT_STATE 0 |>.set uBrk brk_LCFG_EN 1; (let s1 : State := (b.set uReg reg_RSTAT_STATE 4).set (uPhase 0) ph_PHSTAT_STATE 1; (s1.set uReg reg_RSTAT_HOSTREQ 0).set uBrk brk_LSTAT_PRESTATE 0))
     s.get uReg reg_RSTAT_STATE = 4 ∧ (s.at t).due s.conv.waitEnd = true ∧ s.regRequest = 0) ∧
    (let b := base
     let t : Nat := 9
     let s : State := (let b := en [] b; let b := (b.set uSys sys_MODESTAT_MODE 4).setW ((uStage 2).addr 0x20) 0 |>.setW (uBrk.addr brk_LSTAT_CHOP.off) 0 |>.set uSess sess_SSTAT_ILK 0 |>.set uBrk stg_GSTAT_STATE 0 |>.set (uStage 2) stg_GSTAT_STATE 0 |>.set uBrk brk_LCFG_EN 1; (let s1 : State := (b.set uReg reg_RSTAT_STATE 4).set (uPhase 0) ph_PHSTAT_STATE 1; s1.set uReg reg_RSTAT_HOSTREQ 1))
     s.get uReg reg_RSTAT_STATE = 4 ∧ (s.at t).due s.conv.waitEnd = true ∧ s.regRequest ≠ 0 ∧ s.sel (uStage 2) 1 = 0)) ∧
    ((let b := base
     let t : Nat := 90000000
     let s : State := (let b := en [] b; let b := (b.set uSys sys_MODESTAT_MODE 4).setW ((uStage 2).addr 0x20) 0 |>.setW (uBrk.addr brk_LSTAT_CHOP.off) 0 |>.set uSess sess_SSTAT_ILK 0 |>.set uBrk stg_GSTAT_STATE 0 |>.set (uStage 2) stg_GSTAT_STATE 0 |>.set uBrk brk_LCFG_EN 1; (let s1 : State := (b.set uReg reg_RSTAT_STATE 3).set (uPhase 0) ph_PHSTAT_STATE 1; { ((s1.set uReg reg_RSTAT_GOV 0).set uReg reg_RDOWN_TICKS 77) with conv := { s1.conv with stopTo := b.tick % 3 } }))
     s.get uReg reg_RSTAT_STATE = 3 ∧ (s.at t).due (s.conv.stopAt + s.get uReg reg_RDOWN_TICKS) = true ∧ (s.conv.stopTo = 1 ∨ s.conv.stopTo
    = 2 ∨ (s.conv.stopTo = 0 ∧ s.get uReg reg_RSTAT_GOV = 0))) ∧
    (let b := base
     let t : Nat := 2000000000
     let s : State := (let b := en [] b; let b := (b.set uSys sys_MODESTAT_MODE 4).setW ((uStage 2).addr 0x20) 0 |>.setW (uBrk.addr brk_LSTAT_CHOP.off) 0 |>.set uSess sess_SSTAT_ILK 0 |>.set uBrk stg_GSTAT_STATE 0 |>.set (uStage 2) stg_GSTAT_STATE 0 |>.set uBrk brk_LCFG_EN 1; (let s1 : State := (b.set uReg reg_RSTAT_STATE 2).set (uPhase 0) ph_PHSTAT_STATE 1; { (s1.set uVsup vsup_VSTAT_DIS 1).set uVsup vsup_VDIS_TMAX 3 with regDisAt := 7 }))
     s.get uVsup vsup_VSTAT_DIS = 1 ∧ ((s.at t).due (s.regDisAt + 400000 * (if s.get uVsup vsup_VDIS_TMAX = 0 then 1 else s.get uVsup vsup_VDIS_TMAX))
    = true))) :=
  ⟨by decide +kernel, by decide +kernel, by decide +kernel, by decide +kernel, by decide +kernel, by decide +kernel, by decide +kernel⟩

theorem witness_charger :
    ((let b := base
     let t : Nat := 90
     let d : Nat := 77
     let s : State := (let b := en [548, 524] b; let b := (b.set uSys sys_MODESTAT_MODE ([3,4,5,6,7].toArray[b.tick % 5]!)).set (uStage 0) trac_TCFG_MACH 0; { ((b.setW (sigAddr 40) 21504).set (uStage 3) ob_OVDC_SIG 40).set (uStage 3) ob_OVDC_MIN 100 |>.set (uStage 3) ob_OCFG_GRID 0 |>.set (uStage 3) ob_OCAR_PERIOD 25000 with pods := [], trac := [(3, { period := 25000, len := 25000, next := some 77, nextPeak := true })], refs := [(3 * 256, BitVec.ofNat 32 (b.tick * 7 % 32768)), (3 * 256 + 1, 770)], badParity := [] })
     let va : Int := s.ref 3 0
     let vb : Int := s.ref 3 1
     let vdc : Int := lo16 (s.sig (s.get (uStage 3) ob_OVDC_SIG))
     s.obRuns 3 = true ∧ (s.at t).carrierDue 3 true = some d ∧ (∀ q ∈ s.pods.map Prod.fst, (s.at t).applyDue q = false) ∧ s.get (uStage 3) ob_OCFG_GRID
    = 0 ∧ s.badParity = [] ∧ s.ref 3 0 = va ∧ s.ref 3 1 = vb ∧ lo16 (s.sig (s.get (uStage 3) ob_OVDC_SIG)) = vdc ∧ 0 < vdc ∧ (s.get (uStage 3) ob_OVDC_MIN : Int) ≤ vdc) ∧
    (let b := base
     let t : Nat := 90
     let d : Nat := 77
     let s : State := (let b := en [548, 524] b; let b := (b.set uSys sys_MODESTAT_MODE ([3,4,5,6,7].toArray[b.tick % 5]!)).set (uStage 0) trac_TCFG_MACH 0; { ((b.set (uStage 3) ob_OVDC_MIN 100).set (uStage 3) ob_OCAR_PERIOD 25000) with trac := [(3, { next := some 77 })] })
     s.obRuns 3 = true ∧ (s.at t).carrierDue 3 false = some d) ∧
    (let b := base
     let t : Nat := 90
     let d : Nat := 77
     let s : State := (let b := en [548, 528] b; let b := (b.set uSys sys_MODESTAT_MODE ([3,4,5,6,7].toArray[b.tick % 5]!)).set (uStage 0) trac_TCFG_MACH 0; { ((b.set (uStage 4) ob_ODAB_PHIMAX 9000).set (uStage 4) ob_ODAB_DSTEP (b.tick % 7000)).set (uStage 4) ob_OCAR_PERIOD 25000 |>.set uSess sess_SSTAT_EXPOK (b.tick % 2) with pods := [], trac := [(4, { period := 25000, len := 25000, next := some 77, nextPeak := true })], refs := [(4 * 256, if b.tick = 0 then 1000 else BitVec.ofNat 32 (b.tick % 9000))] })
     let tg : Int := clampI (-(min (s.get (uStage 4) ob_ODAB_PHIMAX : Int) 0x6000)) (min (s.get (uStage 4) ob_ODAB_PHIMAX : Int) 0x6000) (s.ref 4 0)
     s.obRuns 4 = true ∧ (s.at t).carrierDue 4 true = some d ∧ (∀ q ∈ s.pods.map Prod.fst, (s.at t).applyDue q = false) ∧ clampI (-(min (s.get (uStage 4) ob_ODAB_PHIMAX : Int) 0x6000)) (min (s.get (uStage 4) ob_ODAB_PHIMAX : Int) 0x6000) (s.ref 4 0)
    = tg ∧ (0 ≤ tg ∨ s.get uSess sess_SSTAT_EXPOK = 1))) ∧
    ((let b := base
     let t : Nat := 90
     let d : Nat := 77
     let s : State := (let b := en [548, 528] b; let b := (b.set uSys sys_MODESTAT_MODE ([3,4,5,6,7].toArray[b.tick % 5]!)).set (uStage 0) trac_TCFG_MACH 0; { ((b.set (uStage 4) ob_ODAB_PHIMAX 9000).set (uStage 4) ob_ODAB_DSTEP (b.tick % 7000)).set (uStage 4) ob_OCAR_PERIOD 25000 |>.set uSess sess_SSTAT_EXPOK (b.tick % 2) with pods := [], trac := [(4, { period := 25000, len := 25000, next := some 77, nextPeak := true })], refs := [(4 * 256, -(BitVec.ofNat 32 (b.tick % 9000 + 1)))] })
     s.obRuns 4 = true ∧ (s.at t).carrierDue 4 true = some d ∧ (∀ q ∈ s.pods.map Prod.fst, (s.at t).applyDue q = false) ∧ clampI (-(min (s.get (uStage 4) ob_ODAB_PHIMAX : Int) 0x6000)) (min (s.get (uStage 4) ob_ODAB_PHIMAX : Int) 0x6000) (s.ref 4 0) < 0
    ∧ s.get uSess sess_SSTAT_EXPOK = 0) ∧
    (let b := base
     let t : Nat := 400000
     let r : Nat := 5
     let s : State := (let b := en [592, 593] b; let b := (b.set uSys sys_MODESTAT_MODE ([1,3,4,7].toArray[b.tick % 4]!)).set (uStage 0) trac_TCFG_MACH 0; { b with pilot := { b.pilot with rise := some (if b.tick = 0 then 5 else r), high := 100000 } })
     s.ppxRuns = true ∧ s.pilot.rise = some r ∧ r < (s.at t).tick ∧ (s.at t).tick < r + 2 ^ 20) ∧
    (let b := base
     let r : Nat := 5
     let s : State := (let b := en [592, 593] b; let b := (b.set uSys sys_MODESTAT_MODE ([1,3,4,7].toArray[b.tick % 4]!)).set (uStage 0) trac_TCFG_MACH 0; { b with pilot := { b.pilot with rise := some 5 } })
     s.ppxRuns = true ∧ s.pilot.rise = some r)) ∧
    ((let b := base
     let s : State := (let b := en [592, 593] b; let b := (b.set uSys sys_MODESTAT_MODE ([1,3,4,7].toArray[b.tick % 4]!)).set (uStage 0) trac_TCFG_MACH 0; { b with pilot := { b.pilot with rise := some 5 } })
     s.ppxRuns = true) ∧
    (let b := base
     let s : State := (let b := en [592, 593] b; let b := (b.set uSys sys_MODESTAT_MODE ([1,3,4,7].toArray[b.tick % 4]!)).set (uStage 0) trac_TCFG_MACH 0; { b with pilot := { b.pilot with rise := some 5 } })
     s.ppxRuns = true) ∧
    (let b := base
     let t : Nat := 90000000
     let s : State := (let b := en [592, 593] b; let b := (b.set uSys sys_MODESTAT_MODE ([1,3,4,7].toArray[b.tick % 4]!)).set (uStage 0) trac_TCFG_MACH 0; { b with pilot := { b.pilot with steady := none, edge := 7 } })
     s.ppxRuns = true ∧ s.pilot.steady = none ∧ s.pilot.edge + 800000 ≤ (s.at t).tick)) ∧
    ((let b := base
     let t : Nat := 4
     let ohms : Nat := 220
     let m : Nat := 0
     let s : State := (let b := en [592, 593] b; let b := (b.set uSys sys_MODESTAT_MODE ([1,3,4,7].toArray[b.tick % 4]!)).set (uStage 0) trac_TCFG_MACH 0; { (b.set uPpx ppx_PSTAT_PP m) with pilot := { b.pilot with ppNext := 3, pp := (proximity ohms).1, ppCount := 20 } })
     s.ppxRuns = true ∧ (s.at t).due s.pilot.ppNext = true ∧ s.pilot.pp = (proximity ohms).1 ∧ s.get uPpx ppx_PPCFG_PPDEB ≤ s.pilot.ppCount
    + 1 ∧ (proximity ohms).1 ≠ s.get uPpx ppx_PSTAT_PP) ∧
    (let b := base
     let s : State := (let b := en [] b; let b := (b.set uSys sys_MODESTAT_MODE ([3,4,5,6,7].toArray[b.tick % 5]!)).set (uStage 0) trac_TCFG_MACH 0; b)
     s.serves uSess 0x4C)) :=
  ⟨by decide +kernel, by decide +kernel, by decide +kernel, by decide +kernel⟩

theorem witness_actuators :
    ((let b := base
     let n : Nat := 2
     let s : State := (let b := en [608, 611] b; let b := (b.set uSys sys_MODESTAT_MODE 4).set (uStage 0) trac_TCFG_MACH 0; (let b := (b.set (uCm n) cm_ASTAT_STATE 0).setW ((uStage (5 + n)).addr stg_GSRC0_CMP.off) 0 |>.set (uStage (5 + n)) stg_GSTAT_STATE 0 |>.set (uStage (5 + n)) stg_GSTAT_LATCH 0 |>.set (uCm n) cm_ACTL_START 0; (let b := ((((b.setMemWord (bankBase 0 + 4) 1 15).setMemWord (bankBase 0 + 0x20) 0x10000040 15).setMemWord (bankBase 0 + 0x24) 4 15).setMemWord (bankBase 0 + 0x44) 2 15 |>.setMemWord (bankBase 0 + 0x48) 0x13880000 15 |>.setMemWord (bankBase 0 + 0x4C) 0x03E87FFF 15 |>.set uTbk tbk_TBSTAT_BANKOK 1 |>.set uTbk tbk_TBSTAT_ACTIVE 0 |>.set (uCm n) cm_ARAMP0_TABLE 0); let b : State := { b with flips := [], uncorr := [] }; b.set (uCm n) cm_ACFG_HALL 0)))
     let y : Int := (s.curve1 s.activeBank (s.get (uCm n) cm_ARAMP0_TABLE) 0).getD 0
     s.serves (uCm n) 0x80 ∧ n < 3 ∧ s.inMode .run = true ∧ s.enabled (uCm n) = true ∧ (uCm n).page ∉ s.failedCheck ∧ s.glatch (5 + n)
    = false ∧ s.cmState n = 0 ∧ s.get (uCm n) cm_ACFG_HALL = 0 ∧ s.curve1 s.activeBank (s.get (uCm n) cm_ARAMP0_TABLE) 0 = some y
    ∧ s.flips = []) ∧
    (let b := base
     let n : Nat := 2
     let c : Nat := 5
     let s : State := (let b := en [608, 611] b; let b := (b.set uSys sys_MODESTAT_MODE 4).set (uStage 0) trac_TCFG_MACH 0; (let b := (b.set (uCm n) cm_ASTAT_STATE 0).setW ((uStage (5 + n)).addr stg_GSRC0_CMP.off) 0 |>.set (uStage (5 + n)) stg_GSTAT_STATE 0 |>.set (uStage (5 + n)) stg_GSTAT_LATCH 0 |>.set (uCm n) cm_ACTL_START 0; { ((b.set (uCm n) cm_ACFG_HALL 1).set (uCm n) cm_AHALL_SIG 33).setW (sigAddr 33) (BitVec.ofNat 32 c) |>.set (uCm n) cm_AHMAP_MAP 0o12034566 with badParity := [] }))
     s.serves (uCm n) 0x80 ∧ n < 3 ∧ s.inMode .run = true ∧ s.enabled (uCm n) = true ∧ (uCm n).page ∉ s.failedCheck ∧ s.glatch (5 + n)
    = false ∧ s.cmState n = 0 ∧ s.get (uCm n) cm_ACFG_HALL = 1 ∧ c = (s.sig (s.get (uCm n) cm_AHALL_SIG)).toNat % 8 ∧ s.get (uCm n) cm_AHMAP_MAP / 8 ^ c % 8 < 6
    ∧ s.badParity = []) ∧
    (let b := base
     let n : Nat := 2
     let c : Nat := 3
     let s : State := (let b := en [] b; let b := (b.set uSys sys_MODESTAT_MODE 4).set (uStage 0) trac_TCFG_MACH 0; (let b := (b.set (uCm n) cm_ASTAT_STATE c).setW ((uStage (5 + n)).addr stg_GSRC0_CMP.off) 0 |>.set (uStage (5 + n)) stg_GSTAT_STATE 0 |>.set (uStage (5 + n)) stg_GSTAT_LATCH 0 |>.set (uCm n) cm_ACTL_START 0; b.set (uCm n) cm_ACTL_START 1))
     s.serves (uCm n) 0x80 ∧ n < 3 ∧ s.cmState n = c ∧ 1 ≤ c ∧ c ≤ 3 ∧ s.get (uCm n) cm_ACTL_START = 1)) ∧
    ((let b := base
     let n : Nat := 2
     let c : Nat := 3
     let s : State := (let b := en [] b; let b := (b.set uSys sys_MODESTAT_MODE 4).set (uStage 0) trac_TCFG_MACH 0; (let b := (b.set (uCm n) cm_ASTAT_STATE c).setW ((uStage (5 + n)).addr stg_GSRC0_CMP.off) 0 |>.set (uStage (5 + n)) stg_GSTAT_STATE 0 |>.set (uStage (5 + n)) stg_GSTAT_LATCH 0 |>.set (uCm n) cm_ACTL_START 0; b.set (uCm n) cm_ACTL_START 1))
     s.serves (uCm n) 0x80 ∧ n < 3 ∧ s.cmState n = c ∧ 1 ≤ c ∧ c ≤ 3 ∧ s.get (uCm n) cm_ACTL_START = 1) ∧
    (let b := base
     let t : Nat := 2000000000
     let n : Nat := 2
     let s : State := (let b := en [] b; let b := (b.set uSys sys_MODESTAT_MODE 4).set (uStage 0) trac_TCFG_MACH 0; (let b := (b.set (uCm n) cm_ASTAT_STATE 1).setW ((uStage (5 + n)).addr stg_GSRC0_CMP.off) 0 |>.set (uStage (5 + n)) stg_GSTAT_STATE 0 |>.set (uStage (5 + n)) stg_GSTAT_LATCH 0 |>.set (uCm n) cm_ACTL_START 0; (let b := ((((b.setMemWord (bankBase 0 + 4) 1 15).setMemWord (bankBase 0 + 0x20) 0x10000040 15).setMemWord (bankBase 0 + 0x24) 4 15).setMemWord (bankBase 0 + 0x44) 2 15 |>.setMemWord (bankBase 0 + 0x48) 0x13880000 15 |>.setMemWord (bankBase 0 + 0x4C) 0x03E87FFF 15 |>.set uTbk tbk_TBSTAT_BANKOK 1 |>.set uTbk tbk_TBSTAT_ACTIVE 0 |>.set (uCm n) cm_ARAMP0_TABLE 0); let b : State := { b with flips := [], uncorr := [] }; { ((b.set (uCm n) cm_AALIGN_MS 100).set (uCm n) cm_ARAMP2_NMAX 9 |>.set (uCm n) cm_ASTAT_SECTOR 0) with kern := [(n, { stateAt := 7 })] })))
     let t60 : Nat := (s.rampT60 n 0).getD 0
     n < 3 ∧ s.cmState n = 1 ∧ (s.kn n).next = none ∧ (s.at t).due ((s.kn n).stateAt + ms (atLeast1 (s.get (uCm n) cm_AALIGN_MS)))
    = true ∧ s.get (uCm n) cm_ARAMP2_NMAX ≠ 0 ∧ s.rampT60 n 0 = some t60 ∧ s.cmSector n < 6) ∧
    (let b := base
     let t : Nat := 2000000000
     let n : Nat := 2
     let s : State := (let b := en [] b; let b := (b.set uSys sys_MODESTAT_MODE 4).set (uStage 0) trac_TCFG_MACH 0; (let b := (b.set (uCm n) cm_ASTAT_STATE 2).setW ((uStage (5 + n)).addr stg_GSRC0_CMP.off) 0 |>.set (uStage (5 + n)) stg_GSTAT_STATE 0 |>.set (uStage (5 + n)) stg_GSTAT_LATCH 0 |>.set (uCm n) cm_ACTL_START 0; (let b := ((((b.setMemWord (bankBase 0 + 4) 1 15).setMemWord (bankBase 0 + 0x20) 0x10000040 15).setMemWord (bankBase 0 + 0x24) 4 15).setMemWord (bankBase 0 + 0x44) 2 15 |>.setMemWord (bankBase 0 + 0x48) 0x13880000 15 |>.setMemWord (bankBase 0 + 0x4C) 0x03E87FFF 15 |>.set uTbk tbk_TBSTAT_BANKOK 1 |>.set uTbk tbk_TBSTAT_ACTIVE 0 |>.set (uCm n) cm_ARAMP0_TABLE 0); let b : State := { b with flips := [], uncorr := [] }; { (b.set (uCm n) cm_ARAMP2_NMAX 9 |>.set (uCm n) cm_ASTAT_SECTOR (b.tick % 6)) with kern := [(n, { rampAt := 7, t60j := 5, j := 2 })] })))
     let t60 : Nat := (s.rampT60 n 3).getD 0
     n < 3 ∧ s.cmState n = 2 ∧ (s.kn n).j = 2 ∧ (s.kn n).next = none ∧ (s.at t).due ((s.kn n).rampAt + (s.kn n).t60j) = true ∧ 3 < s.get (uCm n) cm_ARAMP2_NMAX
    ∧ s.rampT60 n 3 = some t60 ∧ s.cmSector n < 6)) ∧
    ((let b := base
     let t : Nat := 90
     let n : Nat := 2
     let d : Nat := 77
     let s : State := (let b := en [608, 611] b; let b := (b.set uSys sys_MODESTAT_MODE 4).set (uStage 0) trac_TCFG_MACH 0; (let b := (b.set (uCm n) cm_ASTAT_STATE (b.tick % 4)).setW ((uStage (5 + n)).addr stg_GSRC0_CMP.off) 0 |>.set (uStage (5 + n)) stg_GSTAT_STATE 0 |>.set (uStage (5 + n)) stg_GSTAT_LATCH 0 |>.set (uCm n) cm_ACTL_START 0; { (b.set (uCm n) cm_ACAR_PERIOD 25000) with trac := [(5 + n, { next := some 77 })], kern := [(n, { stopping := b.tick % 2 = 0 })] }))
     n < 3 ∧ s.acRuns n = true ∧ (s.at t).carrierDue (5 + n) false = some d) ∧
    (let b := base
     let t : Nat := 90000
     let n : Nat := 2
     let z : Nat := 7
     let s : State := (let b := en [] b; let b := (b.set uSys sys_MODESTAT_MODE 4).set (uStage 0) trac_TCFG_MACH 0; (let b := (b.set (uCm n) cm_ASTAT_STATE 3).setW ((uStage (5 + n)).addr stg_GSRC0_CMP.off) 0 |>.set (uStage (5 + n)) stg_GSTAT_STATE 0 |>.set (uStage (5 + n)) stg_GSTAT_LATCH 0 |>.set (uCm n) cm_ACTL_START 0; { b with kern := [(n, { outZero := some 7 })] }))
     n < 3 ∧ (s.kn n).outZero = some z ∧ (s.at t).due (z + s.get (uCm n) cm_AZB_ZBLANK) = true) ∧
    (let b := base
     let t : Nat := 90000
     let n : Nat := 2
     let k : Nat := 2
     let up : Bool := false
     let t0 : Nat := 7
     let tz : Nat := 5000
     let s : State := (let b := en [] b; let b := (b.set uSys sys_MODESTAT_MODE 4).set (uStage 0) trac_TCFG_MACH 0; (let b := (b.set (uCm n) cm_ASTAT_STATE 3).setW ((uStage (5 + n)).addr stg_GSRC0_CMP.off) 0 |>.set (uStage (5 + n)) stg_GSTAT_STATE 0 |>.set (uStage (5 + n)) stg_GSTAT_LATCH 0 |>.set (uCm n) cm_ACTL_START 0; { (b.set (uCm n) cm_ACFG_HALL 0 |>.set (uCm n) cm_ASTAT_SECTOR (b.tick % 6)) with kern := [(n, { armed := true, cross := some 7 })] }))
     n < 3 ∧ k < 3 ∧ s.cmState n = 3 ∧ s.get (uCm n) cm_ACFG_HALL = 0 ∧ (s.kn n).armed = true ∧ (s.kn n).next = none ∧ (s.kn n).hard
    = false ∧ (sectorPhases (s.cmSector n)).2.2 = k ∧ crossRising (s.cmSector n) (s.cmDir n) = up ∧ (s.kn n).cross = some t0 ∧ t0 < tz
    ∧ tz ≤ (s.at t).tick ∧ tz - t0 < 2 ^ cm_AT60_TICKS.w)) ∧
    ((let b := base
     let t : Nat := 90000
     let n : Nat := 2
     let c : Commut := ⟨900, 40, 2, 3, false⟩
     let s : State := (let b := en [] b; let b := (b.set uSys sys_MODESTAT_MODE 4).set (uStage 0) trac_TCFG_MACH 0; (let b := (b.set (uCm n) cm_ASTAT_STATE 3).setW ((uStage (5 + n)).addr stg_GSRC0_CMP.off) 0 |>.set (uStage (5 + n)) stg_GSTAT_STATE 0 |>.set (uStage (5 + n)) stg_GSTAT_LATCH 0 |>.set (uCm n) cm_ACTL_START 0; { b with kern := [(n, { next := some c })] }))
     n < 3 ∧ s.cmState n = 3 ∧ (s.kn n).next = some c ∧ (s.at t).due c.at_ = true ∧ c.goal < 6) ∧
    (let b := base
     let t : Nat := 90000
     let n : Nat := 2
     let tz : Nat := 7
     let s : State := (let b := en [] b; let b := (b.set uSys sys_MODESTAT_MODE 4).set (uStage 0) trac_TCFG_MACH 0; (let b := (b.set (uCm n) cm_ASTAT_STATE 3).setW ((uStage (5 + n)).addr stg_GSRC0_CMP.off) 0 |>.set (uStage (5 + n)) stg_GSTAT_STATE 0 |>.set (uStage (5 + n)) stg_GSTAT_LATCH 0 |>.set (uCm n) cm_ACTL_START 0; { ((b.set (uCm n) cm_AT60_TICKS 5000).set (uCm n) cm_ASTAT_MISS 0) with kern := [(n, { timed := true, cross := some 7 })] }))
     n < 3 ∧ s.cmState n = 3 ∧ (s.kn n).timed = true ∧ (s.kn n).cross = some tz ∧ (s.at t).due (tz + 3 * s.get (uCm n) cm_AT60_TICKS / 2)
    = true ∧ s.get (uCm n) cm_ASTAT_MISS = 0) ∧
    (let b := base
     let t : Nat := 90000
     let n : Nat := 2
     let tz : Nat := 7
     let s : State := (let b := en [] b; let b := (b.set uSys sys_MODESTAT_MODE 4).set (uStage 0) trac_TCFG_MACH 0; (let b := (b.set (uCm n) cm_ASTAT_STATE 3).setW ((uStage (5 + n)).addr stg_GSRC0_CMP.off) 0 |>.set (uStage (5 + n)) stg_GSTAT_STATE 0 |>.set (uStage (5 + n)) stg_GSTAT_LATCH 0 |>.set (uCm n) cm_ACTL_START 0; { ((b.set (uCm n) cm_AT60_TICKS 5000).set (uCm n) cm_ASTAT_MISS 1) with kern := [(n, { timed := true, cross := some 7 })] }))
     n < 3 ∧ s.cmState n = 3 ∧ (s.kn n).timed = true ∧ (s.kn n).cross = some tz ∧ (s.at t).due (tz + 3 * s.get (uCm n) cm_AT60_TICKS / 2)
    = true ∧ s.get (uCm n) cm_ASTAT_MISS = 1)) ∧
    ((let b := base
     let t : Nat := 2000000000
     let n : Nat := 2
     let s : State := (let b := en [] b; let b := (b.set uSys sys_MODESTAT_MODE 4).set (uStage 0) trac_TCFG_MACH 0; (let b := (b.set (uCm n) cm_ASTAT_STATE 4).setW ((uStage (5 + n)).addr stg_GSRC0_CMP.off) 0 |>.set (uStage (5 + n)) stg_GSTAT_STATE 0 |>.set (uStage (5 + n)) stg_GSTAT_LATCH 0 |>.set (uCm n) cm_ACTL_START 0; { ((b.set (uCm n) cm_ACATCH_MS 50).setW ((uCm n).addr 0x20) 0) with kern := [(n, { stateAt := 7 })] }))
     n < 3 ∧ s.cmState n = 4 ∧ (s.kn n).restart = false ∧ (s.at t).due ((s.kn n).stateAt + ms (atLeast1 (s.get (uCm n) cm_ACATCH_MS)))
    = true ∧ s.sel (uCm n) 1 = 0) ∧
    (let b := base
     let t : Nat := 2000000000
     let n : Nat := 2
     let s : State := (let b := en [] b; let b := (b.set uSys sys_MODESTAT_MODE 4).set (uStage 0) trac_TCFG_MACH 0; (let b := (b.set (uCm n) cm_ASTAT_STATE 5).setW ((uStage (5 + n)).addr stg_GSRC0_CMP.off) 0 |>.set (uStage (5 + n)) stg_GSTAT_STATE 0 |>.set (uStage (5 + n)) stg_GSTAT_LATCH 0 |>.set (uCm n) cm_ACTL_START 0; { (b.set (uCm n) cm_ABRK_MS 50) with kern := [(n, { stateAt := 7 })] }))
     n < 3 ∧ s.cmState n = 5 ∧ (s.at t).due ((s.kn n).stateAt + ms (s.get (uCm n) cm_ABRK_MS)) = true) ∧
    (let b := base
     let n : Nat := 2
     let s : State := (let b := en [] b; let b := (b.set uSys sys_MODESTAT_MODE 4).set (uStage 0) trac_TCFG_MACH 0; (let b := (b.set (uCm n) cm_ASTAT_STATE 3).setW ((uStage (5 + n)).addr stg_GSRC0_CMP.off) 0 |>.set (uStage (5 + n)) stg_GSTAT_STATE 0 |>.set (uStage (5 + n)) stg_GSTAT_LATCH 0 |>.set (uCm n) cm_ACTL_START 0; { ((b.set (uCm n) cm_ACFG_HALL 1).set (uCm n) cm_AHALL_SIG 33).setW (sigAddr 33) 4 |>.set (uCm n) cm_AHMAP_MAP (1 * 8 ^ 4 + 7) |>.set (uCm n) cm_ASTAT_SECTOR (if b.tick % 2 = 0 then 0 else 2) |>.set (uCm n) cm_ASTAT_DIR 0 with badParity := [] }))
     let sec : Nat := (s.hallSector n).getD 0
     n < 3 ∧ s.cmState n = 3 ∧ s.get (uCm n) cm_ACFG_HALL = 1 ∧ s.badParity = [] ∧ s.hallSector n = some sec ∧ (sec = (s.cmSector n
    + 1) % 6 ∨ sec = (s.cmSector n + 5) % 6))) :=
  ⟨by decide +kernel, by decide +kernel, by decide +kernel, by decide +kernel, by decide +kernel⟩

theorem witness_feedback_counting :
    ((let b := base
     let c : Nat := 5
     let a : Bool := true
     let x : Bool := false
     let s : State := (let b := en [640, 664] b; let b := (b.set uSys sys_MODESTAT_MODE ([3,4,5,6,7].toArray[b.tick % 5]!)).set (uStage 0) trac_TCFG_MACH 0; { (b.set (uChan c) fb_CHCFG_MODE (if b.tick % 2 = 0 then 1 else 4)) with failedCheck := [], chans := [(c, { levels := if b.tick = 0 then 0 else b.tick / 2 % 4 })] })
     c < 6 ∧ s.chOn c = true ∧ s.counts c = true ∧ (quadPlace a x + 4 - quadPlace ((s.ch c).levels.testBit 0) ((s.ch c).levels.testBit 1)) % 4
    = 1) ∧
    (let b := base
     let c : Nat := 5
     let a : Bool := true
     let x : Bool := true
     let s : State := (let b := en [640, 664] b; let b := (b.set uSys sys_MODESTAT_MODE ([3,4,5,6,7].toArray[b.tick % 5]!)).set (uStage 0) trac_TCFG_MACH 0; { (b.set (uChan c) fb_CHCFG_MODE (if b.tick % 2 = 0 then 1 else 4) |>.setW ((uChan c).addr 0x20) 0) with failedCheck := [], chans := [(c, { levels := if b.tick = 0 then 0 else b.tick / 2 % 4 })] })
     c < 6 ∧ s.chOn c = true ∧ s.counts c = true ∧ (quadPlace a x + 4 - quadPlace ((s.ch c).levels.testBit 0) ((s.ch c).levels.testBit 1)) % 4
    = 2) ∧
    (let b := base
     let c : Nat := 5
     let s : State := (let b := en [640, 664] b; let b := (b.set uSys sys_MODESTAT_MODE ([3,4,5,6,7].toArray[b.tick % 5]!)).set (uStage 0) trac_TCFG_MACH 0; { (b.set (uChan c) fb_CHCFG_MODE 1 |>.set (uChan c) fb_CHCFG_ZEN 1 |>.set (uChan c) fb_CHCTL_ZARM 1 |>.set (uDec c) dec_DRAW_COUNT 900) with failedCheck := [], chans := [(c, { levels := 0 })] })
     c < 6 ∧ s.chOn c = true ∧ s.chMode c = 1 ∧ s.get (uChan c) fb_CHCFG_ZEN = 1 ∧ s.get (uChan c) fb_CHCTL_ZARM = 1)) ∧
    ((let b := base
     let c : Nat := 5
     let s : State := (let b := en [640, 664] b; let b := (b.set uSys sys_MODESTAT_MODE ([3,4,5,6,7].toArray[b.tick % 5]!)).set (uStage 0) trac_TCFG_MACH 0; { (b.set (uChan c) fb_CHCFG_MODE 1 |>.set (uChan c) fb_CHCFG_ZEN 1 |>.set (uChan c) fb_CHCTL_ZARM 0 |>.set (uDec c) dec_DRAW_COUNT 900) with failedCheck := [], chans := [(c, { levels := 0 })] })
     c < 6 ∧ s.chOn c = true ∧ s.chMode c = 1 ∧ s.get (uChan c) fb_CHCFG_ZEN = 1 ∧ s.get (uChan c) fb_CHCTL_ZARM = 0) ∧
    (let b := base
     let c : Nat := 5
     let s : State := b
     c < 6 ∧ s.serves (uChan c) 0xAC) ∧
    (let b := base
     let c : Nat := 5
     let code : Nat := 3
     let s : State := (let b := en [640, 664] b; let b := (b.set uSys sys_MODESTAT_MODE ([3,4,5,6,7].toArray[b.tick % 5]!)).set (uStage 0) trac_TCFG_MACH 0; { (b.set (uChan c) fb_CHCFG_MODE 2) with failedCheck := [], chans := [(c, { levels := 1 })] })
     c < 6 ∧ code < 8 ∧ s.chOn c = true ∧ s.chMode c = 2 ∧ (s.ch c).levels ≠ code)) ∧
    ((let b := base
     let c : Nat := 5
     let j : Nat := 1
     let s : State := (let b := en [640, 664] b; let b := (b.set uSys sys_MODESTAT_MODE ([3,4,5,6,7].toArray[b.tick % 5]!)).set (uStage 0) trac_TCFG_MACH 0; { (b.set (uChan c) fb_CHCFG_MODE (1 + b.tick % 2) |>.set (uChan c) fb_CHSTAT_WIRE 4 |>.setW ((uChan c).addr 0x20) 0) with failedCheck := [], chans := [(c, { levels := 1 })] })
     c < 6 ∧ j < 3 ∧ s.chOn c = true ∧ s.pairUsed c j = true ∧ (s.get (uChan c) fb_CHSTAT_WIRE).testBit j = false ∧ s.get (uChan c) fb_CHSTAT_WIRE < 8
    ∧ s.sel (uChan c) 0 = 0) ∧
    (let b := base
     let c : Nat := 5
     let j : Nat := 1
     let s : State := (let b := en [] b; let b := (b.set uSys sys_MODESTAT_MODE ([3,4,5,6,7].toArray[b.tick % 5]!)).set (uStage 0) trac_TCFG_MACH 0; { (b.set (uChan c) fb_CHCFG_MODE 1 |>.set (uChan c) fb_CHSTAT_WIRE 7) with failedCheck := [], chans := [(c, { levels := 1 })] })
     c < 6 ∧ j < 3 ∧ (s.get (uChan c) fb_CHSTAT_WIRE).testBit j = true) ∧
    (let b := base
     let c : Nat := 5
     let s : State := (let b := en [] b; let b := (b.set uSys sys_MODESTAT_MODE ([3,4,5,6,7].toArray[b.tick % 5]!)).set (uStage 0) trac_TCFG_MACH 0; { (b.set (uChan c) fb_CHCFG_MODE 4) with failedCheck := [], chans := [(c, { frame := if b.tick % 2 = 0 then none else some (3, 4) })] })
     c < 6 ∧ s.serves (uChan c) 0xAC)) :=
  ⟨by decide +kernel, by decide +kernel, by decide +kernel⟩

theorem witness_feedback_frames :
    ((let b := base
     let t : Nat := 90
     let c : Nat := 5
     let s : State := (let b := en [640, 664] b; let b := (b.set uSys sys_MODESTAT_MODE ([4,5,6,7].toArray[b.tick % 4]!)).set (uStage 0) trac_TCFG_MACH 0; { (b.set (uChan c) fb_CHCFG_MODE 3) with failedCheck := [], chans := [(c, { levels := 1, starts := [77, 99] })] })
     let e : Nat := 77
     let t0 : Nat := e + s.get (uSsi c) ssi_SSTRIG_OFS
     c < 6 ∧ s.chOn c = true ∧ s.framed c = true ∧ s.runsMode = true ∧ s.inMode .shadow = false ∧ (s.ch c).starts.head? = some e ∧ t0
    = e + s.get (uSsi c) ssi_SSTRIG_OFS ∧ (s.at t).due t0 = true ∧ (s.ch c).rise = none) ∧
    (let b := base
     let t : Nat := 90
     let c : Nat := 5
     let r : Nat := 3000000000
     let s : State := (let b := en [640, 664] b; let b := (b.set uSys sys_MODESTAT_MODE ([4,5,6,7].toArray[b.tick % 4]!)).set (uStage 0) trac_TCFG_MACH 0; { (b.set (uChan c) fb_CHCFG_MODE 3) with failedCheck := [], chans := [(c, { rise := some 3000000000, starts := [77] })] })
     let e : Nat := 77
     let t0 : Nat := e + s.get (uSsi c) ssi_SSTRIG_OFS
     c < 6 ∧ s.chOn c = true ∧ s.framed c = true ∧ s.runsMode = true ∧ s.inMode .shadow = false ∧ (s.ch c).starts.head? = some e ∧ t0
    = e + s.get (uSsi c) ssi_SSTRIG_OFS ∧ (s.at t).due t0 = true ∧ (s.ch c).rise = some r ∧ t0 < r + s.get (uSsi c) ssi_SSGAP_TICKS) ∧
    (let b := base
     let t : Nat := 2000000000
     let c : Nat := 5
     let t0 : Nat := 7
     let p0 : Int := 9
     let raw : Nat := 0xABCD
     let s : State := (let b := en [640, 664] b; let b := (b.set uSys sys_MODESTAT_MODE ([4,5,6,7].toArray[b.tick % 4]!)).set (uStage 0) trac_TCFG_MACH 0; { (b.set (uChan c) fb_CHCFG_MODE 3 |>.set (uSsi c) ssi_SSFRM0_PW 16 |>.set (uSsi c) ssi_SSFRM0_EW 0 |>.set (uSsi c) ssi_SSFRM0_CW 0 |>.set (uSsi c) ssi_SSFRM0_STW 12 |>.set (uSsi c) ssi_SSFRM0_EPOL (b.tick % 2) |>.setW ((uChan c).addr 0x20) 0) with failedCheck := [], chans := [(c, { frame := some (7, 9) })] })
     c < 6 ∧ s.chOn c = true ∧ s.framed c = true ∧ (s.ch c).frame = some (t0, p0) ∧ (s.at t).due (t0 + 2 * s.ssiLen c * s.get (uSsi c) ssi_SSCLK_DIV
    + s.get (uSsi c) ssi_SSCLK_SDLY) = true ∧ s.frameCause c raw = 0 ∧ s.ssiPw c ≤ 32)) ∧
    ((let b := base
     let t : Nat := 2000000000
     let c : Nat := 5
     let t0 : Nat := 7
     let p0 : Int := 9
     let s : State := (let b := en [640, 664] b; let b := (b.set uSys sys_MODESTAT_MODE ([4,5,6,7].toArray[b.tick % 4]!)).set (uStage 0) trac_TCFG_MACH 0; { (b.set (uChan c) fb_CHCFG_MODE 3 |>.set (uSsi c) ssi_SSFRM0_PW 16 |>.set (uSsi c) ssi_SSFRM0_EW 0 |>.set (uSsi c) ssi_SSFRM0_CW 0 |>.set (uSsi c) ssi_SSFRM0_STW 12 |>.set (uSsi c) ssi_SSFRM0_EPOL (b.tick % 2) |>.setW ((uChan c).addr 0x20) 0) with failedCheck := [], chans := [(c, { frame := some (7, 9), frameWire := true })] })
     let k : Nat := s.frameCause c 0xABCD
     c < 6 ∧ s.chOn c = true ∧ s.framed c = true ∧ (s.ch c).frame = some (t0, p0) ∧ (s.at t).due (t0 + 2 * s.ssiLen c * s.get (uSsi c) ssi_SSCLK_DIV
    + s.get (uSsi c) ssi_SSCLK_SDLY) = true ∧ s.frameCause c 0xABCD = k ∧ k ≠ 0) ∧
    (let b := base
     let t : Nat := 900000
     let c : Nat := 5
     let s : State := (let b := en [640, 664] b; let b := (b.set uSys sys_MODESTAT_MODE ([3,4,5,6,7].toArray[b.tick % 5]!)).set (uStage 0) trac_TCFG_MACH 0; { (b.set (uChan c) fb_CHCFG_MODE 1 |>.set (uChan c) fb_CHCPR_CPR (b.tick % 4000)) with failedCheck := [], chans := [(c, { latches := [77, 99], steps := [(b.tick, false), (b.tick - 7, false), (b.tick - 900, true)] })] })
     let e : Nat := 77
     c < 6 ∧ s.chOn c = true ∧ s.counts c = true ∧ (s.ch c).latches.head? = some e ∧ (s.at t).due (e + s.get (uChan c) fb_CHLAT_OFS)
    = true) ∧
    (let b := base
     let t : Nat := 90
     let c : Nat := 1
     let e0 : Nat := 7
     let s : State := (let b := en [640, 648] b; let b := (b.set uSys sys_MODESTAT_MODE ([3,4,5,6,7].toArray[b.tick % 5]!)).set (uStage 0) trac_TCFG_MACH 0; { (b.set (uChan c) fb_CHCFG_MODE 1 |>.set (uChan c) fb_CHOUT_OMODE 2 |>.set (uChan c) fb_CHOUT_ESRC 6 |>.set (uChan c) fb_CHOUT_ESIG 33 |>.setW (sigAddr 33) 0x8000 |>.set (uChan c) fb_CHEMU_ELINES 1023 |>.set (uChan c) fb_CHEMUPOS_COUNT (b.tick % 60000)) with failedCheck := [], chans := [(c, { emuAt := some 7, emuWritten := true })] })
     c < 2 ∧ s.emulates c = true ∧ s.emuHold c = false ∧ (s.ch c).emuAt = some e0 ∧ (s.at t).due (e0 + 40) = true ∧ s.emuDiff c ≠ 0)) :=
  ⟨by decide +kernel, by decide +kernel⟩

theorem witness_converters :
    ((let b := base
     let t : Nat := 9
     let n : Nat := 7
     let i : CvItem := ⟨7, 5, 7, 3, 0, false⟩
     let s : State := (let b := en [672, 682, 684] b; let b := (b.set uSys sys_MODESTAT_MODE ([3,4,5,6,7].toArray[b.tick % 5]!)).set (uStage 0) trac_TCFG_MACH 0; { ((b.set (uCv n) cv_CVSTAT_RELEASED 0).set (uCv (partner n)) cv_CVSTAT_RELEASED 0 |>.set (uCv n) cv_CVSTAT_CALIB 0) with failedCheck := [], convs := [(n, { due := [i] })], gainInv := [(3, 2)] })
     n < 8 ∧ s.cvMay n = true ∧ s.cvReleased (partner n) = false ∧ (s.cv n).due = [i] ∧ (s.cv (partner n)).due = [] ∧ i.owner = n ∧ i.slot < 32
    ∧ i.check = false ∧ i.due ≤ (s.at t).tick) ∧
    (let b := base
     let n : Nat := 7
     let i : CvItem := ⟨7, 5, 7, 3, 0, false⟩
     let raw : Int := -8192
     let r : List CvConv := []
     let s : State := (let b := en [] b; let b := (b.set uSys sys_MODESTAT_MODE ([3,4,5,6,7].toArray[b.tick % 5]!)).set (uStage 0) trac_TCFG_MACH 0; { ((b.set (uCv n) (cv_QSLOTA_REC 5) 0).set (uCv n) cv_CALF_GAIN (16000 + b.tick % 900)) with failedCheck := [], convs := [(n, { run := ⟨i, 8, false⟩ :: r })], gainInv := [(3, 2)] })
     n < 8 ∧ (s.cv n).run = ⟨i, 8, false⟩ :: r ∧ i.owner = n ∧ i.slot < 32 ∧ i.check = false ∧ i.fk = 0 ∧ s.get (uCv n) (cv_QSLOTA_REC i.slot)
    = 0 ∧ -8192 ≤ raw ∧ raw ≤ 8191) ∧
    (let b := base
     let n : Nat := 23
     let s : State := (let b := en [672, 685, 688] b; let b := (b.set uSys sys_MODESTAT_MODE ([3,4,5,6,7].toArray[b.tick % 5]!)).set (uStage 0) trac_TCFG_MACH 0; { ((b.set (uWg (n / 8)) wg_WSTAT_ABOVE 0).set (uWg (n / 8)) wg_WSTAT_BELOW 0 |>.set (uWg (n / 8)) (wg_WIN_HI (n % 8)) 0x1230) with failedCheck := [] })
     n < 24 ∧ s.cmpOn n = true ∧ s.get (uWg (n / 8)) (wg_WIN_HI (n % 8)) / 16 ≠ 0x7FF ∧ (s.get (uWg (n / 8)) wg_WSTAT_ABOVE).testBit (n % 8)
    = false ∧ (s.get (uWg (n / 8)) wg_WSTAT_BELOW).testBit (n % 8) = false)) ∧
    ((let n : Nat := 23
     n < 24) ∧
    (let b := base
     let n : Nat := 7
     let e : Nat := 1
     let s : State := (let b := en [672, 682, 684] b; let b := (b.set uSys sys_MODESTAT_MODE ([3,4,5,6,7].toArray[b.tick % 5]!)).set (uStage 0) trac_TCFG_MACH 0; { ((b.set (uCv n) (cv_UREQA_EN e) 1).set (uCv n) (cv_UREQA_KIND e) 2) with failedCheck := [], convs := [(n, { due := [] })], gainInv := [(3, 2)] })
     s.serves (uCv n) 0x44 ∧ n < 8 ∧ e < 2 ∧ s.get (uCv n) (cv_UREQA_EN e) = 1 ∧ s.get (uCv n) (cv_UREQA_KIND e) = 2 ∧ s.cvWorks n
    = true ∧ (s.cv n).due = []) ∧
    (let b := base
     let n : Nat := 7
     let s : State := (let b := en [] b; let b := (b.set uSys sys_MODESTAT_MODE 1).set (uStage 0) trac_TCFG_MACH 0; { (b.set (uCv n) cv_CVSTAT_CALIB 0) with failedCheck := [], convs := [(n, { due := [] })], gainInv := [(3, 2)] })
     s.serves (uCv n) 0x44 ∧ n < 8 ∧ s.inMode .config = true ∧ s.get (uCv n) cv_CVSTAT_CALIB = 0)) ∧
    ((let b := base
     let t : Nat := 9
     let n : Nat := 7
     let gain : Nat := 0x4400
     let ofs : Int := -256
     let s : State := (let b := en [] b; let b := (b.set uSys sys_MODESTAT_MODE 1).set (uStage 0) trac_TCFG_MACH 0; { ((b.set (uCv n) cv_CVSTAT_CALIB 1).set (uCv n) cv_CVCTL_CAL (b.tick % 2)) with failedCheck := [], convs := [(n, { due := [] })], gainInv := [(3, 2)] })
     n < 8 ∧ s.get (uCv n) cv_CVSTAT_CALIB = 1 ∧ ofs.natAbs ≤ 256 ∧ 0x3C00 ≤ gain ∧ gain ≤ 0x4400 ∧ (s.at t).hostWrote (uCv n) cv_CALF_GAIN.off
    = false) ∧
    (let b := base
     let n : Nat := 7
     let s : State := (let b := en [] b; let b := (b.set uSys sys_MODESTAT_MODE ([3,4,5,6,7].toArray[b.tick % 5]!)).set (uStage 0) trac_TCFG_MACH 0; { ((b.set (uCv n) cv_CVSTAT_CALIB 0).set (uCv n) cv_CVSTAT_RELEASED 0 |>.set (uCv (partner n)) cv_CVSTAT_RELEASED 0 |>.set (uCv n) cv_CVCTL_REL 0) with failedCheck := [], convs := [(n, { due := [] })], gainInv := [(3, 2)] })
     s.serves (uCv n) 0x44 ∧ n < 8 ∧ s.runsMode = true ∧ s.get (uCv n) cv_CVCTL_REL = 0 ∧ s.cvReleased n = false ∧ s.cvReleased (partner n)
    = false ∧ s.get (uCv n) cv_CVSTAT_CALIB = 0 ∧ (s.cv n).last = none) ∧
    (let b := base
     let n : Nat := 7
     let s : State := (let b := en [] b; let b := (b.set uSys sys_MODESTAT_MODE ([3,4,5,6,7].toArray[b.tick % 5]!)).set (uStage 0) trac_TCFG_MACH 0; { ((b.set (uCv n) cv_CVSTAT_CALIB 0).set (uCv n) cv_CVSTAT_RELEASED 1 |>.set (uCv n) cv_CVCTL_RESTORE 0) with failedCheck := [], convs := [(n, { filt := [(3, 0, [(5, false, false)])] })], gainInv := [(3, 2)] })
     s.serves (uCv n) 0x44 ∧ n < 8 ∧ s.get (uCv n) cv_CVCTL_RESTORE = 0 ∧ s.cvReleased n = true ∧ s.get (uCv n) cv_CVSTAT_CALIB = 0
    ∧ (s.cv (partner n)).covered = none)) :=
  ⟨by decide +kernel, by decide +kernel, by decide +kernel⟩

theorem witness_table_banks :
    ((let b := base
     let bank : Nat := 1
     let s : State := (let b := en [] b; let b := (b.set uSys sys_MODESTAT_MODE 1).set (uStage 0) trac_TCFG_MACH 0; (b.set uTbk tbk_TBSTAT_CHKBUSY 0).set uTbk tbk_TBSTAT_PEND 0)
     s.serves uTbk 0x40 ∧ bank < 2 ∧ s.inMode .config = true ∧ s.get uTbk tbk_TBSTAT_CHKBUSY = 0 ∧ s.get uTbk tbk_TBSTAT_PEND = 0) ∧
    (let b := base
     let t : Nat := 9
     let k : Nat := 1
     let s : State := (let b := en [] b; let b := (b.set uSys sys_MODESTAT_MODE 1).set (uStage 0) trac_TCFG_MACH 0; (let b : State := { (forL (([1, 0, 0x1234, 0, 0, 0, 0, (crc32 ([1, 0, 0x1234, 0, 0, 0, 0].flatMap wordBytes)).toNat] : List Nat).zipIdx) (fun x s => s.setMemWord (bankBase k + 4 * x.2) (BitVec.ofNat 32 x.1) 15) b) with flips := [], uncorr := [], checkBankNo := k, cans := [] }; b.set uTbk tbk_TBSTAT_CHKBUSY 1))
     let r : Breach := (((s.at t).checkBank s.checkBankNo).1)
     let s1 : State := (((s.at t).checkBank s.checkBankNo).2)
     s.get uTbk tbk_TBSTAT_CHKBUSY = 1 ∧ s.checkBankNo = k ∧ k < 2 ∧ (s.at t).checkBank k = (r, s1) ∧ r = none) ∧
    (let b := base
     let t : Nat := 9
     let k : Nat := 1
     let s : State := (let b := en [] b; let b := (b.set uSys sys_MODESTAT_MODE 1).set (uStage 0) trac_TCFG_MACH 0; { (b.set uTbk tbk_TBSTAT_CHKBUSY 1) with flips := [], uncorr := [], checkBankNo := k, cans := [] })
     let r : Breach := (((s.at t).checkBank s.checkBankNo).1)
     let s1 : State := (((s.at t).checkBank s.checkBankNo).2)
     let c : Nat := ((r.map fun x => x.1).getD 0)
     let tn : Nat := ((r.bind fun x => x.2).getD 0)
     s.get uTbk tbk_TBSTAT_CHKBUSY = 1 ∧ s.checkBankNo = k ∧ k < 2 ∧ (s.at t).checkBank k = (r, s1) ∧ r = some (c, some tn))) ∧
    ((let b := base
     let cad : Nat := 3
     let s : State := (let b := en [] b; let b := (b.set uSys sys_MODESTAT_MODE 4).set (uStage 0) trac_TCFG_MACH 0; (b.set uTbk tbk_TBSTAT_CHKBUSY 0).set uTbk tbk_TBSTAT_PEND 0 |>.set uTbk tbk_TBSTAT_BANKOK 3)
     s.serves uTbk 0x40 ∧ cad < 8 ∧ s.inMode .config = false ∧ s.bankOk (1 - s.activeBank) = true ∧ s.get uTbk tbk_TBSTAT_CHKBUSY = 0
    ∧ s.get uTbk tbk_TBSTAT_PEND = 0) ∧
    (let b := base
     let cad : Nat := 3
     let s : State := (let b := en [] b; let b := (b.set uSys sys_MODESTAT_MODE 1).set (uStage 0) trac_TCFG_MACH 0; (b.set uTbk tbk_TBSTAT_CHKBUSY 0).set uTbk tbk_TBSTAT_PEND 0 |>.set uTbk tbk_TBSTAT_BANKOK 3)
     s.serves uTbk 0x40 ∧ cad < 8 ∧ s.inMode .config = true ∧ s.bankOk (1 - s.activeBank) = true ∧ s.get uTbk tbk_TBSTAT_CHKBUSY = 0
    ∧ s.get uTbk tbk_TBSTAT_PEND = 0) ∧
    (let b := base
     let s : State := (let b := en [] b; let b := (b.set uSys sys_MODESTAT_MODE 4).set (uStage 0) trac_TCFG_MACH 0; b.set uTbk tbk_TBSTAT_PEND 1)
     s.serves uTbk 0x40 ∧ s.get uTbk tbk_TBSTAT_PEND = 1)) ∧
    ((let b := base
     let t : Nat := 9
     let d : Nat := 5
     let s : State := (let b := en [] b; let b := (b.set uSys sys_MODESTAT_MODE 4).set (uStage 0) trac_TCFG_MACH 0; { (b.set uTbk tbk_TBSTAT_PEND 1).set uCadSh cadsh_RUNNING_CAD 255 with switchCad := 3, cads := [(3, { due := [5, 88] })] })
     s.get uTbk tbk_TBSTAT_PEND = 1 ∧ s.cadRuns s.switchCad = true ∧ (s.cad s.switchCad).due.head? = some d ∧ (s.at t).due d = true
    ∧ s.activeBank ≤ 1) ∧
    (let b := base
     let t : Nat := 9
     let m : Nat := 7
     let s : State := (let b := en [736, 737] b; let b := (b.set uSys sys_MODESTAT_MODE 4).set (uStage 0) trac_TCFG_MACH 0; (let b : State := { (forL (([(4, 1), (32, 536870976), (36, 6), (64, 536870918), (68, 514), (72, 65536000), (76, 65536000), (80, 6553600), (84, 13107300)] : List (Nat × Nat))) (fun x s => s.setMemWord (bankBase 0 + x.1) (BitVec.ofNat 32 x.2) 15) b) with flips := [], uncorr := [], badParity := [] }; let b := (b.set uTbk tbk_TBSTAT_BANKOK 1).set uTbk tbk_TBSTAT_ACTIVE 0; ((({ b with mapDue := [(m, [5, 6])] } : State).set uTbk (tbk_MAPA_EN m) 1).set uTbk (tbk_MAPA_TABLE m) 0 |>.set uTbk (tbk_MAPB_XSIG m) 33 |>.set uTbk (tbk_MAPB_YSIG m) 34).setW (sigAddr 33) (BitVec.ofNat 32 (b.tick % 1200)) |>.setW (sigAddr 34) 700))
     let e : Nat := 5
     let v : Int := ((s.curve2 s.activeBank (s.get uTbk (tbk_MAPA_TABLE m)) (s.sigI (s.get uTbk (tbk_MAPB_XSIG m))) (s.sigI (s.get uTbk (tbk_MAPB_YSIG m)))).getD 0)
     m < 8 ∧ (s.mapEvents m).head? = some e ∧ (s.at t).due (e + s.get uTbk (tbk_MAPC_OFS m)) = true ∧ s.get uTbk (tbk_MAPA_EN m) = 1
    ∧ s.enabled uTbk = true ∧ s.flips = [] ∧ s.badParity = [] ∧ s.curve2 s.activeBank (s.get uTbk (tbk_MAPA_TABLE m)) (s.sigI (s.get uTbk (tbk_MAPB_XSIG m))) (s.sigI (s.get uTbk (tbk_MAPB_YSIG m)))
    = some v ∧ -32768 ≤ v ∧ v ≤ 32767) ∧
    (let b := base
     let t : Nat := 9
     let m : Nat := 7
     let s : State := (let b := en [736, 737] b; let b := (b.set uSys sys_MODESTAT_MODE 4).set (uStage 0) trac_TCFG_MACH 0; { ((b.set uTbk (tbk_MAPA_EN m) 1).set uTbk tbk_TBSTAT_BANKOK 0) with mapDue := [(m, [5, 6])], badParity := [] })
     let e : Nat := 5
     m < 8 ∧ (s.mapEvents m).head? = some e ∧ (s.at t).due (e + s.get uTbk (tbk_MAPC_OFS m)) = true ∧ s.get uTbk (tbk_MAPA_EN m) = 1
    ∧ s.enabled uTbk = true ∧ s.table s.activeBank (s.get uTbk (tbk_MAPA_TABLE m)) 2 = none ∧ s.badParity = [])) :=
  ⟨by decide +kernel, by decide +kernel, by decide +kernel⟩

theorem witness_sequencer_steps :
    ((let b := base
     let t : Nat := 9
     let n : Nat := 31
     let s : State := (let b := en [736, 739, 603] b; let b := (b.set uSys sys_MODESTAT_MODE 4).set (uStage 0) trac_TCFG_MACH 0; (let b : State := { (forL (([(4, 1), (32, 1073741888), (36, 11), (64, 1073741835), (68, 33554433), (72, 0), (76, 65536), (80, 0), (84, 0), (88, 0), (92, 16777216), (96, 0), (100, 0), (104, 0)] : List (Nat × Nat))) (fun x s => s.setMemWord (bankBase 0 + x.1) (BitVec.ofNat 32 x.2) 15) b) with flips := [], uncorr := [], badParity := [] }; let b := (b.set uTbk tbk_TBSTAT_BANKOK 1).set uTbk tbk_TBSTAT_ACTIVE 0; { ((b.set (uSq n) sq_SQSTAT_ENTERING 1).set (uSq n) sq_SQSTAT_STATE 1 |>.set (uSq n) sq_SQSTAT_STOPPED 0 |>.set (uSq n) sq_SQCFG_TABLE 0) with failedCheck := [], seqs := [(n, { run := none, events := [5] })] }))
     let f : Fsm := ((s.sqFsm n).getD ⟨0, 0, 0, 0⟩)
     n < 32 ∧ s.sqWorks n = true ∧ (s.at t).sqTriggered n = true ∧ (s.sq n).run = none ∧ s.flips = [] ∧ s.sqFsm n = some f ∧ s.get (uSq n) sq_SQSTAT_ENTERING
    = 1 ∧ actsOf (s.tw f.bank (f.stateAt f.init + 4)) = []) ∧
    (let b := base
     let t : Nat := 9
     let n : Nat := 31
     let s : State := (let b := en [736, 739, 603] b; let b := (b.set uSys sys_MODESTAT_MODE 4).set (uStage 0) trac_TCFG_MACH 0; (let b : State := { (forL (([(4, 1), (32, 1073741888), (36, 11), (64, 1073741835), (68, 33554433), (72, 0), (76, 65536), (80, 0), (84, 0), (88, 0), (92, 16777216), (96, 0), (100, 0), (104, 0)] : List (Nat × Nat))) (fun x s => s.setMemWord (bankBase 0 + x.1) (BitVec.ofNat 32 x.2) 15) b) with flips := [], uncorr := [], badParity := [] }; let b := (b.set uTbk tbk_TBSTAT_BANKOK 1).set uTbk tbk_TBSTAT_ACTIVE 0; { ((b.set (uSq n) sq_SQSTAT_ENTERING 0).set (uSq n) sq_SQSTAT_STATE 0 |>.set (uSq n) sq_SQSTAT_STOPPED 0 |>.set (uSq n) sq_SQCFG_TABLE 0) with failedCheck := [], seqs := [(n, { run := none, events := [5] })] }))
     let f : Fsm := ((s.sqFsm n).getD ⟨0, 0, 0, 0⟩)
     let j : Nat := ((((List.range (bits (s.tw f.bank (f.stateAt (s.get (uSq n) sq_SQSTAT_STATE))) 16 9)).map (bits (s.tw f.bank (f.stateAt (s.get (uSq n) sq_SQSTAT_STATE))) 0 8 + ·)).find? ((s.at t).sqGuard n f)).getD 0)
     n < 32 ∧ s.sqWorks n = true ∧ (s.at t).sqTriggered n = true ∧ (s.sq n).run = none ∧ s.flips = [] ∧ s.sqFsm n = some f ∧ s.get (uSq n) sq_SQSTAT_ENTERING
    = 0 ∧ s.get (uSq n) sq_SQSTAT_STATE < f.nstate ∧ s.badParity = [] ∧ ((List.range (bits (s.tw f.bank (f.stateAt (s.get (uSq n) sq_SQSTAT_STATE))) 16 9)).map (bits (s.tw f.bank (f.stateAt (s.get (uSq n) sq_SQSTAT_STATE))) 0 8
    + ·)).find? ((s.at t).sqGuard n f) = some j ∧ actsOf (s.tw f.bank (f.transAt j + 12)) = [] ∧ actsOf (s.tw f.bank (f.stateAt (bits (s.tw f.bank (f.transAt j)) 24 6)
    + 4)) = []) ∧
    (let b := base
     let t : Nat := 9
     let n : Nat := 31
     let s : State := (let b := en [736, 739, 603] b; let b := (b.set uSys sys_MODESTAT_MODE 4).set (uStage 0) trac_TCFG_MACH 0; (let b : State := { (forL (([(4, 1), (32, 1073741888), (36, 11), (64, 1073741835), (68, 33554433), (72, 0), (76, 65536), (80, 0), (84, 0), (88, 0), (92, 16777216), (96, 0), (100, 0), (104, 0)] : List (Nat × Nat))) (fun x s => s.setMemWord (bankBase 0 + x.1) (BitVec.ofNat 32 x.2) 15) b) with flips := [], uncorr := [], badParity := [] }; let b := (b.set uTbk tbk_TBSTAT_BANKOK 1).set uTbk tbk_TBSTAT_ACTIVE 0; { ((b.set (uSq n) sq_SQSTAT_ENTERING 0).set (uSq n) sq_SQSTAT_STATE 1 |>.set (uSq n) sq_SQSTAT_STOPPED 0 |>.set (uSq n) sq_SQCFG_TABLE 0) with failedCheck := [], seqs := [(n, { run := none, events := [5] })] }))
     let f : Fsm := ((s.sqFsm n).getD ⟨0, 0, 0, 0⟩)
     n < 32 ∧ s.sqWorks n = true ∧ (s.at t).sqTriggered n = true ∧ (s.sq n).run = none ∧ s.flips = [] ∧ s.sqFsm n = some f ∧ s.get (uSq n) sq_SQSTAT_ENTERING
    = 0 ∧ s.get (uSq n) sq_SQSTAT_STATE < f.nstate ∧ s.badParity = [] ∧ ((List.range (bits (s.tw f.bank (f.stateAt (s.get (uSq n) sq_SQSTAT_STATE))) 16 9)).map (bits (s.tw f.bank (f.stateAt (s.get (uSq n) sq_SQSTAT_STATE))) 0 8
    + ·)).find? ((s.at t).sqGuard n f) = none)) ∧
    ((let b := base
     let t : Nat := 9
     let n : Nat := 31
     let s : State := (let b := en [736, 739, 603] b; let b := (b.set uSys sys_MODESTAT_MODE 4).set (uStage 0) trac_TCFG_MACH 0; (let b : State := { (forL (([(4, 1), (32, 1073741888), (36, 11), (64, 1073741835), (68, 33554433), (72, 0), (76, 65536), (80, 0), (84, 0), (88, 0), (92, 16777216), (96, 0), (100, 0), (104, 0)] : List (Nat × Nat))) (fun x s => s.setMemWord (bankBase 0 + x.1) (BitVec.ofNat 32 x.2) 15) b) with flips := [], uncorr := [], badParity := [] }; let b := (b.set uTbk tbk_TBSTAT_BANKOK 1).set uTbk tbk_TBSTAT_ACTIVE 0; { ((b.set (uSq n) sq_SQSTAT_ENTERING 0).set (uSq n) sq_SQSTAT_STATE 1 |>.set (uSq n) sq_SQSTAT_STOPPED 0 |>.set (uSq n) sq_SQCFG_TABLE 0 |>.set (uSq n) sq_SQSTAT_PEND 0) with failedCheck := [], seqs := [(n, { run := some ⟨[(5, 5, 0)], 0, none, 3, false, [], 0⟩, events := [5] })] }))
     n < 32 ∧ s.sqWorks n = true ∧ (s.at t).sqTriggered n = true ∧ (s.sq n).run ≠ none ∧ s.get (uSq n) sq_SQSTAT_PEND = 0) ∧
    (let b := base
     let n : Nat := 31
     let s : State := (let b := en [] b; let b := (b.set uSys sys_MODESTAT_MODE 4).set (uStage 0) trac_TCFG_MACH 0; (let b : State := { (forL (([(4, 1), (32, 1073741888), (36, 11), (64, 1073741835), (68, 33554433), (72, 0), (76, 65536), (80, 0), (84, 0), (88, 0), (92, 16777216), (96, 0), (100, 0), (104, 0)] : List (Nat × Nat))) (fun x s => s.setMemWord (bankBase 0 + x.1) (BitVec.ofNat 32 x.2) 15) b) with flips := [], uncorr := [], badParity := [] }; let b := (b.set uTbk tbk_TBSTAT_BANKOK 1).set uTbk tbk_TBSTAT_ACTIVE 0; { ((b.set (uSq n) sq_SQSTAT_ENTERING 0).set (uSq n) sq_SQSTAT_STATE 1 |>.set (uSq n) sq_SQSTAT_STOPPED 0 |>.set (uSq n) sq_SQCFG_TABLE 0) with failedCheck := [], seqs := [(n, { run := some ⟨[(5, 5, 0)], 0, none, 3, true, [], 0⟩, events := [5] })] }))
     s.serves (uSq n) 0x4C ∧ n < 32)) :=
  ⟨by decide +kernel, by decide +kernel⟩

theorem witness_sequencer_actions :
    ((let b := base
     let n : Nat := 31
     let a0 : Word := 0x20000003#32
     let a1 : Word := 0x4567#32
     let k : Nat := 4
     let s : State := (let b := en [] b; let b := (b.set uSys sys_MODESTAT_MODE 4).set (uStage 0) trac_TCFG_MACH 0; { (((b.set (uSq n) (sq_SQSIG_EN (bits a0 0 3)) 1).set (uSq n) (sq_SQSIG_SIG (bits a0 0 3)) 33).setW (dirAddr 33) (BitVec.ofNat 32 (2 * 2 ^ 28 + n * 2 ^ 16 + 1))) with flips := [], uncorr := [], badParity := [], seqs := [(n, { run := some ⟨[(a0, a1, 4), (0x50000001, 0, 9)], 0, none, 3, false, [], 0⟩ })] })
     n < 32 ∧ s.sqAction n 2 = some (a0, a1, k) ∧ (1 < ((s.sq n).run.map fun r => r.acts.length).getD 0) ∧ s.get (uSq n) (sq_SQSIG_EN (bits a0 0 3))
    = 1 ∧ a0.getLsbD 8 = false ∧ s.dir (s.get (uSq n) (sq_SQSIG_SIG (bits a0 0 3))) dir_WCLASS = 2 ∧ s.dir (s.get (uSq n) (sq_SQSIG_SIG (bits a0 0 3))) dir_WINST
    = n ∧ s.dir (s.get (uSq n) (sq_SQSIG_SIG (bits a0 0 3))) dir_TYPE = 1 ∧ s.isHeld ⟨.sq, n⟩ = false) ∧
    (let b := base
     let n : Nat := 31
     let a0 : Word := 0x50000007#32
     let a1 : Word := 0#32
     let k : Nat := 4
     let s : State := (let b := en [] b; let b := (b.set uSys sys_MODESTAT_MODE 4).set (uStage 0) trac_TCFG_MACH 0; { (b) with flips := [], uncorr := [], badParity := [], seqs := [(n, { run := some ⟨[(a0, a1, 4), (0x50000001, 0, 9)], 0, none, 3, false, [], 0⟩ })] })
     n < 32 ∧ s.sqAction n 5 = some (a0, a1, k) ∧ (1 < ((s.sq n).run.map fun r => r.acts.length).getD 0)) ∧
    (let b := base
     let t : Nat := 9
     let n : Nat := 31
     let a0 : Word := 0x40050310#32
     let a1 : Word := 0x1234#32
     let k : Nat := 4
     let s : State := (let b := en [] b; let b := (b.set uSys sys_MODESTAT_MODE 4).set (uStage 0) trac_TCFG_MACH 0; { ((b.set (uQuad (bits a0 16 4)) (arq_ACOMP_EN (bits a0 16 4 % 4) (bits a0 8 3)) 1).set (uQuad (bits a0 16 4)) (arq_ACOMP_KIND (bits a0 16 4 % 4) (bits a0 8 3)) 1) with flips := [], uncorr := [], badParity := [], seqs := [(n, { run := some ⟨[(a0, a1, 4), (0x50000001, 0, 9)], 0, none, 3, false, [], 0⟩ })] })
     n < 32 ∧ s.sqAction n 4 = some (a0, a1, k) ∧ (1 < ((s.sq n).run.map fun r => r.acts.length).getD 0) ∧ s.get (uQuad (bits a0 16 4)) (arq_ACOMP_EN (bits a0 16 4 % 4) (bits a0 8 3))
    = 1 ∧ s.get (uQuad (bits a0 16 4)) (arq_ACOMP_KIND (bits a0 16 4 % 4) (bits a0 8 3)) = 1 ∧ a0.getLsbD 0 = false ∧ s.badParity
    = [] ∧ (s.at t).hostWrote (uQuad (bits a0 16 4)) (0x140 + 0x80 * (bits a0 16 4 % 4) + 4 * bits a0 8 3) = false)) ∧
    ((let b := base
     let t : Nat := 9
     let n : Nat := 31
     let a0 : Word := (BitVec.ofNat 32 (0x1F000000 + (uPpx.addr 0x80) / 4))
     let a1 : Word := 0x1234#32
     let k : Nat := 4
     let s : State := (let b := en [] b; let b := (b.set uSys sys_MODESTAT_MODE 4).set (uStage 0) trac_TCFG_MACH 0; { (b) with flips := [], uncorr := [], badParity := [], seqs := [(n, { run := some ⟨[(a0, a1, 4), (0x50000001, 0, 9)], 0, none, 3, false, [], 0⟩ })] })
     let s1 : State := ((s.at t).hostWrite 2 (bits a0 0 22 * 4) a1 (bits a0 24 4) false).2
     n < 32 ∧ s.sqAction n 1 = some (a0, a1, k) ∧ (1 < ((s.sq n).run.map fun r => r.acts.length).getD 0) ∧ wregDenied (bits a0 0 22 * 4)
    = false ∧ bits a0 0 22 * 4 < 0xF01000 ∧ (s.at t).hostWrite 2 (bits a0 0 22 * 4) a1 (bits a0 24 4) false = (0, s1) ∧ (s1.sq n).run
    = (s.sq n).run) ∧
    (let b := base
     let t : Nat := 9
     let n : Nat := 31
     let a0 : Word := 0x30000105#32
     let a1 : Word := 0#32
     let k : Nat := 4
     let s : State := (let b := en [] b; let b := (b.set uSys sys_MODESTAT_MODE 4).set (uStage 0) trac_TCFG_MACH 0; { (b) with flips := [], uncorr := [], badParity := [], seqs := [(n, { run := some ⟨[(a0, a1, 4), (0x50000001, 0, 9)], 0, none, 3, false, [], 0⟩ })] })
     let s1 : State := ((s.at t).hostWrite 2 ((uPod (bits a0 0 7)).addr 0xC) (BitVec.ofNat 32 (bits a0 8 1)) 1 false).2
     n < 32 ∧ s.sqAction n 3 = some (a0, a1, k) ∧ (1 < ((s.sq n).run.map fun r => r.acts.length).getD 0) ∧ ((s.at t).hostWrite 2 ((uPod (bits a0 0 7)).addr 0xC) (BitVec.ofNat 32 (bits a0 8 1)) 1 false).2
    = s1 ∧ (s1.sq n).run = (s.sq n).run) ∧
    (let b := base
     let n : Nat := 31
     let a0 : Word := 0x60000000#32
     let a1 : Word := 0#32
     let k : Nat := 4
     let s : State := (let b := en [] b; let b := (b.set uSys sys_MODESTAT_MODE 4).set (uStage 0) trac_TCFG_MACH 0; (let b : State := { (forL (([(4, 1), (32, 1342177344), (36, 3), (64, 1342177283), (68, 2164785152), (72, 291)] : List (Nat × Nat))) (fun x s => s.setMemWord (bankBase 0 + x.1) (BitVec.ofNat 32 x.2) 15) b) with flips := [], uncorr := [], badParity := [] }; let b := (b.set uTbk tbk_TBSTAT_BANKOK 1).set uTbk tbk_TBSTAT_ACTIVE 0; { ((b.set (uCn 0) cn_CNSTAT_STATE 2).set (uCn 0) cn_CNCFG_MON 0 |>.set (uCn 0) (cn_TXCMD_REQ 1) 0) with seqs := [(n, { run := some ⟨[(a0, a1, 4), (0x50000001, 0, 9)], 0, none, 3, false, [], 0⟩ })] }))
     let m : Fmt := ((s.fmt s.activeBank (bits a0 0 16)).getD ⟨0, false, false, false, 0, 0, 0, 0, []⟩)
     n < 32 ∧ s.sqAction n 6 = some (a0, a1, k) ∧ (1 < ((s.sq n).run.map fun r => r.acts.length).getD 0) ∧ s.fmt s.activeBank (bits a0 0 16)
    = some m ∧ m.dir = 1 ∧ m.tb < 3 ∧ s.get (uCn m.cn) (cn_TXCMD_REQ m.tb) = 0 ∧ s.txRefusal m.cn m.ide m.fdf m.brs m.bytes m.ident
    = none ∧ s.flips = [] ∧ s.badParity = [])) :=
  ⟨by decide +kernel, by decide +kernel⟩

theorem witness_can_transmit :
    ((let b := base
     let n : Nat := 3
     let k : Nat := 2
     let s : State := (let b := en [] b; let b := (b.set uSys sys_MODESTAT_MODE 4).set (uStage 0) trac_TCFG_MACH 0; { (((b.set (uCn n) cn_CNCFG_MON 0).setW ((uCn n).addr (cn_TXCTL_IDE k).off) 0x00080000 |>.set (uCn n) (cn_TXID_ID k) (b.tick % 2000) |>.set (uCn n) (cn_TXCMD_REQ k) 0).set (uCn n) cn_CNSTAT_STATE (2 + b.tick % 2)) with cans := [(n, {  })], flips := [], uncorr := [] })
     s.serves (uCn n) (0x10C + 0x80 * k) ∧ n < 4 ∧ k < 3 ∧ s.get (uCn n) (cn_TXCMD_REQ k) = 0 ∧ s.txRefusal n (s.on (uCn n) (cn_TXCTL_IDE k)) (s.on (uCn n) (cn_TXCTL_FDF k)) (s.on (uCn n) (cn_TXCTL_BRS k)) (s.get (uCn n) (cn_TXCTL_BYTES k)) (s.get (uCn n) (cn_TXID_ID k))
    = none) ∧
    (let b := base
     let n : Nat := 3
     let k : Nat := 2
     let s : State := (let b := en [] b; let b := (b.set uSys sys_MODESTAT_MODE 4).set (uStage 0) trac_TCFG_MACH 0; { ((b.set (uCn n) (cn_TXCMD_REQ k) 0).set (uCn n) cn_CNSTAT_STATE (b.tick % 4)) with cans := [(n, {  })], flips := [], uncorr := [] })
     let c : Nat := ((s.txRefusal n (s.on (uCn n) (cn_TXCTL_IDE k)) (s.on (uCn n) (cn_TXCTL_FDF k)) (s.on (uCn n) (cn_TXCTL_BRS k)) (s.get (uCn n) (cn_TXCTL_BYTES k)) (s.get (uCn n) (cn_TXID_ID k))).getD 0)
     s.serves (uCn n) (0x10C + 0x80 * k) ∧ n < 4 ∧ k < 3 ∧ s.get (uCn n) (cn_TXCMD_REQ k) = 0 ∧ s.txRefusal n (s.on (uCn n) (cn_TXCTL_IDE k)) (s.on (uCn n) (cn_TXCTL_FDF k)) (s.on (uCn n) (cn_TXCTL_BRS k)) (s.get (uCn n) (cn_TXCTL_BYTES k)) (s.get (uCn n) (cn_TXID_ID k))
    = some c) ∧
    (let b := base
     let n : Nat := 3
     let k : Nat := 2
     let s : State := (let b := en [] b; let b := (b.set uSys sys_MODESTAT_MODE 4).set (uStage 0) trac_TCFG_MACH 0; { ((b.set (uCn n) (cn_TXCMD_REQ k) 1).set (uCn n) cn_CNSTAT_STATE 2) with cans := [(n, { sending := some 5 })], flips := [], uncorr := [] })
     s.serves (uCn n) (0x10C + 0x80 * k) ∧ n < 4 ∧ k < 3 ∧ s.get (uCn n) (cn_TXCMD_REQ k) = 1 ∧ (s.can n).sending ≠ some k)) ∧
    ((let b := base
     let n : Nat := 3
     let s : State := (let b := en [] b; let b := (b.set uSys sys_MODESTAT_MODE 4).set (uStage 0) trac_TCFG_MACH 0; { (((b.set (uCn n) (cn_TXCMD_REQ 2) 1).set (uCn n) (cn_TXCMD_REQ 0) (b.tick % 2)).set (uCn n) cn_CNSTAT_STATE 2) with cans := [(n, {  })], flips := [], uncorr := [] })
     let k : Nat := ((s.txChoice n).getD 0)
     n < 4 ∧ s.cnOn n = true ∧ (s.can n).sending = none ∧ s.txChoice n = some k) ∧
    (let b := base
     let n : Nat := 3
     let k : Nat := 2
     let s : State := (let b := en [] b; let b := (b.set uSys sys_MODESTAT_MODE 4).set (uStage 0) trac_TCFG_MACH 0; { ((b.set (uCn n) cn_CNERR_TEC (b.tick % 129) |>.set (uCn n) cn_CNERR_REC 9).set (uCn n) cn_CNSTAT_STATE (2 + b.tick % 2)) with cans := [(n, { sending := some k })], flips := [], uncorr := [] })
     n < 4 ∧ k < 3 ∧ (s.can n).sending = some k ∧ s.cnOn n = true ∧ s.get (uCn n) cn_CNERR_TEC ≤ 128 ∧ s.get (uCn n) cn_CNERR_REC ≤ 127) ∧
    (let b := base
     let n : Nat := 3
     let k : Nat := 2
     let c : Nat := 3
     let s : State := (let b := en [] b; let b := (b.set uSys sys_MODESTAT_MODE 4).set (uStage 0) trac_TCFG_MACH 0; { ((b.set (uCn n) (cn_TXCTL_OS k) 1).set (uCn n) cn_CNSTAT_STATE 2) with cans := [(n, { sending := some k })], flips := [], uncorr := [] })
     n < 4 ∧ k < 3 ∧ c < 16 ∧ (s.can n).sending = some k ∧ (s.can n).aborting = false ∧ s.get (uCn n) (cn_TXCTL_OS k) = 1)) ∧
    (let b := base
     let n : Nat := 3
     let k : Nat := 2
     let s : State := (let b := en [] b; let b := (b.set uSys sys_MODESTAT_MODE 4).set (uStage 0) trac_TCFG_MACH 0; { ((b.set (uCn n) (cn_TXCTL_OS k) 0 |>.set (uCn n) (cn_TXCMD_REQ k) 1).set (uCn n) cn_CNSTAT_STATE 2) with cans := [(n, { sending := some k })], flips := [], uncorr := [] })
     n < 4 ∧ k < 3 ∧ (s.can n).sending = some k ∧ (s.can n).aborting = false ∧ s.get (uCn n) (cn_TXCTL_OS k) = 0) :=
  ⟨by decide +kernel, by decide +kernel, by decide +kernel⟩

theorem witness_can_receive_and_errors :
    ((let b := base
     let n : Nat := 3
     let f : CanFrame := ⟨false, false, false, false, 0x123, 4, [1, 2, 3, 4]⟩
     let s : State := (let b := en [] b; let b := (b.set uSys sys_MODESTAT_MODE 4).set (uStage 0) trac_TCFG_MACH 0; { ((b).set (uCn n) cn_CNSTAT_STATE 2) with cans := [(n, { objs := [⟨7, true, none⟩] })], flips := [], uncorr := [] })
     n < 4 ∧ s.cnOn n = true ∧ (s.can n).sending = none ∧ f.fdf = false ∧ ((s.can n).objs.findIdx? (fun o => decide (o.key = canKey f.ide f.ident))
    = none)) ∧
    (let b := base
     let n : Nat := 3
     let f : CanFrame := ⟨false, false, false, false, 0x123, 4, [1, 2, 3, 4]⟩
     let s : State := (let b := en [] b; let b := (b.set uSys sys_MODESTAT_MODE 4).set (uStage 0) trac_TCFG_MACH 0; { (((let b := (forN 64 (fun k s => s.set ⟨.palloc, 0⟩ (palloc_ALLOCB_VALID k) 0) b).set ⟨.palloc, 0⟩ (palloc_ALLOCB_VALID 0) 1 |>.set ⟨.palloc, 0⟩ (palloc_ALLOCB_CLIENT 0) (0x20 + n) |>.set ⟨.palloc, 0⟩ (palloc_ALLOCA_BASE 0) 9 |>.set ⟨.palloc, 0⟩ (palloc_ALLOCA_SIZEM1 0) 3; b)).set (uCn n) cn_CNSTAT_STATE 2) with cans := [(n, { objs := [⟨canKey f.ide f.ident, true, none⟩] })], flips := [], uncorr := [] })
     let base : Nat := ((s.region (0x20 + n)).getD (0, 0)).1
     let len : Nat := ((s.region (0x20 + n)).getD (0, 0)).2
     n < 4 ∧ s.cnOn n = true ∧ (s.can n).sending = none ∧ f.fdf = false ∧ s.region (0x20 + n) = some (base, len) ∧ s.flips = [] ∧ poolBase ≤ base
    ∧ (s.can n).objs = [⟨canKey f.ide f.ident, true, none⟩]) ∧
    (let b := base
     let n : Nat := 3
     let s : State := (let b := en [] b; let b := (b.set uSys sys_MODESTAT_MODE 4).set (uStage 0) trac_TCFG_MACH 0; { ((b).set (uCn n) cn_CNSTAT_STATE 2) with cans := [(n, {  })], flips := [], uncorr := [] })
     n < 4 ∧ s.cnOn n = true ∧ (s.can n).sending = none)) ∧
    ((let b := base
     let n : Nat := 3
     let obj : Nat := 1
     let seq : Nat := 700
     let s : State := (let b := en [] b; let b := (b.set uSys sys_MODESTAT_MODE 4).set (uStage 0) trac_TCFG_MACH 0; { (((let b := (forN 64 (fun k s => s.set ⟨.palloc, 0⟩ (palloc_ALLOCB_VALID k) 0) b).set ⟨.palloc, 0⟩ (palloc_ALLOCB_VALID 0) 1 |>.set ⟨.palloc, 0⟩ (palloc_ALLOCB_CLIENT 0) (0x20 + n) |>.set ⟨.palloc, 0⟩ (palloc_ALLOCA_BASE 0) 9 |>.set ⟨.palloc, 0⟩ (palloc_ALLOCA_SIZEM1 0) 3; (b.set (uCn n) (cn_RXNEW_NEW 0) 3).setMemWord (poolBase + 0x400 * 9 + 0x810 + 80 * obj) (BitVec.ofNat 32 (0xE0080000 + seq)) 15)).set (uCn n) cn_CNSTAT_STATE 2) with cans := [(n, { objs := [⟨7, true, none⟩, ⟨8, true, none⟩] })], flips := [], uncorr := [] })
     let base : Nat := ((s.region (0x20 + n)).getD (0, 0)).1
     let len : Nat := ((s.region (0x20 + n)).getD (0, 0)).2
     s.serves (uCn n) 0x60 ∧ s.serves (uCn n) 0x60 ∧ n < 4 ∧ s.region (0x20 + n) = some (base, len) ∧ s.flips = [] ∧ obj < (s.can n).objs.length
    ∧ obj < 256 ∧ bits (s.memWord (base + 0x810 + 80 * obj)) 0 16 = seq ∧ poolBase ≤ base) ∧
    (let b := base
     let n : Nat := 3
     let c : Nat := 5
     let s : State := (let b := en [] b; let b := (b.set uSys sys_MODESTAT_MODE 4).set (uStage 0) trac_TCFG_MACH 0; { ((b.set (uCn n) cn_CNERR_TEC (b.tick % 248)).set (uCn n) cn_CNSTAT_STATE 2) with cans := [(n, {  })], flips := [], uncorr := [] })
     n < 4 ∧ c < 8 ∧ s.cnOn n = true ∧ s.get (uCn n) cn_CNERR_TEC ≤ 247) ∧
    (let b := base
     let n : Nat := 3
     let s : State := (let b := en [] b; let b := (b.set uSys sys_MODESTAT_MODE 4).set (uStage 0) trac_TCFG_MACH 0; { ((b).set (uCn n) cn_CNSTAT_STATE 4) with cans := [(n, {  })], flips := [], uncorr := [] })
     s.serves (uCn n) 0x50 ∧ n < 4 ∧ s.cnState n = 4)) ∧
    ((let b := base
     let n : Nat := 3
     let s : State := (let b := en [] b; let b := (b.set uSys sys_MODESTAT_MODE 4).set (uStage 0) trac_TCFG_MACH 0; { ((b).set (uCn n) cn_CNSTAT_STATE 5) with cans := [(n, {  })], flips := [], uncorr := [] })
     n < 4 ∧ s.cnState n = 5) ∧
    (let b := base
     let n : Nat := 3
     let s : State := (let b := en [] b; let b := (b.set uSys sys_MODESTAT_MODE 4).set (uStage 0) trac_TCFG_MACH 0; { ((b.set (uCn n) cn_CNERR_TEC 5 |>.set (uCn n) cn_CNERR_REC 127).set (uCn n) cn_CNSTAT_STATE 1) with cans := [(n, {  })], flips := [], uncorr := [] })
     n < 4 ∧ s.cnState n = 1 ∧ s.get (uCn n) cn_CNERR_TEC ≤ 127 ∧ s.get (uCn n) cn_CNERR_REC ≤ 127) ∧
    (let b := base
     let n : Nat := 3
     let s : State := (let b := en [] b; let b := (b.set uSys sys_MODESTAT_MODE 4).set (uStage 0) trac_TCFG_MACH 0; { ((b.set (uCn n) cn_CNCFG_PXE 1).set (uCn n) cn_CNSTAT_STATE 2) with cans := [(n, {  })], flips := [], uncorr := [] })
     n < 4 ∧ s.cnOn n = true ∧ s.get (uCn n) cn_CNCFG_PXE = 1)) :=
  ⟨by decide +kernel, by decide +kernel, by decide +kernel⟩

theorem witness_pair_claim_and_drill :
    ((let b := base
     let s : State := (let b := en [] b; let b := (b.set uSys sys_MODESTAT_MODE 3).set (uStage 0) trac_TCFG_MACH 0; { ((b.set uRly rly_RLSTAT_UP 1).set uRly rly_RLSTAT_PRXOK 1) with pair := { heard := false }, trans := none })
     s.serves uSrv 0x48 ∧ s.inMode .ready = true ∧ s.get uRly rly_RLSTAT_UP = 1 ∧ s.get uRly rly_RLSTAT_PRXOK = 1 ∧ s.pair.heard = false) ∧
    (let b := base
     let s : State := (let b := en [] b; let b := (b.set uSys sys_MODESTAT_MODE 4).set (uStage 0) trac_TCFG_MACH 0; b)
     s.serves uSrv 0x48 ∧ s.inMode .ready = false) ∧
    (let b := base
     let s : State := (let b := en [] b; let b := (b.set uSys sys_MODESTAT_MODE 4).set (uStage 0) trac_TCFG_MACH 0; { ((b.set uRly rly_RLSTAT_UP 1).set uRly rly_RLSTAT_PRXOK 1 |>.set uSrv srv_SVSTAT_TOKEN 1 |>.set uSrv srv_SVCMD_DRILL 0 |>.set (uStage 0) trac_TSPD_SPEED 7 |>.set (uStage 1) trac_TSPD_SPEED 0 |>.set uSrv srv_SVCFG_DRSPD 100) with pair := { heard := true, msg := 0x15030000 }, trans := none })
     s.serves uSrv 0x48 ∧ s.get uSrv srv_SVCMD_DRILL = 0 ∧ s.inMode .run = true ∧ s.get uSrv srv_SVSTAT_TOKEN = 1 ∧ s.trans = none
    ∧ s.get uRly rly_RLSTAT_UP = 1 ∧ s.get uRly rly_RLSTAT_PRXOK = 1 ∧ s.pair.heard = true ∧ bits s.pair.msg 24 4 = 5 ∧ s.pair.msg.getLsbD 17
    = true ∧ s.pair.msg.getLsbD 16 = true ∧ (∀ st ∈ List.range 2, (s.geti (uStage st) trac_TSPD_SPEED).natAbs ≤ s.get uSrv srv_SVCFG_DRSPD))) ∧
    ((let b := base
     let t : Nat := 2000000000
     let s : State := (let b := en [] b; let b := (b.set uSys sys_MODESTAT_MODE 4).set (uStage 0) trac_TCFG_MACH 0; { (b.set uSrv srv_SVSTAT_TOKEN 1) with pair := { drill := 0 }, trans := none })
     s.inMode .run = true ∧ s.get uSrv srv_SVSTAT_TOKEN = 1 ∧ s.pair.drill = 0 ∧ s.pair.release = none ∧ (s.at t).due (s.pair.tookAt
    + ms (atLeast1 (s.get uSrv srv_SVCFG_DRTIME))) = true) ∧
    (let b := base
     let s : State := (let b := en [] b; let b := (b.set uSys sys_MODESTAT_MODE 4).set (uStage 0) trac_TCFG_MACH 0; { ((b.set uSrv srv_SVSTAT_TOKEN 1).setW (uSrv.addr 0x20) (BitVec.ofNat 32 (b.tick % 2))) with pair := { drill := 0 }, trans := none })
     s.inMode .run = true ∧ s.get uSrv srv_SVSTAT_TOKEN = 1 ∧ s.pair.drill = 0 ∧ s.pair.release = none ∧ s.sel uSrv 1 = 0)) :=
  ⟨by decide +kernel, by decide +kernel⟩

theorem witness_rally_link_and_messages :
    ((let b := base
     let lat : Nat := 640
     let s : State := (let b := en [768, 770] b; let b := (b.set uSys sys_MODESTAT_MODE ([3,4,5,6,7].toArray[b.tick % 5]!)).set (uStage 0) trac_TCFG_MACH 0; { (b.set uRly rly_RLCFG_EN 1) with pair := { silent := true }, trans := none })
     lat < 65536 ∧ s.get uRly rly_RLCFG_EN = 1 ∧ s.enabled uRly = true ∧ s.runsMode = true) ∧
    (let b := base
     let t : Nat := 9
     let s : State := (let b := en [] b; let b := (b.set uSys sys_MODESTAT_MODE ([3,4,5,6,7].toArray[b.tick % 5]!)).set (uStage 0) trac_TCFG_MACH 0; { (b.set uRly rly_RLSTAT_TRAINED 1) with pair := { silent := true }, trans := none })
     let w : List Word := [(s.at t).msgWord 1, BitVec.ofNat 32 (s.get uSrv srv_SVSEQ_SEQ), BitVec.ofNat 32 (s.at t).stamp]
     s.get uRly rly_RLSTAT_TRAINED = 1 ∧ (s.at t).due s.pair.hbAt = true ∧ w = [(s.at t).msgWord 1, BitVec.ofNat 32 (s.get uSrv srv_SVSEQ_SEQ),
    BitVec.ofNat 32 (s.at t).stamp]) ∧
    (let b := base
     let w0 : Word := 0x13290000#32
     let w1 : Word := 0x77#32
     let w2 : Word := 0x5000#32
     let w3 : Word := crc32 ([w0, w1, w2].flatMap wordBytes)
     let s : State := (let b := en [768, 770] b; let b := (b.set uSys sys_MODESTAT_MODE 4).set (uStage 0) trac_TCFG_MACH 0; { (((b.set uRly rly_RLSTAT_TRAINED 1).set uRly rly_RLCFG_EN 1 |>.set uSrv srv_SVSTAT_TOKEN (b.tick % 2))) with pair := { silent := true }, trans := none })
     s.hears = true ∧ goodMsg 1 w0 w1 w2 w3 = true ∧ s.inMode .shadow = false)) ∧
    ((let b := base
     let w0 : Word := 0x13290000#32
     let w1 : Word := 0x77#32
     let w2 : Word := 0x5000#32
     let w3 : Word := 5#32
     let s : State := (let b := en [768, 770] b; let b := (b.set uSys sys_MODESTAT_MODE 4).set (uStage 0) trac_TCFG_MACH 0; { (((b.set uRly rly_RLSTAT_TRAINED 1).set uRly rly_RLCFG_EN 1 |>.set uSrv srv_SVSTAT_TOKEN (b.tick % 2))) with pair := { silent := true }, trans := none })
     s.hears = true ∧ goodMsg 1 w0 w1 w2 w3 = false) ∧
    (let b := base
     let w0 : Word := 0x23830000#32
     let w1 : Word := 0xFFFFFFF0#32
     let w2 : Word := 0x5000#32
     let w3 : Word := crc32 ([w0, w1, w2].flatMap wordBytes)
     let s : State := (let b := en [768, 770] b; let b := (b.set uSys sys_MODESTAT_MODE 3).set (uStage 0) trac_TCFG_MACH 0; { (((b.set uRly rly_RLSTAT_TRAINED 1).set uRly rly_RLCFG_EN 1 |>.set uSrv srv_SVSTAT_TOKEN (b.tick % 2)).set uSrv srv_SVSTAT_TOKEN 1 |>.set uSrv srv_SVSEQ_SEQ 5) with pair := { silent := true }, trans := none })
     s.hears = true ∧ goodMsg 2 w0 w1 w2 w3 = true ∧ s.inMode .ready = true ∧ s.get uSrv srv_SVSTAT_TOKEN = 1 ∧ s.get uSrv srv_SVSEQ_SEQ < w1.toNat) ∧
    (let b := base
     let t : Nat := 900000000
     let l : Nat := 7
     let s : State := (let b := en [] b; let b := (b.set uSys sys_MODESTAT_MODE 4).set (uStage 0) trac_TCFG_MACH 0; { (((b.set uRly rly_RLSTAT_TRAINED 1).set uRly rly_RLCFG_EN 1 |>.set uSrv srv_SVSTAT_TOKEN (b.tick % 2))) with pair := { lastWord := 7, heard := true }, trans := none })
     s.runsMode = true ∧ s.get uRly rly_RLCFG_EN = 1 ∧ s.pair.silent = false ∧ s.pair.heard = true ∧ s.pair.lastWord = l ∧ s.inMode .shadow
    = false ∧ (s.at t).due (l + s.get uRly rly_RLHB_HBTO) = true)) ∧
    ((let b := base
     let t : Nat := 9000
     let st : Nat := 1
     let delay : Nat := 700
     let s : State := (let b := en [548, 516] b; let b := (b.set uSys sys_MODESTAT_MODE 5).set (uStage 0) trac_TCFG_MACH 0; { ((({ b with trac := [(st, { period := 25000, len := 25000, valley := 100 })] } : State).set uRly rly_RLSTAT_TRAINED 1).set uRly rly_RLCFG_EN 1 |>.set uSrv srv_SVSTAT_TOKEN (b.tick % 2) |>.set (uStage st) trac_TCAR_PERIOD 25000 |>.set (uStage st) ob_OCAR_PERIOD 25000) with pair := { silent := false }, trans := none })
     let v : Nat := (s.at t).tick - (delay + s.get uRly rly_RLLAT_LAT + 16) / 32
     st < 9 ∧ st ≠ 2 ∧ s.lead st = st ∧ v = (s.at t).tick - (delay + s.get uRly rly_RLLAT_LAT + 16) / 32 ∧ 2 < ((v : Int) - (s.tr st).valley) % ((s.tr st).len : Int)
    ∧ ((v : Int) - (s.tr st).valley) % ((s.tr st).len : Int) + 2 < (s.tr st).len ∧ s.inMode .shadow = true ∧ s.get uRly rly_RLSTAT_TRAINED
    = 1 ∧ s.carrierRuns st = true) ∧
    (let b := base
     let w : List Word := (let l : List Word := [0xA7010007, 1, 77, 5, 3, 0]; l ++ [crc32 (l.flatMap wordBytes)])
     let s : State := (let b := en [768, 770] b; let b := (b.set uSys sys_MODESTAT_MODE 5).set (uStage 0) trac_TCFG_MACH 0; { (((b.set uRly rly_RLSTAT_TRAINED 1).set uRly rly_RLCFG_EN 1 |>.set uSrv srv_SVSTAT_TOKEN (b.tick % 2))) with pair := { resync := false }, trans := none })
     s.inMode .shadow = true ∧ s.get uRly rly_RLSTAT_TRAINED = 1 ∧ s.enabled uRly = true ∧ s.pair.take = none ∧ s.pair.resync = false
    ∧ (7 ≤ w.length ∧ w.getD (w.length - 1) 0 = crc32 ((w.take (w.length - 1)).flatMap wordBytes) ∧ w.getD 0 0 = BitVec.ofNat 32 (0xA7010000
    + w.length % 65536)) ∧ unsigned 32 ((w.getD 1 0).toNat - (s.get uRly rly_RLFRNUM_NUM : Int)) = 1) ∧
    (let b := base
     let w : List Word := [1, 2, 3, 4, 5, 6, 7]
     let s : State := (let b := en [768, 770] b; let b := (b.set uSys sys_MODESTAT_MODE 5).set (uStage 0) trac_TCFG_MACH 0; { (((b.set uRly rly_RLSTAT_TRAINED 1).set uRly rly_RLCFG_EN 1 |>.set uSrv srv_SVSTAT_TOKEN (b.tick % 2))) with pair := { resync := false }, trans := none })
     s.inMode .shadow = true ∧ s.get uRly rly_RLSTAT_TRAINED = 1 ∧ s.enabled uRly = true ∧ s.pair.take = none ∧ (¬ (7 ≤ w.length ∧ w.getD (w.length - 1) 0
    = crc32 ((w.take (w.length - 1)).flatMap wordBytes) ∧ w.getD 0 0 = BitVec.ofNat 32 (0xA7010000 + w.length % 65536))))) :=
  ⟨by decide +kernel, by decide +kernel, by decide +kernel⟩

theorem witness_takeover_and_handover :
    ((let b := base
     let t : Nat := 9000
     let k : Nat × Nat × Nat := (1, 70, 50)
     let s : State := (let b := en [] b; let b := (b.set uSys sys_MODESTAT_MODE 5).set (uStage 0) trac_TCFG_MACH 0; { (b) with pair := { take := some k }, trans := none })
     s.pair.take = some k ∧ (s.at t).due (k.2.1 + 3960) = true) ∧
    (let b := base
     let t : Nat := 9000
     let k : Nat × Nat × Nat := (1, 70, 50)
     let s : State := (let b := en [] b; let b := (b.set uSys sys_MODESTAT_MODE 5).set (uStage 0) trac_TCFG_MACH 0; { ((({ b with trac := [(0, { next := some (b.tick + 4100), nextPeak := false })] } : State).set uSrv srv_SVSTAT_SERVEI 0).set uSrv srv_SVCFG_PAIREN 1) with pair := { take := some k, guardOver := true }, trans := none })
     s.pair.take = some k ∧ (k.1 = 1 ∨ k.1 = 2) ∧ s.inMode .shadow = true ∧ s.pair.guardOver = true ∧ (s.at t).takeNow (k.2.1 + 3960)
    = true ∧ s.pair.units = [] ∧ s.pair.drill = 0 ∧ s.get uSrv srv_SVSTAT_SERVEI = 0 ∧ s.get uSrv srv_SVCFG_PAIREN = 1) ∧
    (let b := base
     let t : Nat := 9000
     let w0 : Word := 0x34830000#32
     let w1 : Word := 0x77#32
     let w2 : Word := 0x5000#32
     let w3 : Word := crc32 ([w0, w1, w2].flatMap wordBytes)
     let s : State := (let b := en [768, 770] b; let b := (b.set uSys sys_MODESTAT_MODE 5).set (uStage 0) trac_TCFG_MACH 0; { (((b.set uRly rly_RLSTAT_TRAINED 1).set uRly rly_RLCFG_EN 1 |>.set uSrv srv_SVSTAT_TOKEN (b.tick % 2)).setW (uSrv.addr srv_TAKEOVER_ARM_ARM.off) 15 |>.set uSrv srv_SVSTAT_PRICONF 0 |>.set uSsv ssv_SHCAUSE_CAUSE 0 |>.set uSrv srv_SVSTAT_PRI 1) with pair := { appliedAt := some (max b.tick 250000000) }, trans := none })
     s.hears = true ∧ goodMsg 3 w0 w1 w2 w3 = true ∧ s.inMode .shadow = true ∧ s.pair.take = none ∧ s.armed 3 = true ∧ (s.at t).primed
    = true ∧ s.get uSrv srv_SVSTAT_PRI ≠ bits w0 18 1 ∧ w0.getLsbD 20 = false ∧ s.pair.units = [] ∧ s.pair.offerV = none)) ∧
    ((let b := base
     let t : Nat := 9000
     let v : Nat := 70
     let s : State := (let b := en [] b; let b := (b.set uSys sys_MODESTAT_MODE 4).set (uStage 0) trac_TCFG_MACH 0; { (b) with pair := { offerV := some v }, trans := none })
     s.pair.offerV = some v ∧ s.inMode .run = true ∧ (s.at t).due v = true ∧ s.pair.drill = 0) ∧
    (let b := base
     let v : Nat := 70
     let s : State := (let b := en [] b; let b := (b.set uSys sys_MODESTAT_MODE 4).set (uStage 0) trac_TCFG_MACH 0; { ((b.set uSrv srv_SVSTAT_TOKEN 1).set uSrv srv_SVCFG_PAIREN 1) with pair := { release := some v }, trans := none })
     s.pair.release = some v ∧ s.pair.drill = 0 ∧ s.get uSrv srv_SVCFG_PAIREN = 1) ∧
    (let b := base
     let s : State := (let b := en [] b; let b := (b.set uSys sys_MODESTAT_MODE 4).set (uStage 0) trac_TCFG_MACH 0; { ((b.set uSrv srv_SVSTAT_TOKEN 1).set uSrv srv_SVSTAT_AUTH 1) with pair := { drill := 0 }, trans := none })
     s.pair.release = none ∧ s.inMode .safeHold = false ∧ s.get uSrv srv_SVSTAT_AUTH = 1 ∧ s.get uSrv srv_SVSTAT_TOKEN = 1 ∧ s.pair.cont
    = none)) ∧
    (let b := base
     let t : Nat := 9000
     let v : Nat := 70
     let s : State := (let b := en [] b; let b := (b.set uSys sys_MODESTAT_MODE 4).set (uStage 0) trac_TCFG_MACH 0; { (b.set uSys sys_MODESTAT_TRANS (b.tick % 2)) with pair := { release := some v }, trans := none })
     s.pair.release = some v ∧ s.pair.drill = 0 ∧ (s.at t).due (v + 40) = true) :=
  ⟨by decide +kernel, by decide +kernel, by decide +kernel⟩

theorem witness_contention_and_readback :
    ((let b := base
     let t : Nat := 9000
     let c : Nat := 70
     let s : State := (let b := en [] b; let b := (b.set uSys sys_MODESTAT_MODE 4).set (uStage 0) trac_TCFG_MACH 0; { ((b).set uSrv srv_SVCFG_PAIREN 1 |>.set uSrv srv_SVSTAT_TOKEN 1) with pair := { cont := some c }, trans := none })
     s.pair.cont = some c ∧ (s.at t).due (c + 40) = true) ∧
    (let b := base
     let t : Nat := 9000
     let c : Nat := 70
     let s : State := (let b := en [] b; let b := (b.set uSys sys_MODESTAT_MODE 4).set (uStage 0) trac_TCFG_MACH 0; { ((b.set uSrv srv_SVSTAT_PRI 0).set uSrv srv_SVCFG_PAIREN 1 |>.set uSrv srv_SVSTAT_TOKEN 1) with pair := { cont := some c }, trans := none })
     s.pair.cont = some c ∧ (s.at t).due (c + 40) = true ∧ s.inMode .run = true ∧ s.get uSrv srv_SVCFG_PAIREN = 1 ∧ (s.at t).losesClaim
    = true) ∧
    (let b := base
     let t : Nat := 9000
     let c : Nat := 70
     let s : State := (let b := en [] b; let b := (b.set uSys sys_MODESTAT_MODE 4).set (uStage 0) trac_TCFG_MACH 0; { ((b).set uSrv srv_SVCFG_PAIREN 1 |>.set uSrv srv_SVSTAT_TOKEN 1) with pair := { cont := some c }, trans := none })
     s.pair.cont = some c ∧ (s.at t).due (c + 72) = true)) ∧
    ((let b := base
     let t : Nat := 9000
     let c : Nat := 70
     let s : State := (let b := en [] b; let b := (b.set uSys sys_MODESTAT_MODE 4).set (uStage 0) trac_TCFG_MACH 0; { ((b.set uSrv srv_SVSTAT_PRI 0).set uSrv srv_SVCFG_PAIREN 1 |>.set uSrv srv_SVSTAT_TOKEN 1) with pair := { cont := some c }, trans := none })
     s.pair.cont = some c ∧ (s.at t).due (c + 72) = true ∧ s.inMode .run = true ∧ s.get uSrv srv_SVCFG_PAIREN = 1 ∧ (s.get uSrv srv_SVSTAT_PRI
    = 0 ∨ s.get uSrv srv_SVSTAT_PRICONF = 1)) ∧
    (let b := base
     let t : Nat := 9000
     let c : Nat := 70
     let s : State := (let b := en [] b; let b := (b.set uSys sys_MODESTAT_MODE 4).set (uStage 0) trac_TCFG_MACH 0; { ((b).set uSrv srv_SVCFG_PAIREN 1 |>.set uSrv srv_SVSTAT_TOKEN 1) with pair := { cont := some c }, trans := none })
     s.pair.cont = some c ∧ (s.at t).due (c + 400) = true) ∧
    (let b := base
     let t : Nat := 9000
     let c : Nat := 70
     let s : State := (let b := en [] b; let b := (b.set uSys sys_MODESTAT_MODE 4).set (uStage 0) trac_TCFG_MACH 0; { ((b).set uSrv srv_SVCFG_PAIREN 1 |>.set uSrv srv_SVSTAT_TOKEN 1) with pair := { cont := some c }, trans := none })
     s.pair.cont = some c ∧ (s.at t).due (c + 400) = true ∧ s.inMode .run = true ∧ s.get uSrv srv_SVCFG_PAIREN = 1)) ∧
    (let b := base
     let s : State := (let c := 70; (let b := en [] b; let b := (b.set uSys sys_MODESTAT_MODE 4).set (uStage 0) trac_TCFG_MACH 0; { ((b.setW (uSrv.addr 0x20) (BitVec.ofNat 32 (b.tick % 32 * 8))).set uSrv srv_SVCFG_PAIREN 1 |>.set uSrv srv_SVSTAT_TOKEN 1) with pair := { cont := some c }, trans := none }))
     s.sel uSrv 0 = 0) :=
  ⟨by decide +kernel, by decide +kernel, by decide +kernel⟩

theorem witness_safety_functions_and_sto :
    ((let b := base
     let s : State := (b.set uSsv ssv_SHFIRST_VALID 0)
     s.serves uSsv 0x8C ∧ s.get uSsv ssv_SHFIRST_VALID = 0 ∧ s.stmode = false) ∧
    (let b := base
     let k : Nat := 13
     let s : State := b.set uSsv ssv_SHCAUSE_CAUSE (b.tick % 65536)
     s.serves uSsv 0x8C ∧ k < 16) ∧
    (let b := base
     let x : Bool := true
     let y : Bool := false
     let s : State := { (b.set uSsv ssv_STOCFG_MODE 0).set uSsv ssv_STOSTAT_INT 0 |>.set uSsv ssv_STOSTAT_ACTIVE 0 with stoIn := false }
     s.inD4 = false ∧ s.get uSsv ssv_STOCFG_MODE = 0 ∧ (x && y) = false ∧ s.stoIn = false ∧ s.get uSsv ssv_STOSTAT_INT = 0 ∧ s.get uSsv ssv_STOSTAT_ACTIVE
    = 0)) ∧
    ((let b := base
     let s : State := { (b.set uSsv ssv_STOCFG_MODE 0).set uSsv ssv_STOSTAT_INT 0 |>.set uSsv ssv_STOSTAT_ACTIVE 1 with stoIn := true, stoSoft := true }
     s.inD4 = false ∧ s.get uSsv ssv_STOCFG_MODE = 0 ∧ s.stoIn = true ∧ s.get uSsv ssv_STOSTAT_INT = 0 ∧ s.get uSsv ssv_STOSTAT_ACTIVE
    = 1) ∧
    (let b := base
     let t : Nat := 3000
     let s : State := { b with stoSoft := true }
     (s.at t).dueOff (s.stoSoftAt + s.stoSoftTime) = true) ∧
    (let b := base
     let t : Nat := 2000000000
     let s : State := { (b.set uSsv ssv_STOSTAT_DISC 1) with stoDiff := 7 }
     s.get uSsv ssv_STOSTAT_DISC = 1 ∧ (s.at t).due (s.stoDiff + ms (atLeast1 (s.get uSsv ssv_STOCFG_DISC))) = true)) ∧
    ((let b := base
     let t : Nat := 20000
     let s : State := { (let b := en [784, 786] b; let b := (b.set uSys sys_MODESTAT_MODE ([3,4,5,6,7].toArray[b.tick % 5]!)).set (uStage 0) trac_TCFG_MACH 0; (b.set uSfk sfk_SPDSRC_SIGA 33).setW (sigAddr 33) 0xFFFFF000 |>.set uSfk sfk_SPDMUL_MULA (b.tick % 5)) with badParity := [] }
     s.sfkRuns = true ∧ s.locked = true ∧ (s.at t).tick % 20000 = 0 ∧ s.sfk.sampled ≠ some (s.at t).tick ∧ s.badParity = []) ∧
    (let b := base
     let t : Nat := 80000
     let s : State := { (let b := en [784, 786] b; let b := (b.set uSys sys_MODESTAT_MODE ([3,4,5,6,7].toArray[b.tick % 5]!)).set (uStage 0) trac_TCFG_MACH 0; b) with sfk := { b.sfk with vs := [100, 200, 3000], sampled := some t, evaluated := none } }
     let m : Nat := clamp 1 64 (s.get uSfk sfk_SFCFG_M)
     s.sfkRuns = true ∧ s.locked = true ∧ (s.at t).tick % 80000 = 0 ∧ s.sfk.sampled = some (s.at t).tick ∧ s.sfk.evaluated ≠ some (s.at t).tick
    ∧ clamp 1 64 (s.get uSfk sfk_SFCFG_M) = m) ∧
    (let b := base
     let w : Word := 0xFFFC0003#32
     let s : State := (b.set uSys sys_MODESTAT_MODE 1)
     w.extractLsb' 16 16 = ~~~ (w.extractLsb' 0 16) ∧ bits w 8 8 = 0 ∧ bits w 3 1 = 0 ∧ s.calm ∧ s.unheld uSfk ∧ s.idlePort 1 ∧ s.sfkRuns
    = false)) ∧
    ((let b := base
     let w : Word := 0xFEFF0100#32
     let s : State := b
     (w.extractLsb' 16 16 ≠ ~~~ (w.extractLsb' 0 16) ∨ bits w 8 8 ≠ 0 ∨ bits w 3 1 ≠ 0) ∧ s.calm ∧ s.unheld uSfk ∧ s.idlePort 1) ∧
    (let b := base
     let t : Nat := 900000
     let k : Nat := 3
     let s : State := { b.set uSfk sfk_SFSTAT_DECRUN 1 with sfk := { b.sfk with decTo := k, decEnd := 7 } }
     k ≤ 4 ∧ s.get uSfk sfk_SFSTAT_DECRUN = 1 ∧ s.sfk.decTo = k ∧ (s.at t).due s.sfk.decEnd = true) ∧
    (let b := base
     let t : Nat := 2000000000
     let s : State := { (b.set uSfk sfk_SFSTAT_SS1PH 1).set uSfk sfk_SS1T_TIME 5 with sfk := { b.sfk with ss1At := 7 } }
     s.get uSfk sfk_SFSTAT_SS1PH = 1 ∧ (s.at t).due (s.sfk.ss1At + ms (atLeast1 (s.get uSfk sfk_SS1T_TIME))) = true)) :=
  ⟨by decide +kernel, by decide +kernel, by decide +kernel, by decide +kernel⟩

theorem witness_supply_and_timebase_monitors :
    ((let b := base
     let mv : Nat := 861
     let s : State := { b with vcore := 700 + b.tick % 161 }
     s.boot = .done ∧ 700 ≤ s.vcore ∧ s.vcore ≤ 860 ∧ (860 < mv ∨ mv < 700)) ∧
    (let b := base
     let mv : Nat := 700
     let s : State := { b with vcore := 600 + b.tick % 361 }
     s.boot = .done ∧ 700 ≤ mv ∧ mv ≤ 860) ∧
    (let b := base
     let t : Nat := 4000
     let s : State := (let b := en [] b; let b := (b.set uSys sys_MODESTAT_MODE ([3,4,5,6,7].toArray[b.tick % 5]!)).set (uStage 0) trac_TCFG_MACH 0; b)
     s.locked = true ∧ (s.at t).tick % 4000 = 0)) ∧
    ((let b := base
     let i : Nat := 4
     let s : State := b
     i < 5 ∧ s.boot = .done) ∧
    (let i : Nat := 4
     i < 5) ∧
    (let b := base
     let t : Nat := 40000
     let n : Nat := 800
     let s : State := b.set uDgk dgk_DGCFG_TBTOL 20
     n < 1200 ∧ (s.at t).due (s.tbWin + 40000) = true ∧ ((n : Int) - 800).natAbs * 1000 ≤ 800 * s.get uDgk dgk_DGCFG_TBTOL)) ∧
    ((let b := base
     let t : Nat := 9
     let n : Nat := 1300
     let s : State := { (b.set uDgk dgk_DGCFG_TBTOL 20).set uDgk dgk_DGCFG_TBN 3 with tbBad := b.tick % 3 }
     (800 * s.get uDgk dgk_DGCFG_TBTOL < ((n : Int) - 800).natAbs * 1000 ∨ 1200 ≤ n) ∧ (1200 ≤ n ∨ (s.at t).due (s.tbWin + 40000) = true)) ∧
    (let b := base
     let t : Nat := 2000000000
     let k : Nat := 2
     let s : State := { (b.set uDgk dgk_DGSTAT_LOSS 6).set uDgk dgk_DGLT_PAIR 3 with lossAt := [] }
     1 ≤ k ∧ k < 3 ∧ (s.get uDgk dgk_DGSTAT_LOSS).testBit k = true ∧ s.get uDgk dgk_DGLT_PAIR ≠ 0 ∧ ((s.at t).due (sget (fun _ => 0) s.lossAt k
    + ms (s.get uDgk dgk_DGLT_PAIR)) = true)) ∧
    (let b := base
     let t : Nat := 90000000000
     let s : State := { (b.set uDgk dgk_DGSTAT_LOSS 1).set uDgk dgk_DGLT_LANE 3 with lossAt := [] }
     (s.get uDgk dgk_DGSTAT_LOSS).testBit 0 = true ∧ s.get uDgk dgk_DGLT_LANE ≠ 0 ∧ ((s.at t).due (sget (fun _ => 0) s.lossAt 0 + ms (60000 * s.get uDgk dgk_DGLT_LANE))
    = true))) :=
  ⟨by decide +kernel, by decide +kernel, by decide +kernel⟩

theorem witness_safe_outputs :
    ((let b := base
     let k : Nat := 7
     let s : State := (let b := en [] b; let b := (b.set uSys sys_MODESTAT_MODE ([3,4,5,6,7].toArray[b.tick % 5]!)).set (uStage 0) trac_TCFG_MACH 0; { (b) with souts := [(k, { bad := 1 })] })
     k < 8 ∧ s.serves (uSo k) 0x44) ∧
    (let b := base
     let t : Nat := 9
     let k : Nat := 7
     let s : State := (let b := en [] b; let b := (b.set uSys sys_MODESTAT_MODE ([3,4,5,6,7].toArray[b.tick % 5]!)).set (uStage 0) trac_TCFG_MACH 0; { (b) with souts := [(k, { bad := b.tick % 7 })] })
     k < 8 ∧ (s.at t).soSampleDue k = true ∧ (s.so k).phase = 0 ∧ (s.enabled (uSo k) = false ∨ s.get (uSo k) so_SOSTAT_FLT = 1 ∨ (s.so k).bad < 7)) ∧
    (let b := base
     let k : Nat := 7
     let s : State := (let b := en [784, 787, 795] b; let b := (b.set uSys sys_MODESTAT_MODE ([3,4,5,6,7].toArray[b.tick % 5]!)).set (uStage 0) trac_TCFG_MACH 0; { ((b.set (uSo k) so_SOSTAT_FLT 0).setW ((uSo k).addr 0x20) 0) with souts := [(k, { bad := 1 })] })
     k < 8 ∧ s.enabled (uSo k) = true ∧ s.get (uSo k) so_SOSTAT_FLT = 0 ∧ s.sel (uSo k) 0 = 0)) ∧
    ((let b := base
     let t : Nat := 9000000
     let k : Nat := 7
     let p : Nat := 7
     let s : State := (let b := en [] b; let b := (b.set uSys sys_MODESTAT_MODE ([3,4,5,6,7].toArray[b.tick % 5]!)).set (uStage 0) trac_TCFG_MACH 0; { (b) with souts := [(k, { phase := 2, testAt := 7 })] })
     k < 8 ∧ (s.so k).phase = 2 ∧ (s.so k).testAt = p ∧ (s.at t).due (p + 4000000) = true) ∧
    (let b := base
     let t : Nat := 9000000
     let k : Nat := 7
     let p : Nat := 7
     let s : State := (let b := en [] b; let b := (b.set uSys sys_MODESTAT_MODE ([3,4,5,6,7].toArray[b.tick % 5]!)).set (uStage 0) trac_TCFG_MACH 0; { ((b.set (uSo k) so_SOSTAT_RBH 1).setW ((uSo k).addr 0x20) 0) with souts := [(k, { phase := 1, testAt := 7 })] })
     k < 8 ∧ (s.so k).phase = 1 ∧ (s.so k).testAt = p ∧ (s.at t).due (p + us (clamp 40 300 (s.get uSos sos_SOTCFG_TPW))) = true ∧ s.get (uSo k) so_SOSTAT_RBH
    = 1 ∧ s.sel (uSo k) 0 = 0) ∧
    (let b := base
     let s : State := (let b := en [] b; let b := (b.set uSys sys_MODESTAT_MODE 5).set (uStage 0) trac_TCFG_MACH 0; b.set uSos sos_SOTCMD_TESTALL 0)
     s.serves uSos 0x84 ∧ s.get uSos sos_SOTCMD_TESTALL = 0 ∧ s.inMode .ready = false ∧ s.inMode .run = false)) ∧
    ((let b := base
     let k : Nat := 7
     let s : State := (let b := en [] b; let b := (b.set uSys sys_MODESTAT_MODE [3,4].toArray[b.tick % 2]!).set (uStage 0) trac_TCFG_MACH 0; { (forN 8 (fun j s => (s.set (uSo j) so_SOSTAT_CMD (if j < k then 0 else 1)).set (uSo j) so_SOCFG_TESTEN (if j = k then 1 else b.tick / 8 % 2)) b).set uSos sos_SOTCMD_TESTALL 0 with souts := [] })
     s.serves uSos 0x84 ∧ k < 8 ∧ s.get uSos sos_SOTCMD_TESTALL = 0 ∧ (s.inMode .ready = true ∨ s.inMode .run = true) ∧ (∀ j ∈ List.range 8,
    (s.so j).phase = 0 ∧ (s.so j).due = false ∧ (s.so j).batch = false) ∧ s.soEligible k = true ∧ (∀ j ∈ List.range k, s.soEligible j
    = false)) ∧
    (let b := base
     let s : State := (let b := en [] b; let b := (b.set uSys sys_MODESTAT_MODE [3,4].toArray[b.tick % 2]!).set (uStage 0) trac_TCFG_MACH 0; { (forN 8 (fun j s => s.set (uSo j) so_SOSTAT_CMD 0) b).set uSos sos_SOTCMD_TESTALL 0 with souts := [] })
     s.serves uSos 0x84 ∧ s.get uSos sos_SOTCMD_TESTALL = 0 ∧ (s.inMode .ready = true ∨ s.inMode .run = true) ∧ (∀ j ∈ List.range 8,
    (s.so j).phase = 0 ∧ (s.so j).batch = false ∧ s.soEligible j = false))) :=
  ⟨by decide +kernel, by decide +kernel, by decide +kernel⟩

theorem witness_thermal_instants :
    (let b := base
     let t : Nat := 4000
     let k : Nat := 23
     let s : State := { (let b := en [800, 801] b; let b := (b.set uSys sys_MODESTAT_MODE ([3,4,5,6,7].toArray[b.tick % 5]!)).set (uStage 0) trac_TCFG_MACH 0; ((b.set uLoss (loss_SLCFG_EN k) 1).set uLoss (loss_SLCFG_STAGE k) 2 |>.set uLoss (loss_SLCFG_ISIG k) 33 |>.set uLoss (loss_SLSIG_VSIG k) 34).setW (sigAddr 33) 0xFFFFFF00 |>.setW (sigAddr 34) (BitVec.ofNat 32 (b.tick % 30000))) with badParity := [], failedCheck := [], slots := [(k, { a1 := 5, a2 := 77, a3 := -9 })] }
     k < 24 ∧ s.lossWorks = true ∧ s.get uLoss (loss_SLCFG_EN k) = 1 ∧ s.badParity = [] ∧ (s.at t).lossTick (s.get uLoss (loss_SLCFG_STAGE k))
    = true) ∧
    (let b := base
     let t : Nat := 9
     let k : Nat := 23
     let dl : Nat := 4000
     let s : State := { (let b := en [800, 801] b; let b := (b.set uSys sys_MODESTAT_MODE ([3,4,5,6,7].toArray[b.tick % 5]!)).set (uStage 0) trac_TCFG_MACH 0; ((forN 24 (fun j s => s.set uLoss (loss_SLCFG_EN j) (if j = k then 1 else 0)) b).set uLoss (loss_SLSIG_NTCSIG k) 33).setW (sigAddr 33) 0xFFFFFF00 |>.set uLoss (loss_SLSCALE_IFS k) 300 |>.set uLoss (loss_SLSCALE_VFS k) 500 |>.set uLoss (loss_SLSW0_IREF k) 30 |>.set uLoss (loss_SLSW1_VREF k) 40) with badParity := [], failedCheck := [], slots := [(k, { a1 := 5000, a2 := 770000, a3 := 9 })], thermDue := some (7, dl) }
     k < 24 ∧ s.lossWorks = true ∧ s.runsMode = true ∧ s.slotsOn = [k] ∧ s.thermDue = some (7, dl) ∧ dl ≠ 0 ∧ (s.at t).due 7 = true
    ∧ s.badParity = []) :=
  by decide +kernel

theorem witness_step_runs_front :
    (∃ (c : Instr) (rest : List Instr) (s : State), s.pending = c :: rest) :=
  ⟨.nreset 5, [.pllLock 7], { State.reset with pending := [.nreset 5, .pllLock 7] }, rfl⟩

theorem witness_empty_queue_idles :
    (∃ s : State, s.pending = []) :=
  ⟨State.reset, rfl⟩

theorem witness_commands_go_on :
    (∃ s : State, s.testAccess = false) :=
  ⟨State.reset, by decide⟩

theorem witness_commands_keep_queue :
    (∃ (c : Instr) (s s' : State), exec c s = .next s') :=
  ⟨.nreset 5, State.reset, _, rfl⟩

theorem witness_memory_frame :
    ((∃ (c : Instr) (s s' : State), storesNothing c = true ∧ exec c s = .next s') ∧ (∃ (c : Instr) (s s' : State), storesAfterReset c = true ∧ (∀ u ∈ allUnits, s.on u hdr_UCTL_URST = false) ∧ s.idlePort 0 ∧ s.idlePort 1 ∧ exec c s = .next s')) :=
  ⟨⟨.nreset 5, State.reset, _, rfl, rfl⟩, ⟨.zarm 5 0, State.reset, _, rfl, by decide +kernel, rfl, rfl, rfl⟩⟩

theorem witness_step_keeps_inv :
    (∃ s s' : State, s.Inv ∧ step s = .next s') :=
  ⟨State.reset, State.reset, ⟨by decide, by decide⟩, rfl⟩

theorem witness_reset_values :
    (∃ a, a ≠ uSys.addr sys_MODESTAT_MODE.off ∧ a ≠ uSys.addr sys_RSTSTAT_CAUSE.off) :=
  ⟨0, by decide⟩

end Sys2Proof.Tests
end

section
/-!
PROOF. A host's write that is served as it stands, and the clear of the margin gauge (R65).
-/

namespace Sys2Proof.Machine

/-- A field fits its word where the bits it ends below are counted out: `rfl` closes the premise for a field of the map. -/
theorem Fld.fits_of_ble {f : Fld} (h : (f.lo + f.w).ble 32 = true) : f.fits := Nat.le_of_ble_eq_true h

/-! ## What the time of a command leaves alone -/

@[simp] theorem State.at_mode (s : State) (t : Nat) : (s.at t).mode = s.mode := by simp [State.mode]

@[simp] theorem State.at_inMode (s : State) (t : Nat) (m : Mode) : (s.at t).inMode m = s.inMode m := by
  simp [State.inMode]

@[simp] theorem State.at_served (s : State) (t : Nat) (x : Target) : (s.at t).served x = s.served x := by
  simp [State.served]

/-! ## A host's write of one register -/

/-- A fold whose rounds leave a state as it is. -/
theorem forL_id {α : Type} {f : α → State → State} {s : State} (l : List α) (h : ∀ x ∈ l, f x s = s) :
    forL l f s = s := by
  induction l with
  | nil => rfl
  | cons x l ih =>
    have htail : forL l f s = s := ih fun y hy => h y (List.mem_cons_of_mem _ hy)
    simpa [forL, h x List.mem_cons_self] using htail

theorem State.resetEnd_idle {s : State} {u : Unit} (h : s.on u hdr_UCTL_URST = false) : s.resetEnd u = s := by
  simp [State.resetEnd, h]

theorem State.awaitReset_unheld {s : State} {u : Unit} (h : s.unheld u) : s.awaitReset u = s :=
  forL_id _ fun v hv => State.resetEnd_idle (h v (List.mem_reverse.mp hv))

/-- A write that is served as it stands takes its effect at once (R95). -/
theorem State.hostRow_serves {s : State} {u : Unit} {o : Nat} (h : s.serves u o) (t : Nat) (f : State → State) :
    (s.at t).hostRow u o f = .next (f (s.at t)) := by
  obtain ⟨hboot, hserved, hunheld⟩ := h
  have hwait : (s.at t).awaitReset u = s.at t := State.awaitReset_unheld fun v hv => by simpa using hunheld v hv
  simp [State.hostRow, hboot, hserved, hwait]

/-! ## The margin gauge -/

theorem exec_marginGaugeClear {s : State} {n : Nat} (h : s.serves (uLane n) 0x10C) (hn : n < 9) (t : Nat) :
    exec (.marginGaugeClear t n) s = .next ((s.at t).gaugeClear n) := by
  rw [← State.hostRow_serves h t fun s => s.gaugeClear n]
  simp [exec, execMarginGaugeClear, Nat.mod_eq_of_lt hn]

theorem State.gaugeClear_min (s : State) (n : Nat) : (s.gaugeClear n).get (uLane n) ln_MGMIN_TICKS = 0x0FFFFFFF := by
  have hne : (uLane n).addr ln_MGMIN_TICKS.off ≠ (uLane n).addr ln_MGPOD_POD.off :=
    Unit.addr_ne (by decide) (by decide) (.inr (by decide))
  rw [State.gaugeClear, State.get_set_addr _ _ _ _ _ _ hne, State.get_set_same _ _ _ _ (Fld.fits_of_ble rfl)]
  rfl

theorem State.gaugeClear_pod (s : State) (n : Nat) : (s.gaugeClear n).get (uLane n) ln_MGPOD_POD = 0 :=
  State.get_set_same _ _ _ _ (Fld.fits_of_ble rfl)

theorem State.gaugeClear_getW (s : State) {n a : Nat} (h0 : a ≠ (uLane n).addr 0x100) (h4 : a ≠ (uLane n).addr 0x104) :
    (s.gaugeClear n).getW a = s.getW a := by
  rw [State.gaugeClear, State.getW_set_addr _ _ _ _ h4, State.getW_set_addr _ _ _ _ h0]

theorem State.gaugeClear_mem (s : State) (n : Nat) : (s.gaugeClear n).mem = s.mem := by simp [State.gaugeClear]

end Sys2Proof.Machine

open Sys2Proof Sys2Proof.Machine

/-- Settles O13: the two gauge registers are the only words that the clear writes. -/
theorem marginGaugeClearStated : Obligations.MarginGaugeClearStated := by
  unfold Obligations.MarginGaugeClearStated
  intro t n s hserves hn
  refine ⟨_, exec_marginGaugeClear hserves hn t, State.gaugeClear_min _ n, State.gaugeClear_pod _ n, ?_, ?_⟩
  · intro a h0 h4
    rw [State.gaugeClear_getW _ h0 h4, State.at_getW]
  · intro a
    rw [State.byte, State.gaugeClear_mem, State.at_mem, State.byte]

end

section
/-!
PROOF. What a safety reaction leaves of the monitors. Entry to SAFE-HOLD runs through the stages, the converter, the actuators, the safe
outputs, the pair and the lanes (R513, R514). None of them writes what VMON, SSV and DGK show of the supplies and the timebase: there is
one lemma for each operation on the way, and from them SHCAUSE is all that State.safety changes there.
The lemmas rewrite from outside in (`simp ↓`), so that a proof never looks into a state that an operation was applied to.
-/

namespace Sys2Proof.Machine

/-! ## What the monitors show -/

/-- The words in which the monitors show what they find: VMON.VCSTAT, SSV.SHCAUSE and DGK's USTAT, TBMCNT and TBMERR. -/
def monitorWords : List Nat :=
  [uVmon.addr vmon_VCSTAT_OVTRIP.off, uSsv.addr ssv_SHCAUSE_CAUSE.off, uDgk.addr hdr_USTAT_OWNF.off,
    uDgk.addr dgk_TBMCNT_COUNT.off, uDgk.addr dgk_TBMERR_COUNT.off]

/-- Is a word one of them, or DGSTAT, of which the monitors own SUPPLY alone? -/
def monitored (a : Nat) : Bool := (uDgk.addr dgk_DGSTAT_SUPPLY.off :: monitorWords).contains a

theorem mem_of_monitored {a : Nat} (h : monitored a = true) : a ∈ uDgk.addr dgk_DGSTAT_SUPPLY.off :: monitorWords :=
  List.contains_iff_mem.mp h

/-- The filtered VCORE, the supplies out of range, and the words of the monitors. -/
structure Monitors where
  vcore : Nat
  supply : Nat
  words : List Word

/-- What the monitors show in a state. -/
def State.monitors (s : State) : Monitors where
  vcore := s.vcore
  supply := s.get uDgk dgk_DGSTAT_SUPPLY
  words := monitorWords.map s.getW

theorem State.monitors_congr {s s' : State} (hv : s'.vcore = s.vcore)
    (hs : s'.get uDgk dgk_DGSTAT_SUPPLY = s.get uDgk dgk_DGSTAT_SUPPLY)
    (hw : ∀ a ∈ monitorWords, s'.getW a = s.getW a) : s'.monitors = s.monitors := by
  simp only [State.monitors, hv, hs, List.map_inj_left.mpr hw]

theorem State.vcore_of_monitors {s s' : State} (h : s'.monitors = s.monitors) : s'.vcore = s.vcore :=
  congrArg Monitors.vcore h

theorem State.supply_of_monitors {s s' : State} (h : s'.monitors = s.monitors) :
    s'.get uDgk dgk_DGSTAT_SUPPLY = s.get uDgk dgk_DGSTAT_SUPPLY := congrArg Monitors.supply h

theorem State.get_of_monitors {s s' : State} (h : s'.monitors = s.monitors) {u : Unit} {f : Fld}
    (hm : u.addr f.off ∈ monitorWords) : s'.get u f = s.get u f := by
  have hw : s'.getW (u.addr f.off) = s.getW (u.addr f.off) := List.map_inj_left.mp (congrArg Monitors.words h) _ hm
  simp only [State.get, hw]

/-! ## Words that are none of the monitors' -/

theorem monitored_of_page {a : Nat} (h : a / 0x1000 ≠ uVmon.page ∧ a / 0x1000 ≠ uSsv.page ∧ a / 0x1000 ≠ uDgk.page) :
    monitored a = false := by
  obtain ⟨hv, hs, hd⟩ := h
  have hpages : ∀ b ∈ uDgk.addr dgk_DGSTAT_SUPPLY.off :: monitorWords,
      b / 0x1000 = uVmon.page ∨ b / 0x1000 = uSsv.page ∨ b / 0x1000 = uDgk.page := by decide
  refine Bool.eq_false_iff.mpr fun hm => ?_
  exact (hpages a (mem_of_monitored hm)).elim hv fun hp => hp.elim hs hd

theorem monitored_addr {u : Unit} {o : Nat} (hp : u.page ≠ uVmon.page ∧ u.page ≠ uSsv.page ∧ u.page ≠ uDgk.page)
    (ho : o < 0x1000) : monitored (u.addr o) = false := by
  have hpage : u.addr o / 0x1000 = u.page := by simp only [Unit.addr]; omega
  exact monitored_of_page (hpage ▸ hp)

/-- The event word of a unit is none of them. -/
@[simp] theorem monitored_eventWord (u : Unit) : monitored (u.addr 0x10) = false := by
  have hoffs : ∀ b ∈ uDgk.addr dgk_DGSTAT_SUPPLY.off :: monitorWords, b % 0x1000 ≠ 0x10 := by decide
  refine Bool.eq_false_iff.mpr fun hm => ?_
  have hoff := hoffs _ (mem_of_monitored hm)
  simp only [Unit.addr] at hoff
  omega

/-- Signals stand above the pages of the units. -/
theorem monitored_sigAddr (n : Nat) : monitored (sigAddr n) = false := by
  refine monitored_of_page ?_
  simp only [sigAddr, uVmon, uSsv, uDgk, Unit.page]
  omega

theorem positionOf_le (u : Unit) (l : List Unit) : positionOf u l ≤ l.length := by
  induction l with
  | nil => exact Nat.le_refl _
  | cons v l ih =>
    simp only [positionOf, List.length_cons]
    split <;> omega

/-- The words of pending sources stand in the router's page. -/
theorem monitored_pendingWord (u : Unit) : monitored (uRouter.addr (0x100 + 4 * (u.source / 32))) = false := by
  have hle : u.source ≤ allUnits.length := positionOf_le u allUnits
  have hlen : allUnits.length ≤ 512 := by decide +kernel
  exact monitored_addr (by decide) (by omega)

/-! Units that have a number. -/

@[simp] theorem monitored_stage {st o : Nat} (hst : st < 9) (ho : o < 0x1000) : monitored ((uStage st).addr o) = false :=
  monitored_addr (by simp only [Unit.page, uStage, uVmon, uSsv, uDgk]; omega) ho

@[simp] theorem monitored_phase {n o : Nat} (hn : n < 4) (ho : o < 0x1000) : monitored ((uPhase n).addr o) = false :=
  monitored_addr (by simp only [Unit.page, uPhase, uVmon, uSsv, uDgk]; omega) ho

@[simp] theorem monitored_cm {n o : Nat} (hn : n < 3) (ho : o < 0x1000) : monitored ((uCm n).addr o) = false :=
  monitored_addr (by simp only [Unit.page, uCm, uVmon, uSsv, uDgk]; omega) ho

@[simp] theorem monitored_cad {n o : Nat} (hn : n < 16) (ho : o < 0x1000) : monitored ((uCad n).addr o) = false :=
  monitored_addr (by simp only [Unit.page, uCad, uVmon, uSsv, uDgk]; omega) ho

@[simp] theorem monitored_pod {p o : Nat} (hp : p < 128) (ho : o < 0x1000) : monitored ((uPod p).addr o) = false :=
  monitored_addr (by simp only [Unit.page, uPod, uVmon, uSsv, uDgk]; omega) ho

@[simp] theorem monitored_so {k o : Nat} (ho : o < 0x1000) : monitored ((uSo k).addr o) = false :=
  monitored_addr (by simp only [Unit.page, uSo, uVmon, uSsv, uDgk]; omega) ho

@[simp] theorem monitored_lane {n o : Nat} (hn : n < 9) (ho : o < 0x1000) : monitored ((uLane n).addr o) = false :=
  monitored_addr (by simp only [Unit.page, uLane, uVmon, uSsv, uDgk]; omega) ho

@[simp] theorem monitored_cv {n o : Nat} (hn : n < 8) (ho : o < 0x1000) : monitored ((uCv n).addr o) = false :=
  monitored_addr (by simp only [Unit.page, uCv, uVmon, uSsv, uDgk]; omega) ho

@[simp] theorem monitored_cn {n o : Nat} (hn : n < 4) (ho : o < 0x1000) :
    monitored ((⟨.cn, n⟩ : Unit).addr o) = false :=
  monitored_addr (by simp only [Unit.page, uVmon, uSsv, uDgk]; omega) ho

variable (s : State)

/-! ## Words, branches and loops -/

@[simp ↓] theorem State.monitors_setW {a : Nat} (w : Word) (h : monitored a = false) :
    (s.setW a w).monitors = s.monitors := by
  have hne : ∀ b, monitored b = true → b ≠ a := fun b hb hba => by simp [← hba, hb] at h
  have hw : ∀ b, monitored b = true → (s.setW a w).getW b = s.getW b := fun b hb => State.getW_setW_other _ _ (hne b hb)
  refine State.monitors_congr rfl ?_ fun b hb => hw b ?_
  · simp only [State.get, hw _ (by decide : monitored (uDgk.addr dgk_DGSTAT_SUPPLY.off) = true)]
  · simp [monitored, hb]

@[simp ↓] theorem State.monitors_set {u : Unit} {f : Fld} (v : Nat) (h : monitored (u.addr f.off) = false) :
    (s.set u f v).monitors = s.monitors := State.monitors_setW s _ h

/-- DGSTAT.LOSS stands beside the supplies. -/
@[simp ↓] theorem State.monitors_setLoss (v : Nat) : (s.set ⟨.dgk, 0⟩ dgk_DGSTAT_LOSS v).monitors = s.monitors := by
  have hne : ∀ a ∈ monitorWords, a ≠ (⟨.dgk, 0⟩ : Unit).addr dgk_DGSTAT_LOSS.off := by decide
  refine State.monitors_congr (s.set_vcore _ _ _) ?_ fun a ha => State.getW_set_addr _ _ _ _ (hne a ha)
  exact State.get_set_field _ _ _ _ _ (Fld.fits_of_ble rfl) rfl (.inr (by decide))

@[simp ↓] theorem State.monitors_ite (c : Prop) [Decidable c] (a b : State) :
    (if c then a else b).monitors = if c then a.monitors else b.monitors := apply_ite _ _ _ _

theorem State.monitors_forL {α : Type} {f : α → State → State} (l : List α)
    (h : ∀ x ∈ l, ∀ s, (f x s).monitors = s.monitors) : (forL l f s).monitors = s.monitors := by
  induction l generalizing s with
  | nil => rfl
  | cons x l ih =>
    calc (forL l f (f x s)).monitors
      _ = (f x s).monitors := ih _ fun y hy => h y (List.mem_cons_of_mem _ hy)
      _ = s.monitors := h x List.mem_cons_self s

theorem State.monitors_forN {f : Nat → State → State} {n : Nat}
    (h : ∀ i < n, ∀ s, (f i s).monitors = s.monitors) : (forN n f s).monitors = s.monitors :=
  State.monitors_forL s _ fun i hi => h i (List.mem_range.mp hi)

/-! ## State that no register shows -/

@[simp ↓] theorem State.monitors_evSeen (x : SMap Nat) (y : Nat × SMap Nat) :
    { s with evSeen := x, evNow := y }.monitors = s.monitors := rfl
@[simp ↓] theorem State.monitors_pulse (x : Nat) : { s with pulse := x }.monitors = s.monitors := rfl
@[simp ↓] theorem State.monitors_badParity (x : List Nat) : { s with badParity := x }.monitors = s.monitors := rfl
@[simp ↓] theorem State.monitors_qty (x : SMap Word) : { s with qty := x }.monitors = s.monitors := rfl
@[simp ↓] theorem State.monitors_trans (x : Option Trans) : { s with trans := x }.monitors = s.monitors := rfl
@[simp ↓] theorem State.monitors_pair (x : PairH) : { s with pair := x }.monitors = s.monitors := rfl
@[simp ↓] theorem State.monitors_conv (x : SMap PhaseH) (y : RegH) :
    { s with convPhases := x, conv := y }.monitors = s.monitors := rfl
@[simp ↓] theorem State.monitors_preOn (x : Nat) : { s with preOn := x }.monitors = s.monitors := rfl
@[simp ↓] theorem State.monitors_regDisAt (x : Nat) : { s with regDisAt := x }.monitors = s.monitors := rfl
@[simp ↓] theorem State.monitors_lossAt (x : SMap Nat) : { s with lossAt := x }.monitors = s.monitors := rfl
@[simp ↓] theorem State.monitors_authKeep (x : Bool) : { s with authKeep := x }.monitors = s.monitors := rfl
@[simp ↓] theorem State.monitors_shUnits (x : List Nat) : { s with shUnits := x }.monitors = s.monitors := rfl

@[simp ↓] theorem State.monitors_note (k : Nat) : (s.note k).monitors = s.monitors := rfl
@[simp ↓] theorem State.monitors_modStg (st : Nat) (f : StageH → StageH) : (s.modStg st f).monitors = s.monitors := rfl
@[simp ↓] theorem State.monitors_modTr (st : Nat) (f : TracH → TracH) : (s.modTr st f).monitors = s.monitors := rfl
@[simp ↓] theorem State.monitors_modCh (c : Nat) (f : ChanH → ChanH) : (s.modCh c f).monitors = s.monitors := rfl
@[simp ↓] theorem State.monitors_modCad (n : Nat) (f : CadH → CadH) : (s.modCad n f).monitors = s.monitors := rfl
@[simp ↓] theorem State.monitors_modKn (n : Nat) (f : KernH → KernH) : (s.modKn n f).monitors = s.monitors := rfl
@[simp ↓] theorem State.monitors_modLink (f : LinkH → LinkH) : (s.modLink f).monitors = s.monitors := rfl
@[simp ↓] theorem State.monitors_modSo (k : Nat) (f : SoH → SoH) : (s.modSo k f).monitors = s.monitors := rfl
@[simp ↓] theorem State.monitors_modSq (n : Nat) (f : SqH → SqH) : (s.modSq n f).monitors = s.monitors := rfl
@[simp ↓] theorem State.monitors_modCv (n : Nat) (f : ConvH → ConvH) : (s.modCv n f).monitors = s.monitors := rfl
@[simp ↓] theorem State.monitors_modPair (f : PairH → PairH) : (s.modPair f).monitors = s.monitors := rfl
@[simp ↓] theorem State.monitors_clearCmds (m : Nat) : (s.clearCmds m).monitors = s.monitors := rfl

/-! ## COR fields, counters and events (R93, R94) -/

@[simp ↓] theorem State.monitors_hold (u : Unit) (f : Fld) : (s.hold u f).monitors = s.monitors := by
  unfold State.hold
  split <;> rfl

@[simp ↓] theorem State.monitors_cor {u : Unit} {f : Fld} (v : Nat) (h : monitored (u.addr f.off) = false) :
    (s.cor u f v).monitors = s.monitors := by simp [State.cor, h]

@[simp ↓] theorem State.monitors_first {u : Unit} {g f : Fld} (v : Nat) (h : monitored (u.addr f.off) = false) :
    (s.first u g f v).monitors = s.monitors := by simp [State.first, h]

@[simp ↓] theorem State.monitors_cause {u : Unit} {f : Fld} (v : Nat) (h : monitored (u.addr f.off) = false) :
    (s.cause u f v).monitors = s.monitors := by simp [State.cause, h]

@[simp ↓] theorem State.monitors_incBy {u : Unit} {f : Fld} (n : Nat) (h : monitored (u.addr f.off) = false) :
    (s.incBy u f n).monitors = s.monitors := by simp [State.incBy, h]

@[simp ↓] theorem State.monitors_setBit {u : Unit} {o : Nat} (b : Nat) (h : monitored (u.addr o) = false) :
    (s.setBit u o b).monitors = s.monitors := by simp [State.setBit, h]

@[simp ↓] theorem State.monitors_occur (u : Unit) (b : Nat) : (s.occur u b).monitors = s.monitors := by
  simp [State.occur]

@[simp ↓] theorem State.monitors_setPending (u : Unit) : (s.setPending u).monitors = s.monitors := by
  dsimp only [State.setPending]
  simp [monitored_pendingWord]

@[simp ↓] theorem State.monitors_deliver (u : Unit) : (s.deliver u).monitors = s.monitors := by
  simp [State.deliver]

@[simp ↓] theorem State.monitors_raise (u : Unit) (b : Nat) : (s.raise u b).monitors = s.monitors := by
  simp [State.raise]

/-! ## Signals and the quantities that stages publish (R26, R252) -/

@[simp ↓] theorem State.monitors_emuNote (n : Nat) : (s.emuNote n).monitors = s.monitors := by
  simp [State.emuNote]

@[simp ↓] theorem State.monitors_writeSig (n : Nat) (w : Word) : (s.writeSig n w).monitors = s.monitors := by
  dsimp only [State.writeSig]
  simp [monitored_sigAddr]

@[simp ↓] theorem State.monitors_pubEntry (u : Unit) (o q i : Nat) (w : Word) :
    (s.pubEntry u o q i w).monitors = s.monitors := by simp [State.pubEntry, State.publish, State.drive]

@[simp ↓] theorem State.monitors_pubEntrySrc (u : Unit) (o x q i : Nat) (w : Word) :
    (s.pubEntrySrc u o x q i w).monitors = s.monitors := by simp [State.pubEntrySrc]

@[simp ↓] theorem State.monitors_pubStage (st q : Nat) (w : Word) : (s.pubStage st q w).monitors = s.monitors := by
  simp [State.pubStage, State.monitors_forN]

@[simp ↓] theorem State.monitors_setQtyI (st q : Nat) (v : Int) : (s.setQtyI st q v).monitors = s.monitors := by
  simp [State.setQtyI, State.setQty]

@[simp ↓] theorem State.monitors_setObc (x q : Nat) (v : Int) : (s.setObc x q v).monitors = s.monitors := by
  dsimp only [State.setObc]
  simp [State.monitors_forN]

/-! ## The mode (R69, R75) -/

@[simp ↓] theorem State.monitors_preempt (c : Nat) : (s.preempt c).monitors = s.monitors := by
  dsimp only [State.preempt]
  simp +decide

@[simp ↓] theorem State.monitors_dropTake : s.dropTake.monitors = s.monitors := by simp [State.dropTake]

@[simp ↓] theorem State.monitors_drillMode : s.drillMode.monitors = s.monitors := by
  unfold State.drillMode
  split
  · dsimp only [State.drillEnd]
    simp +decide
  · rfl

@[simp ↓] theorem State.monitors_regDisEnd : s.regDisEnd.monitors = s.monitors := by
  simp +decide [State.regDisEnd]

@[simp ↓] theorem State.monitors_pilotsFollow : s.pilotsFollow.monitors = s.monitors := by
  simp +decide [State.pilotsFollow]

@[simp ↓] theorem State.monitors_followLeave : s.followLeave.monitors = s.monitors :=
  s.monitors_forN fun p hp s => by simp +decide [hp]

@[simp ↓] theorem State.monitors_setMode (m e v : Nat) : (s.setMode m e v).monitors = s.monitors := by
  simp +decide [State.setMode]

/-! ## The stage turn-off (R267) -/

@[simp ↓] theorem State.monitors_setProt (st : Nat) : (s.setProt st).monitors = s.monitors := by
  simp [State.setProt]

@[simp ↓] theorem State.monitors_regSetState (v : Nat) : (s.regSetState v).monitors = s.monitors := by
  simp +decide [State.regSetState]

@[simp ↓] theorem State.monitors_cadErr {n : Nat} (c : Nat) (hn : n < 16) : (s.cadErr n c).monitors = s.monitors := by
  simp +decide [State.cadErr, hn]

@[simp ↓] theorem State.monitors_carrierStopped (st : Nat) : (s.carrierStopped st).monitors = s.monitors := by
  simp only [State.carrierStopped, State.monitors_modTr]
  refine s.monitors_forN fun n hn s => ?_
  simp [hn]

@[simp ↓] theorem State.monitors_regPhasesIdle : s.regPhasesIdle.monitors = s.monitors := by
  have hphase : ∀ n < 4, ∀ s : State, (s.set (uPhase n) ⟨ph_PHSTAT_STATE.off, 0, 10⟩ 0).monitors = s.monitors :=
    fun n hn s => s.monitors_set 0 (monitored_phase hn (by decide))
  unfold State.regPhasesIdle
  extract_lets cleared conv off idle counted
  have hoff : off.monitors = s.monitors := (cleared.monitors_conv _ _).trans (s.monitors_clearCmds 2)
  have hidle : idle.monitors = s.monitors := (off.monitors_forN hphase).trans hoff
  simp +decide [counted, hidle]

@[simp ↓] theorem State.monitors_cmFrz {n : Nat} (hn : n < 3) : (s.cmFrz n).monitors = s.monitors := by
  simp +decide [State.cmFrz, hn]

@[simp ↓] theorem State.monitors_cmSetState {n : Nat} (v : Nat) (hn : n < 3) :
    (s.cmSetState n v).monitors = s.monitors := by simp +decide [State.cmSetState, hn]

@[simp ↓] theorem State.monitors_cmStage {n : Nat} (b : Bool) (hn : n < 3) : (s.cmStage n b).monitors = s.monitors := by
  simp [State.cmStage, hn]

/-- A stage's state reaches REG or a commutation kernel where the stage drives one (R325, R366). -/
theorem State.monitors_setGstate {st : Nat} (v : Nat) (hst : st < 9) : (s.setGstate st v).monitors = s.monitors := by
  unfold State.setGstate
  extract_lets stated
  have hstated : stated.monitors = s.monitors := by simp +decide [stated, hst]
  split
  · simp [hstated]
  · split
    next h =>
      have hn : st - 5 < 3 := by simp only [Bool.and_eq_true, decide_eq_true_eq] at h; omega
      simp [hstated, hn]
    · exact hstated

theorem State.lead_lt {st : Nat} (hst : st < 9) : s.lead st < 9 := by
  unfold State.lead
  split <;> omega

theorem State.monitors_turnOffWith {st : Nat} (asc : Bool) (hst : st < 9) :
    (s.turnOffWith st asc).monitors = s.monitors := by
  unfold State.turnOffWith
  extract_lets g cut started timed
  have hcut : cut.monitors = s.monitors := s.monitors_forL _ fun _ _ _ => rfl
  have htimed : timed.monitors = s.monitors := by simp [timed, started, hcut]
  exact (timed.monitors_setGstate 1 (s.lead_lt hst)).trans htimed

theorem State.monitors_turnOffReq {st : Nat} (hst : st < 9) : (s.turnOffReq st).monitors = s.monitors := by
  simp [State.turnOffReq, State.turnOff, State.monitors_turnOffWith _ _ hst]

/-! ## The way out of RUN (R296, R314, R358) -/

@[simp ↓] theorem State.monitors_preAbort (c : Nat) : (s.preAbort c).monitors = s.monitors := by
  dsimp only [State.preAbort]
  simp +decide

@[simp ↓] theorem State.monitors_regDropHost (c : Nat) : (s.regDropHost c).monitors = s.monitors := by
  simp +decide [State.regDropHost]

@[simp ↓] theorem State.monitors_regDisStart : s.regDisStart.monitors = s.monitors := by
  dsimp only [State.regDisStart]
  simp +decide

@[simp ↓] theorem State.monitors_regLeaveRun : s.regLeaveRun.monitors = s.monitors := by
  unfold State.regLeaveRun
  extract_lets ran latches dropped phases governed left
  have hgoverned : governed.monitors = s.monitors := by simp +decide [governed, phases, dropped]
  simp [left, hgoverned]

@[simp ↓] theorem State.monitors_chopLeave : s.chopLeave.monitors = s.monitors := by
  simp +decide [State.chopLeave, State.chopEnd]

theorem State.monitors_cmAbortStart {n : Nat} (c : Nat) (hn : n < 3) : (s.cmAbortStart n c).monitors = s.monitors := by
  have hcause : monitored ((uCm n).addr cm_ARES_CAUSE.off) = false := monitored_cm hn (by decide)
  have haborted : monitored ((uCm n).addr cm_ARES_ABORTED.off) = false := hcause
  simp +decide [State.cmAbortStart, hn, hcause, haborted]

theorem State.monitors_cmLeaveRun {n : Nat} (hn : n < 3) : (s.cmLeaveRun n).monitors = s.monitors := by
  simp [State.cmLeaveRun, State.monitors_cmAbortStart, hn]

theorem State.monitors_tracLeaveRun {st : Nat} (hst : st < 9) : (s.tracLeaveRun st).monitors = s.monitors := by
  simp +decide [State.tracLeaveRun, hst]

@[simp ↓] theorem State.monitors_leaveRun : s.leaveRun.monitors = s.monitors := by
  unfold State.leaveRun
  extract_lets aborted idle cleared
  have hcleared : cleared.monitors = s.monitors := (idle.monitors_forN fun _ _ _ => by simp).trans (by simp [idle, aborted])
  rw [State.monitors_chopLeave, State.monitors_forN _ fun st hst s => s.monitors_tracLeaveRun (by omega),
    State.monitors_forN _ fun n hn s => s.monitors_cmLeaveRun hn, hcleared]

@[simp ↓] theorem State.monitors_routeEnd : s.routeEnd.monitors = s.monitors := by
  simp +decide [State.routeEnd]

/-! ## Outputs that follow the mode (R340, R476, R531) -/

@[simp ↓] theorem State.monitors_authFollow : s.authFollow.monitors = s.monitors := by
  simp +decide [State.authFollow]

@[simp ↓] theorem State.monitors_ilkSet : s.ilkSet.monitors = s.monitors := by
  dsimp only [State.ilkSet]
  simp +decide

@[simp ↓] theorem State.monitors_soDrive (k : Nat) : (s.soDrive k).monitors = s.monitors := by
  simp +decide [State.soDrive]

@[simp ↓] theorem State.monitors_sosNext : s.sosNext.monitors = s.monitors := by
  unfold State.sosNext
  extract_lets sos started commanded failed
  have hstarted : started.monitors = s.monitors := by
    unfold started
    split
    · rfl
    · split <;> simp
  simp +decide [failed, commanded, sos, hstarted]

@[simp ↓] theorem State.monitors_soFollow (k : Nat) : (s.soFollow k).monitors = s.monitors := by
  unfold State.soFollow
  extract_lets v was owned commanded per changed
  have howned : owned.monitors = s.monitors := s.monitors_set _ (monitored_so (by decide))
  have hcommanded : commanded.monitors = s.monitors := (owned.monitors_set _ (monitored_so (by decide))).trans howned
  have hchanged : changed.monitors = s.monitors := (commanded.monitors_modSo k _).trans hcommanded
  split
  · exact (owned.monitors_soDrive k).trans howned
  · exact (changed.monitors_soDrive k).trans hchanged

@[simp ↓] theorem State.monitors_outputsFollow : s.outputsFollow.monitors = s.monitors := by
  simp +decide [State.outputsFollow, State.soFollowAll, State.monitors_forN]

@[simp ↓] theorem State.monitors_msgFollow : s.msgFollow.monitors = s.monitors := by
  simp [State.msgFollow, State.sendMsg]

/-! ## What begins where SAFE-HOLD is entered from CALIBRATE (R159) -/

@[simp ↓] theorem State.monitors_carrierFollow : s.carrierFollow.monitors = s.monitors :=
  s.monitors_forN fun st _ s => by simp [State.carrierBegin]

@[simp ↓] theorem State.monitors_canJoin : s.canJoin.monitors = s.monitors :=
  s.monitors_forN fun n hn s => by simp +decide [hn]

@[simp ↓] theorem State.monitors_queuesFresh : s.queuesFresh.monitors = s.monitors :=
  s.monitors_forN fun n hn s => by simp +decide [hn]

@[simp ↓] theorem State.monitors_laneReturns (n : Nat) : (s.laneReturns n).monitors = s.monitors := by
  unfold State.laneReturns
  split
  next h =>
    have hn : n < 9 := by simp only [Bool.and_eq_true, decide_eq_true_eq] at h; exact h.1
    exact s.monitors_set _ (monitored_lane hn (by decide))
  · rfl

@[simp ↓] theorem State.monitors_lossFollow : s.lossFollow.monitors = s.monitors := by
  dsimp only [State.lossFollow]
  refine (State.monitors_forN _ fun b _ s => ?_).trans (s.monitors_setLoss _)
  simp

@[simp ↓] theorem State.monitors_suspend : s.suspend.monitors = s.monitors := by
  simp +decide [State.suspend, State.when]

@[simp ↓] theorem State.monitors_rotationEnter : s.rotationEnter.monitors = s.monitors := by
  unfold State.rotationEnter
  extract_lets away untested
  have haway : away.monitors = s.monitors := rfl
  simp +decide [untested, haway]

@[simp ↓] theorem State.monitors_sqWake (n : Nat) : (s.sqWake n).monitors = s.monitors := by
  simp [State.sqWake]

@[simp ↓] theorem State.monitors_runsBegin : s.runsBegin.monitors = s.monitors := by
  simp [State.runsBegin, State.monitors_forN]

/-! ## Entry to SAFE-HOLD, faults and safety reactions (R90, R512 to R514) -/

theorem State.monitors_enterSafeHold : s.enterSafeHold.monitors = s.monitors := by
  unfold State.enterSafeHold
  extract_lets from_ preempted pair dropped kept entered off left routed followed
  have hdropped : dropped.monitors = s.monitors := (State.monitors_dropTake _).trans (s.monitors_preempt 10)
  have hentered : entered.monitors = s.monitors := by simp [entered, kept, hdropped]
  have hoff : off.monitors = s.monitors :=
    (State.monitors_forN _ fun st hst s => by simp [State.monitors_turnOffReq _ hst]).trans hentered
  simp [followed, routed, left, hoff]

/-- A fault of DGK shows to the monitors as its OWNF. -/
theorem State.monitors_fault (code : Nat) : (s.fault uDgk code).monitors = (s.set uDgk hdr_USTAT_OWNF 1).monitors := by
  unfold State.fault
  extract_lets own n coded counted
  have hown : own.monitors = (s.set uDgk hdr_USTAT_OWNF 1).monitors := State.monitors_note _ _
  have hcoded : coded.monitors = own.monitors := by simp +decide [coded]
  have hcounted : counted.monitors = own.monitors := by simp +decide [counted, hcoded]
  exact (counted.monitors_set _ (by decide)).trans (hcounted.trans hown)

/-- A safety reaction shows to the monitors as its cause. -/
theorem State.monitors_safety (c src : Nat) : (s.safety c src).monitors =
    (s.set uSsv ssv_SHCAUSE_CAUSE (s.get uSsv ssv_SHCAUSE_CAUSE ||| 2 ^ c)).monitors := by
  unfold State.safety
  extract_lets firstNow caused units first counted raised
  have hunits : units.monitors = caused.monitors := by simp [units]
  have hfirst : first.monitors = caused.monitors := by simp +decide [first, hunits]
  have hraised : raised.monitors = caused.monitors := by simp +decide [raised, counted, State.inc, hfirst]
  simp [State.monitors_enterSafeHold, hraised, caused]

/-! ## What the monitors show after an event, a fault and a safety reaction -/

theorem State.raise_get (v : Unit) (b : Nat) {u : Unit} {f : Fld} (hm : u.addr f.off ∈ monitorWords) :
    (s.raise v b).get u f = s.get u f := State.get_of_monitors (s.monitors_raise v b) hm

theorem State.raise_supply (v : Unit) (b : Nat) :
    (s.raise v b).get uDgk dgk_DGSTAT_SUPPLY = s.get uDgk dgk_DGSTAT_SUPPLY :=
  State.supply_of_monitors (s.monitors_raise v b)

theorem State.fault_own (code : Nat) : (s.fault uDgk code).get uDgk hdr_USTAT_OWNF = 1 := by
  rw [State.get_of_monitors (s.monitors_fault code) (by decide), State.get_set_same _ _ _ _ (Fld.fits_of_ble rfl)]
  rfl

theorem State.fault_get (code : Nat) {u : Unit} {f : Fld} (hm : u.addr f.off ∈ monitorWords)
    (ho : u.addr f.off ≠ uDgk.addr hdr_USTAT_OWNF.off) : (s.fault uDgk code).get u f = s.get u f := by
  rw [State.get_of_monitors (s.monitors_fault code) hm, State.get_set_addr _ _ _ _ _ _ ho]

theorem State.fault_supply (code : Nat) :
    (s.fault uDgk code).get uDgk dgk_DGSTAT_SUPPLY = s.get uDgk dgk_DGSTAT_SUPPLY := by
  rw [State.supply_of_monitors (s.monitors_fault code), State.get_set_addr _ _ _ _ _ _ (by decide)]

theorem State.safety_get (c src : Nat) {u : Unit} {f : Fld} (hm : u.addr f.off ∈ monitorWords)
    (hc : u.addr f.off ≠ uSsv.addr ssv_SHCAUSE_CAUSE.off) : (s.safety c src).get u f = s.get u f := by
  rw [State.get_of_monitors (s.monitors_safety c src) hm, State.get_set_addr _ _ _ _ _ _ hc]

theorem State.safety_vcore (c src : Nat) : (s.safety c src).vcore = s.vcore := by
  rw [State.vcore_of_monitors (s.monitors_safety c src), State.set_vcore]

theorem State.safety_supply (c src : Nat) :
    (s.safety c src).get uDgk dgk_DGSTAT_SUPPLY = s.get uDgk dgk_DGSTAT_SUPPLY := by
  rw [State.supply_of_monitors (s.monitors_safety c src), State.get_set_addr _ _ _ _ _ _ (by decide)]

/-- A safety reaction sets the bit of its cause. -/
theorem State.safety_testBit {c : Nat} (hc : c < 16) (src : Nat) :
    ((s.safety c src).get uSsv ssv_SHCAUSE_CAUSE).testBit c = true := by
  rw [State.get_of_monitors (s.monitors_safety c src) (by decide), State.get_set_same _ _ _ _ (Fld.fits_of_ble rfl),
    Nat.testBit_mod_two_pow, Nat.testBit_or, Nat.testBit_two_pow_self]
  simp [ssv_SHCAUSE_CAUSE, hc]

/-- A fault of DGK with its event and a cause leaves what the other words of the monitors show. -/
theorem State.diagnosed_get (code b c : Nat) {u : Unit} {f : Fld} (hm : u.addr f.off ∈ monitorWords)
    (ho : u.addr f.off ≠ uDgk.addr hdr_USTAT_OWNF.off) (hc : u.addr f.off ≠ uSsv.addr ssv_SHCAUSE_CAUSE.off) :
    (((s.fault uDgk code).raise uDgk b).safety c 0).get u f = s.get u f := by
  rw [State.safety_get _ _ _ hm hc, State.raise_get _ _ _ hm, State.fault_get _ _ hm ho]

theorem State.diagnosed_supply (code b c : Nat) :
    (((s.fault uDgk code).raise uDgk b).safety c 0).get uDgk dgk_DGSTAT_SUPPLY = s.get uDgk dgk_DGSTAT_SUPPLY := by
  rw [State.safety_supply, State.raise_supply, State.fault_supply]

theorem State.diagnosed_own (code b c : Nat) :
    (((s.fault uDgk code).raise uDgk b).safety c 0).get uDgk hdr_USTAT_OWNF = 1 := by
  rw [State.safety_get _ _ _ (by decide) (by decide), State.raise_get _ _ _ (by decide), State.fault_own]

end Sys2Proof.Machine
end

section
/-!
PROOF. VCORE, the supplies, the timebase monitor and the loss of diagnostics (R66, R535 to R537): an equation for each command, and what
registers read in the state that it gives.
-/

namespace Sys2Proof.Machine

variable (s : State)

/-! ## Memory under an event, and registers under a hold and a count -/

@[simp] theorem State.hold_mem (u : Unit) (f : Fld) : (s.hold u f).mem = s.mem := by
  unfold State.hold; split <;> rfl
@[simp] theorem State.holdSet_mem (u : Unit) (f : Fld) : (s.holdSet u f).mem = s.mem := by
  unfold State.holdSet; split <;> simp
@[simp] theorem State.occur_mem (u : Unit) (b : Nat) : (s.occur u b).mem = s.mem := by
  simp [State.occur, State.setBit]
@[simp] theorem State.setPending_mem (u : Unit) : (s.setPending u).mem = s.mem := by
  simp [State.setPending, State.setBit]
@[simp] theorem State.deliver_mem (u : Unit) : (s.deliver u).mem = s.mem := by
  unfold State.deliver
  extract_lets fresh pending occurred
  have hocc : occurred.mem = s.mem := by simp [occurred, pending]
  split
  · split <;> simp [hocc]
  · simp [pending]
@[simp] theorem State.raise_mem (u : Unit) (b : Nat) : (s.raise u b).mem = s.mem := by
  unfold State.raise
  extract_lets occurred
  split <;> simp [occurred]

@[simp] theorem State.get_note (k : Nat) (u : Unit) (f : Fld) : (s.note k).get u f = s.get u f := rfl
@[simp] theorem State.get_hold (u v : Unit) (f g : Fld) : (s.hold u f).get v g = s.get v g := by
  unfold State.hold; split <;> rfl

theorem State.get_cor_same (u : Unit) (f : Fld) (v : Nat) (h : f.fits) : (s.cor u f v).get u f = v % 2 ^ f.w := by
  rw [State.cor, State.get_hold, State.get_set_same _ _ _ _ h]

theorem State.get_cor_field (u : Unit) {f g : Fld} (v : Nat) (h : f.fits) (ho : g.off = f.off)
    (hd : g.lo + g.w ≤ f.lo ∨ f.lo + f.w ≤ g.lo) : (s.cor u f v).get u g = s.get u g := by
  rw [State.cor, State.get_hold, State.get_set_field _ _ _ _ _ h ho hd]

theorem State.get_inc_same (u : Unit) (f : Fld) (h : f.fits) : (s.inc u f).get u f = (s.get u f + 1) % 2 ^ f.w := by
  rw [State.inc, State.incBy, State.get_note, State.get_set_same _ _ _ _ h]

theorem State.get_inc_addr {u u' : Unit} {f g : Fld} (h : u'.addr g.off ≠ u.addr f.off) :
    (s.inc u f).get u' g = s.get u' g := by
  rw [State.inc, State.incBy, State.get_note, State.get_set_addr _ _ _ _ _ _ h]

@[simp] theorem State.hold_vcore (u : Unit) (f : Fld) : (s.hold u f).vcore = s.vcore := by
  unfold State.hold; split <;> rfl
@[simp] theorem State.cor_vcore (u : Unit) (f : Fld) (v : Nat) : (s.cor u f v).vcore = s.vcore := by
  simp [State.cor]

@[simp] theorem State.holdSet_regs (u : Unit) (f : Fld) : (s.holdSet u f).regs = s.regs := by
  unfold State.holdSet State.hold
  split
  · split <;> rfl
  · rfl

@[simp] theorem State.holdSet_boot (u : Unit) (f : Fld) : (s.holdSet u f).boot = s.boot := by
  unfold State.holdSet State.hold
  split
  · split <;> rfl
  · rfl

/-! ## VCORE (R66) -/

theorem State.monitors_vcoreWarn : s.vcoreWarn.monitors =
    (s.set uVmon vmon_VCSTAT_UVWARN (if s.vcore < clamp 705 800 (s.get uVmon vmon_VCWARN_MV) then 1 else 0)).monitors := by
  simp [State.vcoreWarn]

theorem State.vcoreWarn_vcore : s.vcoreWarn.vcore = s.vcore := by
  rw [State.vcore_of_monitors s.monitors_vcoreWarn, State.set_vcore]

theorem State.vcoreWarn_warn : s.vcoreWarn.get uVmon vmon_VCSTAT_UVWARN =
    if s.vcore < clamp 705 800 (s.get uVmon vmon_VCWARN_MV) then 1 else 0 := by
  rw [State.get_of_monitors s.monitors_vcoreWarn (by decide), State.get_set_same _ _ _ _ (Fld.fits_of_ble rfl)]
  split <;> rfl

theorem State.vcoreWarn_cause : s.vcoreWarn.get uSsv ssv_SHCAUSE_CAUSE = s.get uSsv ssv_SHCAUSE_CAUSE := by
  rw [State.get_of_monitors s.monitors_vcoreWarn (by decide), State.get_set_addr _ _ _ _ _ _ (by decide)]

@[simp] theorem State.vcoreWarn_mem : s.vcoreWarn.mem = s.mem := by
  unfold State.vcoreWarn
  extract_lets was now warned
  split <;> simp [warned]

theorem le_clamp {lo hi : Nat} (h : lo ≤ hi) (v : Nat) : lo ≤ clamp lo hi v := by
  unfold clamp
  split
  · exact Nat.le_refl _
  · split <;> omega

/-- A trip above the range: OVTRIP sets, and cause 4. -/
theorem State.vcoreTrip_over (h : 860 < s.vcore) : s.vcoreTrip = (s.cor uVmon vmon_VCSTAT_OVTRIP 1).safety 4 0 := by
  simp [State.vcoreTrip, h]

/-- A trip below the range: UVTRIP sets, and cause 4. -/
theorem State.vcoreTrip_under (h : s.vcore < 700) : s.vcoreTrip = (s.cor uVmon vmon_VCSTAT_UVTRIP 1).safety 4 0 := by
  simp [State.vcoreTrip, h, show ¬ 860 < s.vcore by omega]

/-- As VCORE leaves a trip band, the hold of its trip bit starts again (R98). -/
def State.tripHeld (s : State) : State :=
  if s.vcore < 700 then s.holdSet uVmon vmon_VCSTAT_UVTRIP
  else if 860 < s.vcore then s.holdSet uVmon vmon_VCSTAT_OVTRIP else s

/-- What holds of every state that differs in its holds alone holds after a trip band is left. -/
theorem State.tripHeld_induction {P : State → Prop} (h : P s) (hheld : ∀ f, P (s.holdSet uVmon f)) : P s.tripHeld := by
  unfold State.tripHeld
  split
  · exact hheld _
  · split
    · exact hheld _
    · exact h

theorem State.tripHeld_regs : s.tripHeld.regs = s.regs :=
  s.tripHeld_induction (P := fun x => x.regs = s.regs) rfl fun f => s.holdSet_regs uVmon f

theorem State.tripHeld_mem : s.tripHeld.mem = s.mem :=
  s.tripHeld_induction (P := fun x => x.mem = s.mem) rfl fun f => s.holdSet_mem uVmon f

theorem State.tripHeld_boot : s.tripHeld.boot = s.boot :=
  s.tripHeld_induction (P := fun x => x.boot = s.boot) rfl fun f => s.holdSet_boot uVmon f

/-- The state that a crossing has moved to a VCORE. -/
def State.crossed (s : State) (t mv : Nat) : State := { (s.at t).tripHeld with vcore := mv }

theorem State.crossed_get (t mv : Nat) (u : Unit) (f : Fld) : (s.crossed t mv).get u f = s.get u f := by
  simp [State.get, State.getW, State.crossed, State.tripHeld_regs]

theorem State.crossed_mem (t mv : Nat) : (s.crossed t mv).mem = s.mem := by
  simp [State.crossed, State.tripHeld_mem]

/-- Once a boot is over, a crossing warns, and trips where it enters a trip band (R66). -/
theorem exec_vcoreCrossing {t mv : Nat} (hb : s.boot = .done) : exec (.vcoreCrossing t mv) s =
    .next (if (860 < mv ∧ s.vcore ≤ 860) ∨ (mv < 700 ∧ 700 ≤ s.vcore) then (s.crossed t mv).vcoreWarn.vcoreTrip
      else (s.crossed t mv).vcoreWarn) := by
  have hboot : (s.crossed t mv).boot = .done := by simp [State.crossed, State.tripHeld_boot, hb]
  have hexec : exec (.vcoreCrossing t mv) s = if (s.crossed t mv).boot ≠ .done then .next (s.crossed t mv) else
      if (860 < mv && (s.at t).vcore ≤ 860) || (mv < 700 && 700 ≤ (s.at t).vcore) then
        .next (s.crossed t mv).vcoreWarn.vcoreTrip
      else .next (s.crossed t mv).vcoreWarn := rfl
  simp [hexec, hboot, apply_ite Host.Outcome.next]

/-- VCORE enters a trip band (R66). -/
theorem vcoreCrossing_trips {t mv : Nat} (hb : s.boot = .done) (hlo : 700 ≤ s.vcore) (hhi : s.vcore ≤ 860)
    (hout : 860 < mv ∨ mv < 700) :
    exec (.vcoreCrossing t mv) s = .next (s.crossed t mv).vcoreWarn.vcoreTrip := by
  have hcross : (860 < mv ∧ s.vcore ≤ 860) ∨ (mv < 700 ∧ 700 ≤ s.vcore) := by omega
  rw [exec_vcoreCrossing s hb, if_pos hcross]

/-- VCORE moves into or within the range in which it does not trip (R66). -/
theorem vcoreCrossing_warns {t mv : Nat} (hb : s.boot = .done) (hlo : 700 ≤ mv) (hhi : mv ≤ 860) :
    exec (.vcoreCrossing t mv) s = .next (s.crossed t mv).vcoreWarn := by
  have hin : ¬ ((860 < mv ∧ s.vcore ≤ 860) ∨ (mv < 700 ∧ 700 ≤ s.vcore)) := by omega
  rw [exec_vcoreCrossing s hb, if_neg hin]

/-- What the monitors show where VCORE leaves the range in which it does not trip (R66). -/
theorem vcoreCrossing_shows_trip {t mv : Nat} (hb : s.boot = .done) (hlo : 700 ≤ s.vcore) (hhi : s.vcore ≤ 860)
    (hout : 860 < mv ∨ mv < 700) :
    ∃ s', exec (.vcoreCrossing t mv) s = .next s' ∧
      s'.vcore = mv ∧
      (860 < mv → s'.get uVmon vmon_VCSTAT_OVTRIP = 1) ∧
      (mv < 700 → s'.get uVmon vmon_VCSTAT_UVTRIP = 1 ∧ s'.get uVmon vmon_VCSTAT_UVWARN = 1) ∧
      (s'.get uSsv ssv_SHCAUSE_CAUSE).testBit 4 = true := by
  refine ⟨_, vcoreCrossing_trips s hb hlo hhi hout, ?_⟩
  have hv : (s.crossed t mv).vcoreWarn.vcore = mv := State.vcoreWarn_vcore _
  obtain hover | hunder := hout
  · rw [State.vcoreTrip_over _ (by rwa [hv])]
    refine ⟨?_, fun _ => ?_, fun h => by omega, State.safety_testBit _ (by decide) 0⟩
    · rw [State.safety_vcore, State.cor_vcore, hv]
    · rw [State.safety_get _ _ _ (by decide) (by decide), State.get_cor_same _ _ _ _ (Fld.fits_of_ble rfl)]
      rfl
  · rw [State.vcoreTrip_under _ (by rwa [hv])]
    refine ⟨?_, fun h => by omega, fun _ => ⟨?_, ?_⟩, State.safety_testBit _ (by decide) 0⟩
    · rw [State.safety_vcore, State.cor_vcore, hv]
    · rw [State.safety_get _ _ _ (by decide) (by decide), State.get_cor_same _ _ _ _ (Fld.fits_of_ble rfl)]
      rfl
    · have hlow : mv < clamp 705 800 ((s.crossed t mv).get uVmon vmon_VCWARN_MV) := by
        have := le_clamp (lo := 705) (hi := 800) (by decide) ((s.crossed t mv).get uVmon vmon_VCWARN_MV)
        omega
      rw [State.safety_get _ _ _ (by decide) (by decide),
        State.get_cor_field _ uVmon (f := vmon_VCSTAT_UVTRIP) (g := vmon_VCSTAT_UVWARN) _ (Fld.fits_of_ble rfl) rfl (.inl (by decide)),
        State.vcoreWarn_warn]
      exact if_pos hlow

/-! ## VCMEAS (R66) -/

theorem exec_vcmeasSample {t mv : Nat} (hl : s.locked = true) (ht : (s.at t).tick % 4000 = 0) :
    exec (.vcmeasSample t mv) s = .next ((s.at t).set uVmon vmon_VCMEAS_MV (min mv 1023)) := by
  have hlock : (s.at t).locked = true := by simpa [State.locked] using hl
  simp [exec, execVcmeasSample, hlock, ht]

/-! ## Supplies (R536) -/

/-- DGSTAT with a supply noted out of range. -/
def State.supplyOut (s : State) (i : Nat) : State :=
  s.set uDgk dgk_DGSTAT_SUPPLY (s.get uDgk dgk_DGSTAT_SUPPLY ||| 2 ^ i)

theorem exec_supplyTrip {t i : Nat} (hi : i < 5) (hb : s.boot = .done) : exec (.supplyTrip t i) s =
    .next (((((s.at t).supplyOut i).fault uDgk 0x0D02).raise uDgk 1).safety 5 0) := by
  simp [exec, execSupplyTrip, State.supplyOut, Nat.mod_eq_of_lt hi, hb]

theorem State.supplyOut_testBit {i : Nat} (hi : i < 5) :
    ((s.supplyOut i).get uDgk dgk_DGSTAT_SUPPLY).testBit i = true := by
  rw [State.supplyOut, State.get_set_same _ _ _ _ (Fld.fits_of_ble rfl), Nat.testBit_mod_two_pow, Nat.testBit_or,
    Nat.testBit_two_pow_self]
  simp [dgk_DGSTAT_SUPPLY, hi]

theorem exec_supplyReturn {t i : Nat} (hi : i < 5) : exec (.supplyReturn t i) s =
    .next ((s.at t).set uDgk dgk_DGSTAT_SUPPLY (s.get uDgk dgk_DGSTAT_SUPPLY &&& (31 - 2 ^ i))) := by
  simp [exec, execSupplyReturn, Nat.mod_eq_of_lt hi]

theorem testBit_supplyMask {i : Nat} (hi : i < 5) : (31 - 2 ^ i).testBit i = false := by
  have hall : ∀ j < 5, (31 - 2 ^ j).testBit j = false := by decide
  exact hall i hi

/-! ## The timebase monitor (R535) -/

/-- A window has ended with a count. -/
def State.windowed (s : State) (n : Nat) : State :=
  { s with tbWin := s.tick }.set uDgk dgk_TBMCNT_COUNT (min n 0xFFFF)

/-- The count of bad windows in a row. -/
def State.badWindows (s : State) (k : Nat) : State := { s with tbBad := k }

@[simp] theorem State.badWindows_tbBad (k : Nat) : (s.badWindows k).tbBad = k := rfl
@[simp] theorem State.badWindows_mem (k : Nat) : (s.badWindows k).mem = s.mem := rfl
@[simp] theorem State.badWindows_get (k : Nat) (u : Unit) (f : Fld) : (s.badWindows k).get u f = s.get u f := rfl

/-- A window that has failed, before its consequence: TBMERR counts it, and the count of bad ones stops one past TBN. -/
def State.windowFailed (s : State) (n : Nat) : State :=
  ((s.windowed n).inc uDgk dgk_TBMERR_COUNT).badWindows
    (min ((s.windowed n).tbBad + 1) (clamp 1 4 ((s.windowed n).get uDgk dgk_DGCFG_TBN) + 1))

theorem State.windowed_tbBad (n : Nat) : (s.windowed n).tbBad = s.tbBad := by simp [State.windowed]

theorem State.windowed_config (n : Nat) {f : Fld} (hf : uDgk.addr f.off ≠ uDgk.addr dgk_TBMCNT_COUNT.off) :
    (s.windowed n).get uDgk f = s.get uDgk f := by
  rw [State.windowed, State.get_set_addr _ _ _ _ _ _ hf]
  rfl

theorem State.windowed_count (n : Nat) : (s.windowed n).get uDgk dgk_TBMCNT_COUNT = min n 65535 := by
  have hmod : min n 65535 % 2 ^ dgk_TBMCNT_COUNT.w = min n 65535 :=
    Nat.mod_eq_of_lt (by simp only [dgk_TBMCNT_COUNT]; omega)
  rw [State.windowed, State.get_set_same _ _ _ _ (Fld.fits_of_ble rfl), hmod]

/-- A window that has ended (R535): it passes, or it fails, with a fault and cause 6 where it is the one that TBN allows no more. -/
theorem exec_timebaseMonitorWindow {t n : Nat} (hdue : 1200 ≤ n ∨ (s.at t).due (s.tbWin + 40000) = true) :
    exec (.timebaseMonitorWindow t n) s = .next (
      if ((n : Int) - 800).natAbs * 1000 ≤ 800 * s.get uDgk dgk_DGCFG_TBTOL ∧ n < 1200 then
        ((s.at t).windowed n).badWindows 0
      else if ((s.at t).windowFailed n).tbBad = clamp 1 4 (s.get uDgk dgk_DGCFG_TBN) then
        ((((s.at t).windowFailed n).fault uDgk 0x0D01).raise uDgk 0).safety 6 0
      else (s.at t).windowFailed n) := by
  have htol : ((s.at t).windowed n).get uDgk dgk_DGCFG_TBTOL = s.get uDgk dgk_DGCFG_TBTOL := by
    rw [State.windowed_config _ _ (by decide), State.at_get]
  have htbn : ((s.at t).windowed n).get uDgk dgk_DGCFG_TBN = s.get uDgk dgk_DGCFG_TBN := by
    rw [State.windowed_config _ _ (by decide), State.at_get]
  have hended : ¬ (n < 1200 ∧ (s.at t).due (s.tbWin + 40000) = false) := by
    rintro ⟨hn, hd⟩
    exact hdue.elim (Nat.not_le.mpr hn) fun h => by simp [hd] at h
  have hexec : exec (.timebaseMonitorWindow t n) s =
      if n < 1200 && !((s.at t).due ((s.at t).tbWin + 40000)) then .next (s.at t)
      else if ((n : Int) - 800).natAbs * 1000 ≤ 800 * ((s.at t).windowed n).get uDgk dgk_DGCFG_TBTOL && n < 1200 then
        .next (((s.at t).windowed n).badWindows 0)
      else if ((s.at t).windowFailed n).tbBad = clamp 1 4 (((s.at t).windowed n).get uDgk dgk_DGCFG_TBN) then
        .next (((((s.at t).windowFailed n).fault uDgk 0x0D01).raise uDgk 0).safety 6 0)
      else .next ((s.at t).windowFailed n) := rfl
  simp [hexec, hended, htol, htbn, apply_ite Host.Outcome.next]

theorem State.windowFailed_count (n : Nat) : (s.windowFailed n).get uDgk dgk_TBMCNT_COUNT = min n 65535 := by
  rw [State.windowFailed, State.badWindows_get, State.get_inc_addr _ (by decide), State.windowed_count]

theorem State.windowFailed_errors (n : Nat) : (s.windowFailed n).get uDgk dgk_TBMERR_COUNT =
    (s.get uDgk dgk_TBMERR_COUNT + 1) % 2 ^ dgk_TBMERR_COUNT.w := by
  rw [State.windowFailed, State.badWindows_get, State.get_inc_same _ _ _ (Fld.fits_of_ble rfl), State.windowed_config _ _ (by decide)]

/-- The window that TBN allows no more is the one with which the count of bad ones reaches it. -/
theorem State.windowFailed_tbBad {n : Nat} (h : s.tbBad + 1 = clamp 1 4 (s.get uDgk dgk_DGCFG_TBN)) :
    (s.windowFailed n).tbBad = clamp 1 4 (s.get uDgk dgk_DGCFG_TBN) := by
  have htbn : (s.windowed n).get uDgk dgk_DGCFG_TBN = s.get uDgk dgk_DGCFG_TBN := by
    rw [State.windowed_config _ _ (by decide)]
  rw [State.windowFailed, State.badWindows_tbBad, State.windowed_tbBad, htbn]
  omega

/-! ## Loss of diagnostics (R537) -/

/-- The timeout of the lanes counts minutes. -/
theorem exec_diagnosticLossTimeout_lane {t : Nat} (hloss : (s.get uDgk dgk_DGSTAT_LOSS).testBit 0 = true)
    (hon : s.get uDgk dgk_DGLT_LANE ≠ 0)
    (hdue : (s.at t).due (sget (fun _ => 0) s.lossAt 0 + ms (60000 * s.get uDgk dgk_DGLT_LANE)) = true) :
    exec (.diagnosticLossTimeout t 0) s = .next (((s.at t).fault uDgk 0x0D03).safety 12 0) := by
  simp [exec, execDiagnosticLossTimeout, hloss, hon, hdue]

/-- The timeout of the converter pairs and of the tests of the safe outputs counts milliseconds. -/
theorem exec_diagnosticLossTimeout_other {t k : Nat} (hk : 1 ≤ k) (hk3 : k < 3)
    (hloss : (s.get uDgk dgk_DGSTAT_LOSS).testBit k = true) (hon : s.get uDgk dgk_DGLT_PAIR ≠ 0)
    (hdue : (s.at t).due (sget (fun _ => 0) s.lossAt k + ms (s.get uDgk dgk_DGLT_PAIR)) = true) :
    exec (.diagnosticLossTimeout t k) s = .next (((s.at t).fault uDgk 0x0D03).safety 12 0) := by
  have hmod : k % 3 = k := Nat.mod_eq_of_lt hk3
  have hne : k ≠ 0 := by omega
  simp [exec, execDiagnosticLossTimeout, hmod, hne, hloss, hon, hdue]

end Sys2Proof.Machine

open Sys2Proof Sys2Proof.Machine

/-- Settles O49: a safety reaction changes of the monitors' words SHCAUSE alone, so each command leaves what it found to be read. -/
theorem supplyAndTimebaseMonitors : Obligations.SupplyAndTimebaseMonitors := by
  unfold Obligations.SupplyAndTimebaseMonitors
  refine ⟨fun t mv s => vcoreCrossing_shows_trip s, ?_, ?_, ?_, ?_, ?_, ?_, ?_, ?_⟩
  -- VCORE within its range (R66)
  · intro t mv s hb hlo hhi
    refine ⟨_, vcoreCrossing_warns s hb hlo hhi, State.vcoreWarn_vcore _, ?_, ?_, ?_⟩
    · rw [State.vcoreWarn_warn, State.crossed_get]
      rfl
    · rw [State.vcoreWarn_cause, State.crossed_get]
    · simp [State.byte, State.crossed_mem]
  -- VCMEAS (R66)
  · intro t mv s hl ht
    refine ⟨_, exec_vcmeasSample s hl ht, ?_, ?_, ?_⟩
    · rw [State.get_set_same _ _ _ _ (Fld.fits_of_ble rfl)]
      exact Nat.mod_eq_of_lt (by simp only [vmon_VCMEAS_MV]; omega)
    · intro a ha
      rw [State.getW_set_addr _ _ _ _ ha, State.at_getW]
    · simp [State.byte]
  -- a supply out of range (R536)
  · intro t i s hi hb
    refine ⟨_, exec_supplyTrip s hi hb, ?_, State.safety_testBit _ (by decide) 0, ?_⟩
    · rw [State.diagnosed_supply]
      exact State.supplyOut_testBit _ hi
    · exact State.diagnosed_own _ _ _ _
  -- its return (R536)
  · intro t i s hi
    refine ⟨_, exec_supplyReturn s hi, ?_, ?_, ?_⟩
    · rw [State.get_set_same _ _ _ _ (Fld.fits_of_ble rfl), Nat.testBit_mod_two_pow, Nat.testBit_and,
        testBit_supplyMask hi]
      simp
    · intro a ha
      rw [State.getW_set_addr _ _ _ _ ha, State.at_getW]
    · simp [State.byte]
  -- a good window (R535)
  · intro t n s hn hdue hgood
    refine ⟨_, by rw [exec_timebaseMonitorWindow s (.inr hdue), if_pos ⟨hgood, hn⟩], ?_, rfl, ?_, ?_⟩
    · have hmin : min n 65535 = n := by omega
      rw [State.badWindows_get, State.windowed_count, hmin]
    · rw [State.badWindows_get, State.windowed_config _ _ (by decide), State.at_get]
    · simp [State.byte, State.windowed]
  -- a bad window (R535)
  · intro t n s hbad hdue
    have hfail : ¬ (((n : Int) - 800).natAbs * 1000 ≤ 800 * s.get uDgk dgk_DGCFG_TBTOL ∧ n < 1200) := by omega
    refine ⟨_, by rw [exec_timebaseMonitorWindow s hdue, if_neg hfail], ?_, ?_, ?_⟩
    · rw [← (s.at t).windowFailed_count n]
      split
      · exact State.diagnosed_get _ _ _ _ (by decide) (by decide) (by decide)
      · rfl
    · rw [← s.at_get t uDgk dgk_TBMERR_COUNT, ← (s.at t).windowFailed_errors n]
      split
      · exact State.diagnosed_get _ _ _ _ (by decide) (by decide) (by decide)
      · rfl
    · intro hlast
      rw [← s.at_get t, if_pos ((s.at t).windowFailed_tbBad (by simpa using hlast))]
      exact ⟨State.safety_testBit _ (by decide) 0, State.diagnosed_own _ _ _ _⟩
  -- a loss that is not the lanes' (R537)
  · intro t k s hk hk3 hloss hon hdue
    refine ⟨_, exec_diagnosticLossTimeout_other s hk hk3 hloss hon hdue, State.safety_testBit _ (by decide) 0, ?_⟩
    rw [State.safety_get _ _ _ (by decide) (by decide), State.fault_own]
  -- the lanes' loss (R537)
  · intro t s hloss hon hdue
    refine ⟨_, exec_diagnosticLossTimeout_lane s hloss hon hdue, State.safety_testBit _ (by decide) 0, ?_⟩
    rw [State.safety_get _ _ _ (by decide) (by decide), State.fault_own]

end

section
/-!
PROOF. The transition table of R71 and the order of the checks of a mode command (R74); and a RUN command that a protection source
which is active already pre-empts (R75, R263).
-/

namespace Sys2Proof.Machine

/-! ## The checks of a mode command (R71, R74) -/

/-- The pairs of a mode and a target between which R71 has a transition. -/
def movePairs : List (Nat × Nat) :=
  [(1, 2), (1, 0), (3, 4), (3, 5), (3, 1), (3, 0), (3, 7), (4, 3), (4, 5), (4, 7), (5, 4), (5, 3), (6, 3),
    (6, 1), (6, 7), (0, 1), (0, 3)]

variable {s : State} {target frm : Nat} (after : Nat)

theorem State.moveCause_of_not_mem (h : (s.mode, target) ∉ movePairs) : s.moveCause target after = 1 := by
  unfold State.moveCause
  extract_lets
  split
  -- the row for every other pair
  case h_18 => rfl
  -- the rows of the table
  all_goals
    rename_i hmode
    exact absurd (by simp [movePairs, hmode]) h

theorem State.modeCause_stale (h : frm ≠ s.mode) : s.modeCause target after frm = 2 := by
  rw [State.modeCause, if_pos h]

theorem State.modeCause_busy (h : frm = s.mode) (ht : s.on uSys sys_MODESTAT_TRANS = true) :
    s.modeCause target after frm = 3 := by
  rw [State.modeCause, if_neg fun hne => hne h, if_pos ht]

/-- Without TMODE, a command that is neither STALE nor BUSY is checked against the table (R586). -/
theorem State.modeCause_eq_moveCause (h : frm = s.mode) (ht : s.on uSys sys_MODESTAT_TRANS = false)
    (htm : s.on uSys sys_STRAPS_TMODE = false) : s.modeCause target after frm = s.moveCause target after := by
  simp [State.modeCause, h, ht, htm]

theorem State.on_eq_false {u : Unit} {f : Fld} (h : s.get u f = 0) : s.on u f = false := by simp [State.on, h]

theorem State.on_eq_true {u : Unit} {f : Fld} (h : s.get u f = 1) : s.on u f = true := by simp [State.on, h]

/-! ## The mode command (R74) -/

/-- What a MODECMD does to the register before it is checked: its fields are written. -/
def State.modeFields (s : State) (target after frm : Nat) : State :=
  ((s.set uSys sys_MODECMD_TARGET target).set uSys sys_MODECMD_AFTER after).set uSys sys_MODECMD_FROM frm

/-- A MODECMD that is served takes its effect at once. -/
theorem exec_modecmd (h : s.serves uSys 0xC4) (t target after frm : Nat) :
    exec (.modecmd t target after frm) s = .next ((s.at t).modeFields target after frm).modeCommand := by
  rw [← State.hostRow_serves h t fun s => (s.modeFields target after frm).modeCommand]
  simp only [exec, execModecmd, State.modeFields]

/-! ## A RUN command that finds an active source -/

/-- READY with BRK enabled and the return of its first switch, which is one of its sources, active. Selector 0 of BRK's REACT is SAFE
and GRETRY allows no retry, as they reset. -/
def readyWithActiveSource : State :=
  let s := (State.reset.set uTbase tb_TBSTAT_LOCK 1).set uSys sys_MODESTAT_TRANS 0
  let s := ((s.set uSys sys_MODESTAT_MODE Mode.ready.code).set ⟨.gcu, 0⟩ hdr_UCTL_EN 1).set uBrk hdr_UCTL_EN 1
  { s.set uBrk stg_GSRC1_SWRET 1 with boot := .done, srcActive := [.sw 8 0] }

theorem readyWithActiveSource_serves : readyWithActiveSource.serves uSys 0xC4 := by decide +kernel

/-- No cause of R74 stands against RUN: an active source is no latch while the stage does not act. -/
theorem readyWithActiveSource_modeCause : readyWithActiveSource.modeCause Mode.run.code 0 Mode.ready.code = 0 := by
  decide +kernel

/-- With the transition to RUN the stage begins to act and trips on its source (R263); the trip latches (R273), its reaction is a safety
reaction with cause UNIT (R275), and SAFE-HOLD pre-empts the transition: MODERES shows ABORTED with cause SAFEHOLD (R75). -/
theorem readyWithActiveSource_run : ∃ s',
    exec (.modecmd 0 Mode.run.code 0 Mode.ready.code) readyWithActiveSource = .next s' ∧
      s'.glatch 8 = true ∧
      s'.get uSsv ssv_SHCAUSE_CAUSE = 2 ^ 3 ∧
      s'.mode = Mode.safeHold.code ∧
      s'.get uSys sys_MODERES_ABORTED = 1 ∧
      s'.get uSys sys_MODERES_CAUSE = 10 ∧
      s'.get uSys sys_MODESTAT_TRANS = 0 :=
  ⟨_, exec_modecmd readyWithActiveSource_serves 0 _ _ _, by decide +kernel⟩

end Sys2Proof.Machine

open Sys2Proof Sys2Proof.Machine

/-- Settles O19: each clause is the check of R74 that its premises leave as the first to fail. -/
theorem modeTable : Obligations.ModeTable := by
  unfold Obligations.ModeTable
  intro s target after frm
  refine ⟨State.modeCause_stale after, ?_, ?_⟩
  -- BUSY
  · intro hfrm htrans
    exact State.modeCause_busy after hfrm (State.on_eq_true htrans)
  -- ILLEGAL
  · intro hfrm htrans htmode hpair
    rw [State.modeCause_eq_moveCause after hfrm (State.on_eq_false htrans) (State.on_eq_false htmode)]
    exact State.moveCause_of_not_mem after (hfrm ▸ hpair)

/-- Refutes O18: a RUN command from READY against which no cause of R74 stands can find a protection source active. The stage trips
on it as it begins to act (R263), and where the reaction to its latch is a safety reaction, SAFE-HOLD is in force when the command is
done, with TRANS 0 (R75). The first clause claims TRANS 1 and the mode as it was. -/
theorem not_modes : ¬ Obligations.Modes := by
  unfold Obligations.Modes
  rintro ⟨hstarts, -⟩
  obtain ⟨s, hexec, htrans, -⟩ := hstarts 0 Mode.run.code 0 Mode.ready.code readyWithActiveSource
    readyWithActiveSource_serves (by decide) (by decide) (by decide) (by decide) readyWithActiveSource_modeCause
  obtain ⟨s', hexec', -, -, -, -, -, htrans'⟩ := readyWithActiveSource_run
  obtain rfl : s = s' := Host.Outcome.next.inj (hexec.symm.trans hexec')
  omega

end

section
/-!
PROOF. An arming clears TRIGIDX.VALID (R223, R227), so a book that has triggered before does not keep that word.
-/

namespace Sys2Proof.Machine

/-- No time lies before tick 0. -/
@[simp] theorem State.at_zero (s : State) : s.at 0 = s := by
  unfold State.at
  split <;> simp

/-! ## Arming a scorebook (R223) -/

theorem exec_scorebookArm {s : State} {n : Nat} (h : s.serves (uScb n) 0x58) (hn : n < 8) (t : Nat) :
    exec (.scorebookArm t n) s = .next ((s.at t).arm n) := by
  rw [← State.hostRow_serves h t fun s => s.arm n]
  simp [exec, execScorebookArm, Nat.mod_eq_of_lt hn]

/-- VALID speaks of the present arming (R227), so an accepted arming clears it: in the order of R223, the book is not armed, its mode
records, it has a region and its configuration is right. -/
theorem State.arm_trigidxValid {s : State} {n base bytes : Nat} (hidle : s.get (uScb n) scb_SCTL_ARM = 0)
    (hmode : s.runsMode = true) (hregion : s.region (0x30 + n) = some (base, bytes)) (hok : s.bookOk n bytes = true) :
    (s.arm n).get (uScb n) scb_TRIGIDX_VALID = 0 := by
  have hne : (uScb n).addr scb_TRIGIDX_VALID.off ≠ (uScb n).addr scb_PRECNT_COUNT.off :=
    Unit.addr_ne (by decide) (by decide) (.inr (by decide))
  simp only [State.arm, State.on_eq_false hidle, State.booksRun, hmode, hregion, hok, Bool.not_true, Bool.false_eq_true,
    if_false]
  rw [State.get_set_addr _ _ _ _ _ _ hne, State.get_set_same _ _ _ _ (Fld.fits_of_ble rfl), Nat.zero_mod]

/-! ## A book that is armed a second time -/

/-- READY with the first scorebook enabled and configured: a region of two blocks, one tap, which reads signal 33, and a cadence with an
event at tick 0, which is the sample instant too, as SOFS is 0. -/
def configuredBook : State :=
  let s := (State.reset.set uTbase tb_TBSTAT_LOCK 1).set uSys sys_MODESTAT_TRANS 0
  let s := (s.set uSys sys_MODESTAT_MODE Mode.ready.code).set (uCad 0) cad_PERIOD_TICKS 5000
  let s := (s.set ⟨.scbShell, 0⟩ hdr_UCTL_EN 1).set (uScb 0) hdr_UCTL_EN 1
  let s := ((s.set uPalloc (palloc_ALLOCB_VALID 0) 1).set uPalloc (palloc_ALLOCB_CLIENT 0) 0x30).set uPalloc (palloc_ALLOCA_SIZEM1 0) 1
  let s := ((s.set (uScb 0) (scb_TAP_EN 0) 1).set (uScb 0) (scb_TAP_KIND 0) 2).set (uScb 0) (scb_TAP_IDX 0) 33
  { s.bookEvent 0 with boot := .done }

/-- The state to which a command goes on. -/
def State.obey (s : State) (i : Instr) : State :=
  match exec i s with
  | .next s' => s'
  | _ => s

/-- The same book after its first capture: armed, triggered by TRIG and aborted behind its trigger record. TRIGIDX stays valid (R226). -/
def triggeredBook : State :=
  [.scorebookArm 0 0, .scorebookTrig 0 0, .scorebookSample 0 0 false, .scorebookAbort 0 0].foldl State.obey configuredBook

theorem triggeredBook_serves : triggeredBook.serves (uScb 0) 0x58 := by decide +kernel

/-- The aborted book meets R223 again. -/
theorem triggeredBook_ready : triggeredBook.get (uScb 0) scb_SCTL_ARM = 0 ∧
    triggeredBook.runsMode = true ∧
    triggeredBook.region 0x30 = some (poolBase, 0x800) ∧
    triggeredBook.enabled (uScb 0) = true ∧
    triggeredBook.bookOk 0 0x800 = true := by decide +kernel

/-- The trigger record of the first capture. -/
theorem triggeredBook_trigidxValid : triggeredBook.get (uScb 0) scb_TRIGIDX_VALID = 1 := by decide +kernel

end Sys2Proof.Machine

open Sys2Proof Sys2Proof.Machine

/-- Refutes O11: the first clause claims that an arming leaves every register but SCTL, SSTAT, NREC and WRPTR as it was, and an arming
clears TRIGIDX.VALID and PRECNT too. A book that triggered in an earlier arming has VALID 1 there. -/
theorem not_scorebook : ¬ Obligations.Scorebook := by
  unfold Obligations.Scorebook
  rintro ⟨harm, -⟩
  obtain ⟨hidle, hmode, hregion, henabled, hok⟩ := triggeredBook_ready
  have hvalid := triggeredBook_trigidxValid
  obtain ⟨s', hexec, -, -, -, -, -, -, -, hkeeps⟩ := harm 0 0 poolBase 0x800 triggeredBook (by decide)
    triggeredBook_serves hidle hmode hregion henabled hok
  have harmed : exec (.scorebookArm 0 0) triggeredBook = .next (triggeredBook.arm 0) := by
    simpa using exec_scorebookArm triggeredBook_serves (by decide) 0
  obtain rfl : triggeredBook.arm 0 = s' := Host.Outcome.next.inj (harmed.symm.trans hexec)
  have hkept : (triggeredBook.arm 0).get (uScb 0) scb_TRIGIDX_VALID = triggeredBook.get (uScb 0) scb_TRIGIDX_VALID :=
    congrArg scb_TRIGIDX_VALID.get (hkeeps ((uScb 0).addr scb_TRIGIDX_VALID.off) (by decide) (by decide))
  have hcleared := State.arm_trigidxValid hidle hmode hregion hok
  omega

end

section
/-!
PROOF. The selection instant at which the RELOCK window is over makes the angle check too (R243, R245). Where that check takes a safety
reaction, SAFE-HOLD leaves RUN, and LOST is over as soon as it is entered (R242, R249).
-/

namespace Sys2Proof.Machine

/-! ## The end of the RELOCK window (R243) -/

theorem exec_relockTimeout {s : State} {t st v : Nat} (hst : st < 2) (hdue : (s.at t).selectDue st = some v)
    (hrun : s.inMode .run = true) (hhold : s.get (uStage st) trac_TPSTAT_STATE = 2)
    (hover : (s.at t).relockOver st = true) : exec (.relockTimeout t st) s = .next ((s.at t).select st v) := by
  simp [exec, execRelockTimeout, Nat.mod_eq_of_lt hst, hdue, hrun, hhold, hover]

/-! ## A stage in HOLD whose two angles differ -/

/-- RUN with TA enabled and in HOLD since tick 0. Signal 33 says that the sensor is valid and that the observer is locked, and the
two angles differ by a quarter of a turn. A single selection instant with that difference is a DIVERGE fault, whose selector SEL6 is SAFE;
every other selector is EVENT. The last valley is 40 ticks before the end of the RELOCK window of 200 ms, with SELOFS 40 as it resets. -/
def divergedHold : State :=
  let s := (State.reset.set uTbase tb_TBSTAT_LOCK 1).set uSys sys_MODESTAT_TRANS 0
  let s := ((s.set uSys sys_MODESTAT_MODE Mode.run.code).set ⟨.gcu, 0⟩ hdr_UCTL_EN 1).set (uStage 0) hdr_UCTL_EN 1
  let s := (s.setW (sigAddr 33) 0x7FFF).set (uStage 0) trac_TSEN1_SIG 33
  let s := (s.set (uStage 0) trac_TOBS1_SIG 33).set (uStage 0) trac_TPOS_SENOFS 0x4000
  let s := ((s.set (uStage 0) trac_TDIV_N 1).set (uStage 0) hdr_REACT_SEL (4 * 2 ^ 24)).set (uStage 0) trac_TPSTAT_STATE 2
  { s with
    boot := .done, tick := 79999960
    trac := [(0, { period := 25000, len := 25000, valley := 79999960, next := some 80012460, nextPeak := true
                   selFrom := some 79999960 })] }

/-- What the clause on RELOCK_TIMEOUT asks for: the window is over at tick 80,000,000, and the observer has been locked for fewer instants
than RELOCKN. -/
theorem divergedHold_relockDue : (divergedHold.at 80000000).selectDue 0 = some 79999960 ∧
    divergedHold.inMode .run = true ∧
    divergedHold.badParity = [] ∧
    divergedHold.get (uStage 0) trac_TPSTAT_STATE = 2 ∧
    (divergedHold.at 80000000).relockOver 0 = true ∧
    (divergedHold.tr 0).locked + 1 < divergedHold.get (uStage 0) trac_TLOSS_RELOCKN ∧
    divergedHold.gstate 0 = 0 ∧
    divergedHold.sel (uStage 0) 0 < 4 ∧
    divergedHold.sel (uStage 0) 4 = 0 ∧
    divergedHold.enabled (uStage 0) = true := by decide +kernel

/-- The selection instant enters LOST, which raises LOSTPOS (R247). DIVERGE then requests a safety reaction, and with RUN left STATE shows
TSRC.SRC again (R242). -/
theorem divergedHold_relockTimeout : ∃ s',
    exec (.relockTimeout 80000000 0) divergedHold = .next s' ∧
      s'.evBit (uStage 0) 20 = true ∧
      s'.mode = Mode.safeHold.code ∧
      s'.get (uStage 0) trac_TPSTAT_STATE = 0 := by
  obtain ⟨hdue, hrun, -, hhold, hover, -⟩ := divergedHold_relockDue
  exact ⟨_, exec_relockTimeout (by decide) hdue hrun hhold hover, by decide +kernel⟩

end Sys2Proof.Machine

open Sys2Proof Sys2Proof.Machine

/-- Refutes O27: the clause on RELOCK_TIMEOUT leaves the selector of DIVERGE open (SEL6), where the clause on a sensor that stays valid has
it at EVENT. With SEL6 at SAFE, the selection instant that enters LOST can end in SAFE-HOLD, where STATE is TSRC.SRC and not 3. -/
theorem not_positionAndAsc : ¬ Obligations.PositionAndAsc := by
  unfold Obligations.PositionAndAsc
  rintro ⟨-, -, -, -, hrelock, -⟩
  obtain ⟨hdue, hrun, hparity, hhold, hover, hlocked, hnormal, hlatch, hlost, henabled⟩ := divergedHold_relockDue
  obtain ⟨s, hexec, hstate, -⟩ := hrelock 80000000 0 79999960 divergedHold (by decide) hdue hrun hparity hhold hover
    (.inr hlocked) hnormal hlatch hlost henabled
  obtain ⟨s', hexec', -, -, hstate'⟩ := divergedHold_relockTimeout
  obtain rfl : s = s' := Host.Outcome.next.inj (hexec.symm.trans hexec')
  omega

end

section
/-!
PROOF. What a carrier point leaves once it has been passed (R230 to R232). Events, faults, reactions and SAFE-HOLD leave the memory, the
points of TA's and TB's carriers, and, after the modulator has written them, MI and VLIM. There is one lemma for each operation on the way.
SAFE-HOLD starts carriers anew only where it is entered from CALIBRATE, in which no carrier runs (R231); so the lemmas speak of other modes.
The lemmas rewrite from outside in (`simp ↓`), so that a proof never looks into a state that an operation was applied to.
-/

namespace Sys2Proof.Machine

/-! ## What is kept -/

/-- The points of a carrier: the period in force, the length of the present one, the last valley, the next point and whether it is a peak,
and the valley that still has a selection instant to come. -/
structure Points where
  period : Nat
  len : Nat
  valley : Nat
  next : Option Nat
  nextPeak : Bool
  selFrom : Option Nat

def TracH.points (h : TracH) : Points := ⟨h.period, h.len, h.valley, h.next, h.nextPeak, h.selFrom⟩

/-- The fields that the modulator shows of a load point, of TA and of TB (R239, R250). -/
def modFields : List (Unit × Fld) :=
  [(uStage 0, trac_TMI_MI), (uStage 0, trac_TPSTAT_VLIM), (uStage 1, trac_TMI_MI), (uStage 1, trac_TPSTAT_VLIM)]

/-- The memory, the points of TA's and TB's carriers, whether the mode is CALIBRATE, and what the modulator shows. -/
structure Kept where
  mem : List Host.Cell
  points : List Points
  calibrates : Bool
  shown : List Nat

/-- What is kept of a state; `mi` says whether the modulator's fields count. -/
def State.kept (s : State) (mi : Bool) : Kept where
  mem := s.mem
  points := [0, 1].map fun st => (s.tr st).points
  calibrates := s.mode == Mode.calibrate.code
  shown := if mi then modFields.map fun x => s.get x.1 x.2 else []

/-- Is a word MODESTAT, or, where the modulator's fields count, one of theirs? -/
def keptWord (mi : Bool) (a : Nat) : Bool :=
  a = uSys.addr sys_MODESTAT_MODE.off || (mi && modFields.any fun x => x.1.addr x.2.off = a)

variable {mi : Bool}

/-- States that agree in registers, memory and carriers agree in what is kept. -/
theorem State.kept_congr {s s' : State} (hr : s'.regs = s.regs) (hm : s'.mem = s.mem) (ht : s'.trac = s.trac) :
    s'.kept mi = s.kept mi := by
  simp only [State.kept, State.tr, State.mode, State.get, State.getW, hr, hm, ht]

theorem State.mem_of_kept {s s' : State} (h : s'.kept mi = s.kept mi) : s'.mem = s.mem := congrArg Kept.mem h

theorem State.points_of_kept {s s' : State} {st : Nat} (h : s'.kept mi = s.kept mi) (hst : st < 2) :
    (s'.tr st).points = (s.tr st).points := by
  have hmem : st ∈ [0, 1] := by simp only [List.mem_cons, List.not_mem_nil]; omega
  have hpoints : ([0, 1].map fun k => (s'.tr k).points) = [0, 1].map fun k => (s.tr k).points := congrArg Kept.points h
  exact List.map_inj_left.mp hpoints st hmem

theorem State.get_of_kept {s s' : State} {u : Unit} {f : Fld} (h : s'.kept true = s.kept true) (hm : (u, f) ∈ modFields) :
    s'.get u f = s.get u f := by
  have hshown : (modFields.map fun x => s'.get x.1 x.2) = modFields.map fun x => s.get x.1 x.2 := congrArg Kept.shown h
  exact List.map_inj_left.mp hshown (u, f) hm

theorem State.kept_calibrates (s : State) : (s.kept mi).calibrates = s.inMode .calibrate := rfl

/-! ## Words that are not kept -/

/-- The page of every unit but SYS lies behind the first, where MODESTAT stands. -/
theorem Unit.page_pos {u : Unit} (h : u.kind ≠ .sys) : 0 < u.page := by
  obtain ⟨k, i⟩ := u
  cases k
  case sys => exact absurd rfl h
  case leg => simp only [Unit.page, legPage]; split <;> (try split) <;> omega
  case sq => simp only [Unit.page, sqPage]; split <;> omega
  all_goals simp only [Unit.page]; omega

/-! The kinds of the units on the way. -/

@[simp] theorem uStage_kind (n : Nat) : (uStage n).kind = .stage := rfl
@[simp] theorem uPhase_kind (n : Nat) : (uPhase n).kind = .phase := rfl
@[simp] theorem uCm_kind (n : Nat) : (uCm n).kind = .cm := rfl
@[simp] theorem uPod_kind (n : Nat) : (uPod n).kind = .pod := rfl
@[simp] theorem uSo_kind (n : Nat) : (uSo n).kind = .so := rfl
@[simp] theorem uCad_kind (n : Nat) : (uCad n).kind = .cad := rfl
@[simp] theorem uCv_kind (n : Nat) : (uCv n).kind = .cv := rfl
@[simp] theorem uLane_kind (n : Nat) : (uLane n).kind = .lane := rfl
@[simp] theorem uLeg_kind (st n : Nat) : (uLeg st n).kind = .leg := rfl
@[simp] theorem uSigb_kind : uSigb.kind = .sigb := rfl

theorem ne_modestat {u : Unit} (hu : ¬ u.kind = .sys) (o : Nat) : u.addr o ≠ uSys.addr sys_MODESTAT_MODE.off := by
  have hpage := Unit.page_pos hu
  have hmode : uSys.addr sys_MODESTAT_MODE.off = 0xC0 := rfl
  have haddr : u.addr o = u.page * 0x1000 + o := rfl
  omega

/-- Where the modulator's fields do not count, only SYS has a word that is kept. -/
@[simp] theorem keptWord_false {u : Unit} (hu : ¬ u.kind = .sys) (o : Nat) : keptWord false (u.addr o) = false := by
  simp [keptWord, ne_modestat hu]

/-- The modulator's fields stand at two offsets of the pages of TA and TB. -/
theorem keptWord_eq_false {a : Nat} (hm : a ≠ uSys.addr sys_MODESTAT_MODE.off)
    (hs : (a % 0x1000 ≠ trac_TMI_MI.off ∧ a % 0x1000 ≠ trac_TPSTAT_VLIM.off) ∨ a < 0x200000 ∨ 0x300000 ≤ a) :
    keptWord mi a = false := by
  have hshown : ∀ x ∈ modFields, (x.1.addr x.2.off % 0x1000 = trac_TMI_MI.off ∨
      x.1.addr x.2.off % 0x1000 = trac_TPSTAT_VLIM.off) ∧ 0x200000 ≤ x.1.addr x.2.off ∧ x.1.addr x.2.off < 0x300000 := by decide
  have hother : ∀ x ∈ modFields, x.1.addr x.2.off ≠ a := by
    rintro x hx rfl
    have := hshown x hx
    omega
  simpa [keptWord, hm] using fun _ u f hx => hother (u, f) hx

/-- A register of another unit than SYS at another offset than the modulator's two. -/
@[simp] theorem keptWord_addr {u : Unit} {o : Nat} (hu : ¬ u.kind = .sys) (ho : o < 0x1000) (hm : o ≠ trac_TMI_MI.off)
    (hv : o ≠ trac_TPSTAT_VLIM.off) : keptWord mi (u.addr o) = false := by
  have hoff : u.addr o % 0x1000 = o := by simp only [Unit.addr]; omega
  exact keptWord_eq_false (ne_modestat hu o) (.inl (by rw [hoff]; exact ⟨hm, hv⟩))

/-- A register of SYS other than MODESTAT. -/
@[simp] theorem keptWord_sys {o : Nat} (ho : o < 0x1000) (hm : o ≠ sys_MODESTAT_MODE.off) : keptWord mi (uSys.addr o) = false := by
  have haddr : ∀ p, uSys.addr p = p := fun p => by simp [Unit.addr, Unit.page, uSys]
  exact keptWord_eq_false (by simpa only [haddr] using hm) (.inr (.inl (by rw [haddr]; omega)))

@[simp] theorem keptWord_event (u : Unit) : keptWord mi (u.addr 0x10) = false := by
  by_cases hu : u.kind = .sys
  · have haddr : u.addr 0x10 = uSys.addr 0x10 := by simp [Unit.addr, Unit.page, uSys, hu]
    rw [haddr]
    exact keptWord_sys (by decide) (by decide)
  · exact keptWord_addr hu (by decide) (by decide) (by decide)

/-- Signals stand above the pages of the units. -/
@[simp] theorem keptWord_sigAddr (n : Nat) : keptWord mi (sigAddr n) = false := by
  have hmode : uSys.addr sys_MODESTAT_MODE.off = 0xC0 := rfl
  refine keptWord_eq_false ?_ (.inr (.inr ?_)) <;> (simp only [sigAddr]; omega)

/-- The words of pending sources stand in the router's page. -/
@[simp] theorem keptWord_pending (u : Unit) : keptWord mi (uRouter.addr (0x100 + 4 * (u.source / 32))) = false := by
  have hle : u.source ≤ allUnits.length := positionOf_le u allUnits
  have hlen : allUnits.length ≤ 512 := by decide +kernel
  refine keptWord_eq_false (ne_modestat (by decide) _) (.inr (.inl ?_))
  have haddr : uRouter.addr (0x100 + 4 * (u.source / 32)) = 0x20 * 0x1000 + (0x100 + 4 * (u.source / 32)) := by
    simp only [Unit.addr, Unit.page, uRouter]
  generalize u.source = n at *
  omega

variable (s : State)

/-! ## Words, branches and loops -/

@[simp ↓] theorem State.kept_setW {a : Nat} (w : Word) (h : keptWord mi a = false) : (s.setW a w).kept mi = s.kept mi := by
  obtain ⟨hmode, hshown⟩ : a ≠ uSys.addr sys_MODESTAT_MODE.off ∧ (mi = true → ∀ x ∈ modFields, x.1.addr x.2.off ≠ a) := by
    simpa [keptWord] using h
  have hget : mi = true → ∀ x ∈ modFields, (s.setW a w).get x.1 x.2 = s.get x.1 x.2 := fun hmi x hx => by
    rw [State.get, State.getW_setW_other _ _ (hshown hmi x hx), State.get]
  have hsame : (s.setW a w).mode = s.mode := congrArg sys_MODESTAT_MODE.get (State.getW_setW_other s w hmode.symm)
  cases mi
  · simp only [State.kept, hsame, State.setW_mem, State.tr, State.setW_trac]; rfl
  · simp only [State.kept, hsame, State.setW_mem, State.tr, State.setW_trac, List.map_inj_left.mpr (hget rfl)]

@[simp ↓] theorem State.kept_set {u : Unit} {f : Fld} (v : Nat) (h : keptWord mi (u.addr f.off) = false) :
    (s.set u f v).kept mi = s.kept mi := State.kept_setW s _ h

@[simp ↓] theorem State.kept_ite (c : Prop) [Decidable c] (a b : State) :
    (if c then a else b).kept mi = if c then a.kept mi else b.kept mi := apply_ite (State.kept · mi) _ _ _

/-- A loop whose rounds keep what is kept, each from a state that agrees with the first. -/
theorem State.kept_forL_from {α : Type} {f : α → State → State} (l : List α)
    (h : ∀ x ∈ l, ∀ s', s'.kept mi = s.kept mi → (f x s').kept mi = s'.kept mi) : (forL l f s).kept mi = s.kept mi := by
  induction l generalizing s with
  | nil => rfl
  | cons x l ih =>
    have hx : (f x s).kept mi = s.kept mi := h x List.mem_cons_self s rfl
    exact (ih (f x s) fun y hy s' hs => h y (List.mem_cons_of_mem x hy) s' (hs.trans hx)).trans hx

theorem State.kept_forN_from {f : Nat → State → State} {n : Nat}
    (h : ∀ i < n, ∀ s', s'.kept mi = s.kept mi → (f i s').kept mi = s'.kept mi) : (forN n f s).kept mi = s.kept mi :=
  State.kept_forL_from s _ fun i hi => h i (List.mem_range.mp hi)

theorem State.kept_forL {α : Type} {f : α → State → State} (l : List α) (h : ∀ x s', (f x s').kept mi = s'.kept mi) :
    (forL l f s).kept mi = s.kept mi := State.kept_forL_from s l fun x _ s' _ => h x s'

theorem State.kept_forN {f : Nat → State → State} (n : Nat) (h : ∀ i s', (f i s').kept mi = s'.kept mi) :
    (forN n f s).kept mi = s.kept mi := State.kept_forL s _ h

/-! ## MODESTAT and TPSTAT

The mode becomes SAFE-HOLD, and TPSTAT.STATE takes the source that is set; the rest of both words stands. -/

/-- A field of other bits, or of another word, than the one that was set. -/
theorem State.get_set_disjoint {u u' : Unit} {f g : Fld} (v : Nat) (h : f.fits)
    (hd : g.off = f.off → g.lo + g.w ≤ f.lo ∨ f.lo + f.w ≤ g.lo) (ho : f.off < 0x1000) (ho' : g.off < 0x1000) :
    (s.set u f v).get u' g = s.get u' g := by
  by_cases ha : u'.addr g.off = u.addr f.off
  · have hoff : g.off = f.off := by simp only [Unit.addr] at ha; omega
    rw [State.get, ha, State.set, State.getW_setW_same, Fld.get_put_other f g _ v h (hd hoff), State.get, ha]
  · exact State.get_set_addr _ _ _ _ _ _ ha

/-- A field apart from MODE and from what the modulator shows. -/
theorem State.kept_set_field {u : Unit} {f : Fld} (v : Nat) (h : f.fits) (ho : f.off < 0x1000)
    (hd : ∀ g ∈ [sys_MODESTAT_MODE, trac_TMI_MI, trac_TPSTAT_VLIM],
      g.off = f.off → g.lo + g.w ≤ f.lo ∨ f.lo + f.w ≤ g.lo) : (s.set u f v).kept mi = s.kept mi := by
  have hget : ∀ g ∈ [sys_MODESTAT_MODE, trac_TMI_MI, trac_TPSTAT_VLIM], ∀ u', (s.set u f v).get u' g = s.get u' g := by
    intro g hg u'
    have hoffs : ∀ g ∈ [sys_MODESTAT_MODE, trac_TMI_MI, trac_TPSTAT_VLIM], g.off < 0x1000 := by decide
    exact s.get_set_disjoint v h (hd g hg) ho (hoffs g hg)
  have hmode : (s.set u f v).mode = s.mode := hget _ (by simp) _
  have hshown : ∀ x ∈ modFields, (s.set u f v).get x.1 x.2 = s.get x.1 x.2 := by
    have hmem : ∀ x ∈ modFields, x.2 ∈ [sys_MODESTAT_MODE, trac_TMI_MI, trac_TPSTAT_VLIM] := by decide
    exact fun x hx => hget x.2 (hmem x hx) x.1
  simp only [State.kept, hmode, State.set_mem, State.tr, State.set_trac, List.map_inj_left.mpr hshown]

/-- MODESTAT but for the mode. -/
@[simp ↓] theorem State.kept_set_modestat {f : Fld} (v : Nat)
    (hf : f ∈ [sys_MODESTAT_PREV, sys_MODESTAT_ENTRY, sys_MODESTAT_VARIANT, sys_MODESTAT_TRANS]) :
    (s.set uSys f v).kept mi = s.kept mi := by
  have hall : ∀ f ∈ [sys_MODESTAT_PREV, sys_MODESTAT_ENTRY, sys_MODESTAT_VARIANT, sys_MODESTAT_TRANS],
      f.lo + f.w ≤ 32 ∧ f.off < 0x1000 ∧ ∀ g ∈ [sys_MODESTAT_MODE, trac_TMI_MI, trac_TPSTAT_VLIM],
        g.off = f.off → g.lo + g.w ≤ f.lo ∨ f.lo + f.w ≤ g.lo := by decide
  obtain ⟨hfits, hoff, happart⟩ := hall f hf
  exact s.kept_set_field v hfits hoff happart

/-- TPSTAT.STATE stands beside VLIM. -/
@[simp ↓] theorem State.kept_set_posState (u : Unit) (v : Nat) : (s.set u trac_TPSTAT_STATE v).kept mi = s.kept mi :=
  s.kept_set_field v (Fld.fits_of_ble rfl) (by decide) (by decide)

/-- SAFE-HOLD is another mode than CALIBRATE. -/
theorem State.kept_setSafeHold (hc : (s.kept mi).calibrates = false) :
    (s.set uSys sys_MODESTAT_MODE Mode.safeHold.code).kept mi = s.kept mi := by
  have hcal : ((s.set uSys sys_MODESTAT_MODE Mode.safeHold.code).mode == Mode.calibrate.code) = (s.mode == Mode.calibrate.code) := by
    have hmode : (s.set uSys sys_MODESTAT_MODE Mode.safeHold.code).mode = Mode.safeHold.code :=
      State.get_set_same _ _ _ _ (Fld.fits_of_ble rfl)
    rw [hmode]
    exact hc.symm
  have hshown : ∀ x ∈ modFields, (s.set uSys sys_MODESTAT_MODE Mode.safeHold.code).get x.1 x.2 = s.get x.1 x.2 := by
    have hoff : ∀ x ∈ modFields, x.1.addr x.2.off ≠ uSys.addr sys_MODESTAT_MODE.off := by decide
    exact fun x hx => State.get_set_addr _ _ _ _ _ _ (hoff x hx)
  simp only [State.kept, hcal, State.set_mem, State.tr, State.set_trac, List.map_inj_left.mpr hshown]

/-! ## State that no register shows -/

@[simp ↓] theorem State.kept_evSeen (x : SMap Nat) (y : Nat × SMap Nat) :
    { s with evSeen := x, evNow := y }.kept mi = s.kept mi := State.kept_congr rfl rfl rfl
@[simp ↓] theorem State.kept_pulse (x : Nat) : { s with pulse := x }.kept mi = s.kept mi := State.kept_congr rfl rfl rfl
@[simp ↓] theorem State.kept_badParity (x : List Nat) : { s with badParity := x }.kept mi = s.kept mi := State.kept_congr rfl rfl rfl
@[simp ↓] theorem State.kept_qty (x : SMap Word) : { s with qty := x }.kept mi = s.kept mi := State.kept_congr rfl rfl rfl
@[simp ↓] theorem State.kept_trans (x : Option Trans) : { s with trans := x }.kept mi = s.kept mi := State.kept_congr rfl rfl rfl
@[simp ↓] theorem State.kept_pair (x : PairH) : { s with pair := x }.kept mi = s.kept mi := State.kept_congr rfl rfl rfl
@[simp ↓] theorem State.kept_conv (x : RegH) : { s with conv := x }.kept mi = s.kept mi := State.kept_congr rfl rfl rfl
@[simp ↓] theorem State.kept_convPhases (x : SMap PhaseH) (y : RegH) :
    { s with convPhases := x, conv := y }.kept mi = s.kept mi := State.kept_congr rfl rfl rfl
@[simp ↓] theorem State.kept_preOn (x : Nat) : { s with preOn := x }.kept mi = s.kept mi := State.kept_congr rfl rfl rfl
@[simp ↓] theorem State.kept_regDisAt (x : Nat) : { s with regDisAt := x }.kept mi = s.kept mi := State.kept_congr rfl rfl rfl
@[simp ↓] theorem State.kept_authKeep (x : Bool) : { s with authKeep := x }.kept mi = s.kept mi := State.kept_congr rfl rfl rfl
@[simp ↓] theorem State.kept_shUnits (x : List Nat) : { s with shUnits := x }.kept mi = s.kept mi := State.kept_congr rfl rfl rfl
@[simp ↓] theorem State.kept_outHold (x : SMap Nat) : { s with outHold := x }.kept mi = s.kept mi := State.kept_congr rfl rfl rfl
@[simp ↓] theorem State.kept_freeCtr (x : Nat) : { s with freeCtr := x }.kept mi = s.kept mi := State.kept_congr rfl rfl rfl
@[simp ↓] theorem State.kept_testAt (x : Nat) : { s with testAt := x }.kept mi = s.kept mi := State.kept_congr rfl rfl rfl

@[simp ↓] theorem State.kept_at (t : Nat) : (s.at t).kept mi = s.kept mi := State.kept_congr (by simp) (by simp) (by simp)
@[simp ↓] theorem State.kept_note (k : Nat) : (s.note k).kept mi = s.kept mi := State.kept_congr rfl rfl rfl
@[simp ↓] theorem State.kept_modStg (st : Nat) (f : StageH → StageH) : (s.modStg st f).kept mi = s.kept mi :=
  State.kept_congr rfl rfl rfl
@[simp ↓] theorem State.kept_modCh (c : Nat) (f : ChanH → ChanH) : (s.modCh c f).kept mi = s.kept mi := State.kept_congr rfl rfl rfl
@[simp ↓] theorem State.kept_modCad (n : Nat) (f : CadH → CadH) : (s.modCad n f).kept mi = s.kept mi := State.kept_congr rfl rfl rfl
@[simp ↓] theorem State.kept_modKn (n : Nat) (f : KernH → KernH) : (s.modKn n f).kept mi = s.kept mi := State.kept_congr rfl rfl rfl
@[simp ↓] theorem State.kept_modLink (f : LinkH → LinkH) : (s.modLink f).kept mi = s.kept mi := State.kept_congr rfl rfl rfl
@[simp ↓] theorem State.kept_modSo (k : Nat) (f : SoH → SoH) : (s.modSo k f).kept mi = s.kept mi := State.kept_congr rfl rfl rfl
@[simp ↓] theorem State.kept_modCv (n : Nat) (f : ConvH → ConvH) : (s.modCv n f).kept mi = s.kept mi := State.kept_congr rfl rfl rfl
@[simp ↓] theorem State.kept_modPair (f : PairH → PairH) : (s.modPair f).kept mi = s.kept mi := State.kept_congr rfl rfl rfl
@[simp ↓] theorem State.kept_modPod (p : Nat) (f : PodH → PodH) : (s.modPod p f).kept mi = s.kept mi := State.kept_congr rfl rfl rfl
@[simp ↓] theorem State.kept_modPhase (n : Nat) (f : PhaseH → PhaseH) : (s.modPhase n f).kept mi = s.kept mi :=
  State.kept_congr rfl rfl rfl
@[simp ↓] theorem State.kept_clearCmds (m : Nat) : (s.clearCmds m).kept mi = s.kept mi := State.kept_congr rfl rfl rfl

theorem State.tr_modTr_same (st : Nat) (f : TracH → TracH) : (s.modTr st f).tr st = f (s.tr st) := sget_sset_same _ _ _

theorem State.tr_modTr_other {st st' : Nat} (f : TracH → TracH) (h : st' ≠ st) : (s.modTr st f).tr st' = s.tr st' :=
  sget_sset_other _ _ h

/-- A change of a stage's traction state that leaves the points of its carrier, or that is of neither TA nor TB. -/
theorem State.kept_modTr {st : Nat} {f : TracH → TracH} (h : st < 2 → ∀ x, (f x).points = x.points) :
    (s.modTr st f).kept mi = s.kept mi := by
  have hpoints : ∀ k ∈ [0, 1], ((s.modTr st f).tr k).points = (s.tr k).points := by
    intro k hk
    by_cases hst : k = st
    · have hlt : k < 2 := by simp only [List.mem_cons, List.not_mem_nil, or_false] at hk; omega
      subst hst
      rw [State.tr_modTr_same, h hlt]
    · rw [State.tr_modTr_other _ _ hst]
  simp only [State.kept, List.map_inj_left.mpr hpoints]
  rfl

/-! ## COR fields, counters and events (R93, R94) -/

@[simp ↓] theorem State.kept_hold (u : Unit) (f : Fld) : (s.hold u f).kept mi = s.kept mi := by
  unfold State.hold
  split <;> rfl

@[simp ↓] theorem State.kept_cor {u : Unit} {f : Fld} (v : Nat) (h : keptWord mi (u.addr f.off) = false) :
    (s.cor u f v).kept mi = s.kept mi := by simp [State.cor, h]

@[simp ↓] theorem State.kept_first {u : Unit} {g f : Fld} (v : Nat) (h : keptWord mi (u.addr f.off) = false) :
    (s.first u g f v).kept mi = s.kept mi := by simp [State.first, h]

@[simp ↓] theorem State.kept_cause {u : Unit} {f : Fld} (v : Nat) (h : keptWord mi (u.addr f.off) = false) :
    (s.cause u f v).kept mi = s.kept mi := by simp [State.cause, h]

@[simp ↓] theorem State.kept_incBy {u : Unit} {f : Fld} (n : Nat) (h : keptWord mi (u.addr f.off) = false) :
    (s.incBy u f n).kept mi = s.kept mi := by simp [State.incBy, h]

@[simp ↓] theorem State.kept_inc {u : Unit} {f : Fld} (h : keptWord mi (u.addr f.off) = false) :
    (s.inc u f).kept mi = s.kept mi := s.kept_incBy 1 h

@[simp ↓] theorem State.kept_setBit {u : Unit} {o : Nat} (b : Nat) (h : keptWord mi (u.addr o) = false) :
    (s.setBit u o b).kept mi = s.kept mi := by simp [State.setBit, h]

@[simp ↓] theorem State.kept_occur (u : Unit) (b : Nat) : (s.occur u b).kept mi = s.kept mi := by
  dsimp only [State.occur]
  simp

@[simp ↓] theorem State.kept_setPending (u : Unit) : (s.setPending u).kept mi = s.kept mi := by
  simp [State.setPending]

@[simp ↓] theorem State.kept_deliver (u : Unit) : (s.deliver u).kept mi = s.kept mi := by
  simp [State.deliver]

@[simp ↓] theorem State.kept_raise (u : Unit) (b : Nat) : (s.raise u b).kept mi = s.kept mi := by
  simp [State.raise]

/-- A fault stands in the header of its unit's page (R90, R91). -/
@[simp ↓] theorem State.kept_fault {u : Unit} (code : Nat) (hu : ¬ u.kind = .sys) : (s.fault u code).kept mi = s.kept mi := by
  simp +decide [State.fault, State.ownFault, hu]

/-! ## Signals and the quantities that stages publish (R26, R252) -/

@[simp ↓] theorem State.kept_emuNote (n : Nat) : (s.emuNote n).kept mi = s.kept mi := by
  simp [State.emuNote]

@[simp ↓] theorem State.kept_writeSig (n : Nat) (w : Word) : (s.writeSig n w).kept mi = s.kept mi := by
  dsimp only [State.writeSig]
  simp

@[simp ↓] theorem State.kept_pubEntry (u : Unit) (o q i : Nat) (w : Word) :
    (s.pubEntry u o q i w).kept mi = s.kept mi := by simp [State.pubEntry, State.publish, State.drive]

@[simp ↓] theorem State.kept_pubEntrySrc (u : Unit) (o x q i : Nat) (w : Word) :
    (s.pubEntrySrc u o x q i w).kept mi = s.kept mi := by simp [State.pubEntrySrc]

@[simp ↓] theorem State.kept_pubStage (st q : Nat) (w : Word) : (s.pubStage st q w).kept mi = s.kept mi := by
  simp [State.pubStage, State.kept_forN]

@[simp ↓] theorem State.kept_setQtyI (st q : Nat) (v : Int) : (s.setQtyI st q v).kept mi = s.kept mi := by
  simp [State.setQtyI, State.setQty]

@[simp ↓] theorem State.kept_setObc (x q : Nat) (v : Int) : (s.setObc x q v).kept mi = s.kept mi := by
  dsimp only [State.setObc]
  simp [State.kept_forN]

/-! ## The mode (R69, R75) -/

@[simp ↓] theorem State.kept_preempt (c : Nat) : (s.preempt c).kept mi = s.kept mi := by
  dsimp only [State.preempt]
  simp +decide

@[simp ↓] theorem State.kept_dropTake : s.dropTake.kept mi = s.kept mi := by simp [State.dropTake]

@[simp ↓] theorem State.kept_drillMode : s.drillMode.kept mi = s.kept mi := by
  unfold State.drillMode
  split
  · dsimp only [State.drillEnd]
    simp +decide
  · rfl

@[simp ↓] theorem State.kept_regDisEnd : s.regDisEnd.kept mi = s.kept mi := by
  simp +decide [State.regDisEnd]

@[simp ↓] theorem State.kept_pilotsFollow : s.pilotsFollow.kept mi = s.kept mi := by
  simp +decide [State.pilotsFollow]

@[simp ↓] theorem State.kept_followLeave : s.followLeave.kept mi = s.kept mi :=
  s.kept_forN _ fun p s => by simp +decide

/-- The mode that is set is SAFE-HOLD. -/
@[simp ↓] theorem State.kept_setMode (e v : Nat) (hc : (s.kept mi).calibrates = false) :
    (s.setMode Mode.safeHold.code e v).kept mi = s.kept mi := by
  simp +decide [State.setMode, State.kept_setSafeHold, hc]

/-! ## The stage turn-off (R267) -/

@[simp ↓] theorem State.kept_setProt (st : Nat) : (s.setProt st).kept mi = s.kept mi := by
  simp [State.setProt]

@[simp ↓] theorem State.kept_regSetState (v : Nat) : (s.regSetState v).kept mi = s.kept mi := by
  simp +decide [State.regSetState]

@[simp ↓] theorem State.kept_cadErr (n c : Nat) : (s.cadErr n c).kept mi = s.kept mi := by
  simp +decide [State.cadErr]

/-- The carriers that a claim speaks of are TA's and TB's. -/
@[simp ↓] theorem State.kept_carrierStopped {st : Nat} (hst : 2 ≤ st) : (s.carrierStopped st).kept mi = s.kept mi := by
  unfold State.carrierStopped
  rw [State.kept_modTr _ (by omega)]
  exact s.kept_forN _ fun n s => by simp

@[simp ↓] theorem State.kept_regPhasesIdle : s.regPhasesIdle.kept mi = s.kept mi := by
  have hphase : ∀ n, ∀ s : State, (s.set (uPhase n) ⟨ph_PHSTAT_STATE.off, 0, 10⟩ 0).kept mi = s.kept mi :=
    fun n s => s.kept_set 0 (keptWord_addr (by simp) (by decide) (by decide) (by decide))
  unfold State.regPhasesIdle
  extract_lets cleared conv off idle counted
  have hoff : off.kept mi = s.kept mi := (cleared.kept_convPhases _ _).trans (s.kept_clearCmds 2)
  have hidle : idle.kept mi = s.kept mi := (off.kept_forN _ hphase).trans hoff
  simp +decide [counted, hidle]

@[simp ↓] theorem State.kept_cmFrz (n : Nat) : (s.cmFrz n).kept mi = s.kept mi := by
  simp +decide [State.cmFrz]

@[simp ↓] theorem State.kept_cmSetState (n v : Nat) : (s.cmSetState n v).kept mi = s.kept mi := by
  simp +decide [State.cmSetState]

@[simp ↓] theorem State.kept_cmStage (n : Nat) (b : Bool) : (s.cmStage n b).kept mi = s.kept mi := by
  simp [State.cmStage]

@[simp ↓] theorem State.kept_setGstate (st v : Nat) : (s.setGstate st v).kept mi = s.kept mi := by
  simp +decide [State.setGstate]

@[simp ↓] theorem State.kept_turnOffWith (st : Nat) (asc : Bool) : (s.turnOffWith st asc).kept mi = s.kept mi := by
  unfold State.turnOffWith
  extract_lets g cut started timed
  have hcut : cut.kept mi = s.kept mi := s.kept_forL _ fun _ _ => rfl
  have hheld : ∀ x : TracH, { x with holdOff := true }.points = x.points := fun _ => rfl
  simp [timed, started, hcut, State.kept_modTr, hheld]

@[simp ↓] theorem State.kept_turnOffReq (st : Nat) : (s.turnOffReq st).kept mi = s.kept mi := by
  simp [State.turnOffReq, State.turnOff]

/-! ## The way out of RUN (R296, R314, R358) -/

@[simp ↓] theorem State.kept_preAbort (c : Nat) : (s.preAbort c).kept mi = s.kept mi := by
  dsimp only [State.preAbort]
  simp +decide

@[simp ↓] theorem State.kept_regDropHost (c : Nat) : (s.regDropHost c).kept mi = s.kept mi := by
  simp +decide [State.regDropHost]

@[simp ↓] theorem State.kept_regDisStart : s.regDisStart.kept mi = s.kept mi := by
  dsimp only [State.regDisStart]
  simp +decide

@[simp ↓] theorem State.kept_regLeaveRun : s.regLeaveRun.kept mi = s.kept mi := by
  simp +decide [State.regLeaveRun]

@[simp ↓] theorem State.kept_chopLeave : s.chopLeave.kept mi = s.kept mi := by
  simp +decide [State.chopLeave, State.chopEnd]

@[simp ↓] theorem State.kept_cmAbortStart (n c : Nat) : (s.cmAbortStart n c).kept mi = s.kept mi := by
  simp +decide [State.cmAbortStart]

@[simp ↓] theorem State.kept_cmLeaveRun (n : Nat) : (s.cmLeaveRun n).kept mi = s.kept mi := by
  simp [State.cmLeaveRun]

@[simp ↓] theorem State.kept_tracLeaveRun (st : Nat) : (s.tracLeaveRun st).kept mi = s.kept mi := s.kept_set_posState _ _

@[simp ↓] theorem State.kept_leaveRun : s.leaveRun.kept mi = s.kept mi := by
  simp [State.leaveRun, State.kept_forN]

@[simp ↓] theorem State.kept_routeEnd : s.routeEnd.kept mi = s.kept mi := by
  simp +decide [State.routeEnd]

/-! ## Outputs that follow the mode (R340, R476, R531) -/

@[simp ↓] theorem State.kept_authFollow : s.authFollow.kept mi = s.kept mi := by
  simp +decide [State.authFollow]

@[simp ↓] theorem State.kept_ilkSet : s.ilkSet.kept mi = s.kept mi := by
  simp +decide [State.ilkSet]

@[simp ↓] theorem State.kept_soDrive (k : Nat) : (s.soDrive k).kept mi = s.kept mi := by
  simp +decide [State.soDrive]

@[simp ↓] theorem State.kept_sosNext : s.sosNext.kept mi = s.kept mi := by
  unfold State.sosNext
  extract_lets sos started commanded failed
  have hstarted : started.kept mi = s.kept mi := by
    unfold started
    split
    · rfl
    · split <;> simp
  simp +decide [failed, commanded, sos, hstarted]

@[simp ↓] theorem State.kept_soFollow (k : Nat) : (s.soFollow k).kept mi = s.kept mi := by
  unfold State.soFollow
  extract_lets v was owned commanded per changed
  have howned : owned.kept mi = s.kept mi := s.kept_set _ (keptWord_addr (by simp) (by decide) (by decide) (by decide))
  have hcommanded : commanded.kept mi = s.kept mi :=
    (owned.kept_set _ (keptWord_addr (by simp) (by decide) (by decide) (by decide))).trans howned
  have hchanged : changed.kept mi = s.kept mi := (commanded.kept_modSo k _).trans hcommanded
  split
  · exact (owned.kept_soDrive k).trans howned
  · exact (changed.kept_soDrive k).trans hchanged

@[simp ↓] theorem State.kept_outputsFollow : s.outputsFollow.kept mi = s.kept mi := by
  simp +decide [State.outputsFollow, State.soFollowAll, State.kept_forN]

@[simp ↓] theorem State.kept_msgFollow : s.msgFollow.kept mi = s.kept mi := by
  simp [State.msgFollow, State.sendMsg]

/-! ## Entry to SAFE-HOLD and the reactions (R92, R275, R512 to R514) -/

theorem State.kept_enterSafeHold (hc : (s.kept mi).calibrates = false) : s.enterSafeHold.kept mi = s.kept mi := by
  have hmode : s.mode ≠ Mode.calibrate.code := by simpa [State.kept] using hc
  unfold State.enterSafeHold
  extract_lets from_ preempted pair dropped kept entered off left routed followed
  have hdropped : dropped.kept mi = s.kept mi := (State.kept_dropTake _).trans (s.kept_preempt 10)
  have hentered : entered.kept mi = s.kept mi := by simp [entered, kept, hdropped, hc]
  have hoff : off.kept mi = s.kept mi := (State.kept_forN _ _ fun st s => by simp).trans hentered
  simp [followed, routed, left, hoff, from_, hmode]

@[simp ↓] theorem State.kept_safety (c src : Nat) (hc : (s.kept mi).calibrates = false) :
    (s.safety c src).kept mi = s.kept mi := by
  unfold State.safety
  extract_lets firstNow caused units first counted raised
  have hraised : raised.kept mi = s.kept mi := by simp +decide [raised, counted, first, units, caused]
  simp [State.kept_enterSafeHold, hraised, hc]

@[simp ↓] theorem State.kept_zeroOutputs (u : Unit) : (s.zeroOutputs u).kept mi = s.kept mi :=
  s.kept_forN _ fun n s => by simp

@[simp ↓] theorem State.kept_holdOut (u : Unit) (code : Nat) : (s.holdOut u code).kept mi = s.kept mi := by
  dsimp only [State.holdOut]
  simp

/-- The trip log has eight entries, behind the offsets of the modulator's fields. -/
@[simp ↓] theorem State.kept_logEntry (st leg kind num : Nat) : (s.logEntry st leg kind num).kept mi = s.kept mi := by
  have hlog : ∀ n < 8, ∀ s : State, ∀ f ∈ [stg_FLOGA_LEG n, stg_FLOGA_KIND n, stg_FLOGA_NUM n, stg_FLOGA_VALID n, stg_FLOGT_STAMP n],
      ∀ v, (s.set (uStage st) f v).kept mi = s.kept mi := by
    intro n hn s f hf v
    have hoff : ∀ n < 8, ∀ f ∈ [stg_FLOGA_LEG n, stg_FLOGA_KIND n, stg_FLOGA_NUM n, stg_FLOGA_VALID n, stg_FLOGT_STAMP n],
        f.off < 0x1000 ∧ f.off ≠ trac_TMI_MI.off ∧ f.off ≠ trac_TPSTAT_VLIM.off := by decide
    obtain ⟨hpage, hmi, hvlim⟩ := hoff n hn f hf
    exact s.kept_set v (keptWord_addr (by simp) hpage hmi hvlim)
  unfold State.logEntry
  extract_lets n u entry valid
  split
  next hn => simp +decide [valid, entry, u, hlog n hn]
  · rfl

@[simp ↓] theorem State.kept_clearLog (st : Nat) : (s.clearLog st).kept mi = s.kept mi := by
  have hword : ∀ k < 8, ∀ o ∈ [0x280 + 8 * k, 0x284 + 8 * k], keptWord mi ((uStage st).addr o) = false := by
    intro k hk o ho
    have hoff : o < 0x1000 ∧ 0x280 ≤ o := by simp only [List.mem_cons, List.not_mem_nil, or_false] at ho; omega
    have hshown : trac_TMI_MI.off < 0x280 ∧ trac_TPSTAT_VLIM.off < 0x280 := by decide
    exact keptWord_addr (by simp) hoff.1 (by omega) (by omega)
  unfold State.clearLog
  extract_lets u logs
  have hlogs : logs.kept mi = s.kept mi := s.kept_forN_from fun k hk s _ => by
    rw [State.kept_setW _ _ (hword k hk _ (by simp)), State.kept_setW _ _ (hword k hk _ (by simp))]
  simp +decide [u, hlogs]

@[simp ↓] theorem State.kept_setLatch (st : Nat) (hc : (s.kept mi).calibrates = false) :
    (s.setLatch st).kept mi = s.kept mi := by
  unfold State.setLatch
  extract_lets g u latched done reset shown raised
  have hraised : raised.kept mi = s.kept mi := by simp +decide [raised, shown, reset, latched, State.ownFault, u]
  split
  · exact hraised
  · split <;> simp [hraised, hc]

@[simp ↓] theorem State.kept_stageOff (st : Nat) (hc : (s.kept mi).calibrates = false) :
    (s.stageOff st).kept mi = s.kept mi := by
  unfold State.stageOff
  extract_lets g off opened logged
  have hoff : off.kept mi = s.kept mi := s.kept_turnOffReq g
  have hopened : opened.kept mi = s.kept mi := by simp [opened, hoff]
  have hlogged : logged.kept mi = s.kept mi := (opened.kept_logEntry g 15 4 0).trans hopened
  split
  · rfl
  · exact (logged.kept_setLatch g (hlogged ▸ hc)).trans hlogged

@[simp ↓] theorem State.kept_react (u : Unit) (k : Nat) (hc : (s.kept mi).calibrates = false) :
    (s.react u k).kept mi = s.kept mi := by
  unfold State.react
  split
  case h_4 => split <;> simp [hc]
  all_goals simp [hc]

@[simp ↓] theorem State.kept_sigErr (n c : Nat) : (s.sigErr n c).kept mi = s.kept mi := by
  simp +decide [State.sigErr]

@[simp ↓] theorem State.kept_sigParity (n : Nat) (hc : (s.kept mi).calibrates = false) :
    (s.sigParity n).kept mi = s.kept mi := by
  simp [State.sigParity, State.faultR, hc]

/-! ## Edges (R240, R257 to R259) -/

@[simp ↓] theorem State.kept_overlap (st k : Nat) (hc : (s.kept mi).calibrates = false) :
    (s.overlap st k).kept mi = s.kept mi := by
  unfold State.overlap
  extract_lets counted legs raised
  have hraised : raised.kept mi = s.kept mi := by simp +decide [raised, legs, counted]
  have hfault : (raised.fault (uStage st) 0x0420).kept mi = s.kept mi := by simp [hraised]
  exact (State.kept_react _ _ 1 (hfault ▸ hc)).trans hfault

@[simp ↓] theorem State.kept_replan (st leg f32 : Nat) (hc : (s.kept mi).calibrates = false) :
    (s.replan st leg f32).kept mi = s.kept mi := by
  unfold State.replan
  split
  · rfl
  · exact (State.kept_forL_from _ _ fun b _ s hs => s.kept_overlap st b.1 (hs ▸ hc)).trans rfl

@[simp ↓] theorem State.kept_legCmd (st leg t32 : Nat) (hi lo : Bool) (hc : (s.kept mi).calibrates = false) :
    (s.legCmd st leg t32 hi lo).kept mi = s.kept mi := by
  simp [State.legCmd, hc]

@[simp ↓] theorem State.kept_halfEdges (st leg t h on : Nat) (peak : Bool) (hc : (s.kept mi).calibrates = false) :
    (s.halfEdges st leg t h on peak).kept mi = s.kept mi := by
  simp [State.halfEdges, hc]

@[simp ↓] theorem State.kept_countOn (st leg : Nat) (full : Bool) (n : Nat) : (s.countOn st leg full n).kept mi = s.kept mi :=
  s.kept_modStg st _

@[simp ↓] theorem State.kept_sixStepTurns (ldr st leg : Nat) (second : Bool) (q first n lo w : Nat)
    (hc : (s.kept mi).calibrates = false) :
    (s.sixStepTurns ldr st leg second q first n lo w).kept mi = s.kept mi := by
  induction n generalizing s lo w with
  | zero => rfl
  | succ n ih =>
    unfold State.sixStepTurns
    extract_lets d p0 p1 switched
    have hswitched : switched.kept mi = s.kept mi := by simp [switched, hc]
    split
    · exact hswitched
    · exact (ih _ _ _ (hswitched ▸ hc)).trans hswitched

@[simp ↓] theorem State.kept_sixStepEdges (ldr st leg t h : Nat) (second : Bool) (hc : (s.kept mi).calibrates = false) :
    (s.sixStepEdges ldr st leg t h second).kept mi = s.kept mi := by
  simp [State.sixStepEdges, hc]

/-- The half period that begins at a carrier point. -/
@[simp ↓] theorem State.kept_placeHalf (ldr st : Nat) (second peak : Bool) (d h : Nat) (hc : (s.kept mi).calibrates = false) :
    (s.placeHalf ldr st second peak d h).kept mi = s.kept mi := by
  unfold State.placeHalf
  extract_lets x
  split
  · rfl
  · refine s.kept_forL_from _ fun y _ s hs => ?_
    have hcal : (s.kept mi).calibrates = false := hs ▸ hc
    simp [hcal]

/-! ## The modulator (R238, R239, R251) -/

@[simp ↓] theorem State.kept_dutyQty (ldr q0 : Nat) (six : Bool) (duties : List (Int × Nat)) :
    (s.dutyQty ldr q0 six duties).kept mi = s.kept mi := s.kept_forL _ fun y s => by simp


/-! ## Cadences (R55 to R58, R485) -/

@[simp ↓] theorem State.kept_cadStop (n : Nat) : (s.cadStop n).kept mi = s.kept mi := by
  simp +decide [State.cadStop]

@[simp ↓] theorem State.kept_cadPoint (n at_ : Nat) : (s.cadPoint n at_).kept mi = s.kept mi := by
  simp [State.cadPoint]

@[simp ↓] theorem State.kept_syncSend (st at_ : Nat) : (s.syncSend st at_).kept mi = s.kept mi := by
  simp [State.syncSend]

@[simp ↓] theorem State.kept_carrierPoint (st : Nat) (peak : Bool) (at_ : Nat) :
    (s.carrierPoint st peak at_).kept mi = s.kept mi := by
  simp [State.carrierPoint, State.kept_forN]

/-! ## The converter follows its demand (R308 to R320) -/

@[simp ↓] theorem State.kept_regThresholds (at_ : Nat) : (s.regThresholds at_).kept mi = s.kept mi := by
  simp [State.regThresholds]

@[simp ↓] theorem State.kept_regNewOn : s.regNewOn.kept mi = s.kept mi := by
  unfold State.regNewOn
  extract_lets n ranked stopped counted conv reset
  have hranked : ranked.kept mi = s.kept mi := s.kept_forN _ fun i s => by simp +decide
  have hstopped : stopped.kept mi = s.kept mi := by simp [stopped, hranked]
  have hcounted : counted.kept mi = s.kept mi := by simp +decide [counted, hstopped]
  have hreset : reset.kept mi = s.kept mi := (counted.kept_conv _).trans hcounted
  simp [hreset]

@[simp ↓] theorem State.kept_phOn (n t : Nat) (hc : (s.kept mi).calibrates = false) : (s.phOn n t).kept mi = s.kept mi := by
  unfold State.phOn
  extract_lets commanded counted timed
  have hcommanded : commanded.kept mi = s.kept mi := by simp +decide [commanded, State.phCmd, hc]
  have hcounted : counted.kept mi = s.kept mi := by simp +decide [counted, hcommanded]
  have htimed : timed.kept mi = s.kept mi := by
    unfold timed
    split <;> simp +decide [hcounted]
  exact htimed

@[simp ↓] theorem State.kept_phStart (n t : Nat) (hc : (s.kept mi).calibrates = false) :
    (s.phStart n t).kept mi = s.kept mi := by
  simp [State.phStart, hc]

@[simp ↓] theorem State.kept_loadStep (at_ : Nat) (hc : (s.kept mi).calibrates = false) :
    (s.loadStep at_).kept mi = s.kept mi := by
  unfold State.loadStep
  split
  · extract_lets was below shedding idle active ranked conv joined started raised
    have hactive : active.kept mi = s.kept mi := s.kept_forL _ fun n s => by simp +decide
    have hjoined : joined.kept mi = s.kept mi := (active.kept_regNewOn).trans hactive
    have hstarted : started.kept mi = s.kept mi :=
      (joined.kept_forL_from _ fun n _ s hs => s.kept_phStart n _ (by rw [hs, hjoined]; exact hc)).trans hjoined
    simp +decide [raised, hstarted]
  · rfl

@[simp ↓] theorem State.kept_regUpdate (hc : (s.kept mi).calibrates = false) : s.regUpdate.kept mi = s.kept mi := by
  simp [State.regUpdate, hc]

/-! ## Pods at a load point (R41, R136, R171, R172)

An entry of the pods' state may name any pod and any output, so what a pod writes may stand where the modulator's fields stand: these
lemmas leave those out. -/

@[simp ↓] theorem State.kept_setRef (st i : Nat) (w : Word) (hc : (s.kept mi).calibrates = false) :
    (s.setRef st i w).kept mi = s.kept mi := by
  unfold State.setRef
  extract_lets latched held stamped
  have hlatched : latched.kept mi = s.kept mi := rfl
  have hstamped : stamped.kept mi = s.kept mi := by
    unfold stamped
    split
    · exact (latched.kept_modTr (f := fun h => { h with thetaAt := some latched.tick }) fun _ _ => rfl).trans hlatched
    · exact hlatched
  simp [hstamped, hc]

@[simp ↓] theorem State.kept_latchOut (p k : Nat) (w : Word) (hc : (s.kept false).calibrates = false) :
    (s.latchOut p k w).kept false = s.kept false := by
  unfold State.latchOut
  extract_lets shown tgt
  have hshown : shown.kept false = s.kept false := s.kept_setW w (keptWord_false (by simp) _)
  split <;> simp [hshown, hc]

@[simp ↓] theorem State.kept_podZero (p : Nat) (hc : (s.kept false).calibrates = false) :
    (s.podZero p).kept false = s.kept false :=
  s.kept_forN_from fun k _ s hs => s.kept_latchOut p k 0 (hs ▸ hc)

@[simp ↓] theorem State.kept_podReact (p k : Nat) (hc : (s.kept false).calibrates = false) :
    (s.podReact p k).kept false = s.kept false := by
  unfold State.podReact
  split
  case h_4 =>
    split
    · exact s.kept_podZero p hc
    · exact s.kept_forL_from _ fun st _ s hs => s.kept_stageOff st (hs ▸ hc)
  all_goals simp [hc]

@[simp ↓] theorem State.kept_urgentAll (kind num : Nat) : (s.urgentAll kind num).kept mi = s.kept mi := by
  have hurgent : ∀ n e, ∀ s : State, (s.urgent n e).kept mi = s.kept mi := fun n e s => by simp +decide [State.urgent]
  simp [State.urgentAll, State.kept_forN, hurgent]

@[simp ↓] theorem State.kept_laneFree (n : Nat) : (s.laneFree n).kept mi = s.kept mi := by
  unfold State.laneFree
  extract_lets u freed
  have hfreed : freed.kept mi = s.kept mi := by simp +decide [freed, u]
  split
  · exact hfreed
  · split
    · refine ((freed.set u hdr_USTAT_STATE 2).kept_testAt freed.tick).trans ?_
      simp +decide [u, hfreed]
    · simp +decide [u, hfreed]

@[simp ↓] theorem State.kept_dropRun (p : Nat) : (s.dropRun p).kept false = s.kept false := by
  unfold State.dropRun State.abandonRun
  extract_lets waiting freed stopped idle
  have hfreed : freed.kept false = s.kept false := by
    have hwaiting : waiting.kept false = s.kept false := State.kept_congr rfl rfl rfl
    unfold freed
    split <;> simp [hwaiting]
  simp [idle, stopped, hfreed]

@[simp ↓] theorem State.kept_overrun (p : Nat) (hc : (s.kept false).calibrates = false) :
    (s.overrun p).kept false = s.kept false := by
  unfold State.overrun
  extract_lets u dropped counted raised reacted
  have hraised : raised.kept false = s.kept false := by simp [raised, counted, dropped, u, State.incSat]
  have hreported : ((reacted.fault u 0x0120).raise u 9).kept false = s.kept false := by simp [reacted, u, hraised]
  split
  · exact (State.kept_podReact _ p 1 (hreported ▸ hc)).trans hreported
  · exact hraised

@[simp ↓] theorem State.kept_podApply (p : Nat) (hc : (s.kept false).calibrates = false) :
    (s.podApply p).kept false = s.kept false := by
  unfold State.podApply
  extract_lets requested ended
  have hrequested : requested.kept false = s.kept false := s.kept_urgentAll 1 p
  have hended : ended.kept false = s.kept false := (requested.kept_modPod p _).trans hrequested
  split
  · exact (requested.kept_overrun p (hrequested ▸ hc)).trans hrequested
  next outs _ =>
    extract_lets latched
    have hlatched : latched.kept false = s.kept false := (ended.kept_modPod p _).trans hended
    split
    · exact hended
    · exact (latched.kept_forL_from outs fun o _ s hs =>
        s.kept_latchOut p o.1 o.2 (by rw [hs, hlatched]; exact hc)).trans hlatched

@[simp ↓] theorem State.kept_appliesDue (hc : (s.kept false).calibrates = false) :
    s.appliesDue.kept false = s.kept false :=
  s.kept_forL_from _ fun p _ s hs => by
    have hcal : (s.kept false).calibrates = false := hs ▸ hc
    simp [hcal]

@[simp ↓] theorem State.kept_dlLoad (st : Nat) : (s.dlLoad st).kept mi = s.kept mi := State.kept_congr rfl rfl rfl

@[simp ↓] theorem State.kept_loadLow (st : Nat) : (s.loadLow st).kept mi = s.kept mi := by
  simp [State.loadLow, State.kept_forL]

@[simp ↓] theorem State.kept_loadPoint (st : Nat) (hc : (s.kept false).calibrates = false) :
    (s.loadPoint st).kept false = s.kept false := by
  simp [State.loadPoint, hc]

/-! ## Intervals (R61, R166, R172) -/

@[simp ↓] theorem State.kept_podFitTest (p interval : Nat) (hc : (s.kept false).calibrates = false) :
    (s.podFitTest p interval).kept false = s.kept false := by
  simp [State.podFitTest, hc]

@[simp ↓] theorem State.kept_intervalBegins (cad interval : Nat) (hc : (s.kept false).calibrates = false) :
    (s.intervalBegins cad interval).kept false = s.kept false := by
  unfold State.intervalBegins
  extract_lets begun
  have hbegun : begun.kept false = s.kept false := s.kept_modCad cad _
  split
  · rfl
  · refine (begun.kept_forN_from fun p _ s' hs => ?_).trans hbegun
    have hcal : (s'.kept false).calibrates = false := by rw [hs, hbegun]; exact hc
    simp [hcal]

@[simp ↓] theorem State.kept_intervalsFollow (st : Nat) (hc : (s.kept false).calibrates = false) :
    (s.intervalsFollow st).kept false = s.kept false :=
  s.kept_forN_from fun n _ s hs => by
    have hcal : (s.kept false).calibrates = false := hs ▸ hc
    dsimp only
    split
    · split <;> simp [hcal]
    · rfl

/-! ## A valley and a load point (R232, R235, R238 to R240) -/

@[simp ↓] theorem State.kept_offsetCheck (st : Nat) (hc : (s.kept false).calibrates = false) :
    (s.offsetCheck st).kept false = s.kept false := by
  have hrun : ∀ n, ∀ s : State, (s.modTr st fun h => { h with offsetRun := n }).kept false = s.kept false :=
    fun n s => s.kept_modTr fun _ _ => rfl
  unfold State.offsetCheck
  extract_lets u win ks read out n counted
  have hread : read.kept false = s.kept false := s.kept_forL_from _ fun k _ s hs => s.kept_sigParity _ (hs ▸ hc)
  have hcounted : counted.kept false = s.kept false := (hrun _ _).trans hread
  have hreported : ((counted.fault u 0x0310).raise u 22).kept false = s.kept false := by simp [u, hcounted]
  split
  · exact hrun _ _
  · split
    · exact (hrun _ _).trans hread
    · split
      · exact (State.kept_react _ u 5 (hreported ▸ hc)).trans hreported
      · exact hcounted

/-- TB's lock leaves the points as they were; only the length of the period depends on it. -/
theorem State.kept_tbLock (d p : Nat) : (s.tbLock d p).1.kept mi = s.kept mi := by
  have hrun : ∀ b, (s.modTr 1 fun h => { h with syncBad := b }).kept mi = s.kept mi := fun b => s.kept_modTr fun _ _ => rfl
  unfold State.tbLock
  split
  · extract_lets noted
    have hnoted : noted.kept mi = s.kept mi := hrun _
    split
    · exact hnoted
    · simp [hnoted]
  · rfl

@[simp ↓] theorem State.kept_modulate (st : Nat) (peak : Bool) (d : Nat) (hc : (s.kept false).calibrates = false) :
    (s.modulate st peak d).kept false = s.kept false := by
  unfold State.modulate
  extract_lets u th sig read vdc low free w ovm warned
  have hread : read.kept false = s.kept false := s.kept_sigParity sig hc
  have hwarned : warned.kept false = s.kept false := by simp [warned, hread]
  split
  next va vb _ =>
    extract_lets v2 mi six vlim gain duties d1 d2 loaded shown led first both reported
    have hloaded : loaded.kept false = s.kept false := by
      refine (warned.kept_modTr ?_).trans hwarned
      exact fun _ _ => rfl
    have hshown : shown.kept false = s.kept false := by simp [shown, u, hloaded]
    have hreported : reported.kept false = s.kept false := by simp [reported, both, first, led, State.kept_forN, hshown]
    exact (reported.kept_freeCtr _).trans hreported

theorem modIndex_lt (v2 vdc : Nat) : modIndex v2 vdc < 2 ^ trac_TMI_MI.w := by
  have hle : modIndex v2 vdc ≤ 32767 := Nat.min_le_left _ _
  exact Nat.lt_of_le_of_lt hle (by decide)

/-- Every field of the modulator's is one of those that are kept. -/
theorem mem_modFields {st : Nat} (hst : st < 2) : (uStage st, trac_TMI_MI) ∈ modFields ∧
    (uStage st, trac_TPSTAT_VLIM) ∈ modFields := by
  have hall : ∀ st < 2, (uStage st, trac_TMI_MI) ∈ modFields ∧ (uStage st, trac_TPSTAT_VLIM) ∈ modFields := by decide
  exact hall st hst

/-- What the modulator shows of a load point with a link word at or above TVDC.MIN and above 0 (R239). -/
theorem State.modulate_shows {st d : Nat} {peak : Bool} {va vb vdc : Int} (hst : st < 2) (hparity : s.badParity = [])
    (hvdc : vdc = lo16 (s.sig (s.get (uStage st) trac_TVDC_SIG))) (hpos : 0 < vdc)
    (hmin : (s.get (uStage st) trac_TVDC_MIN : Int) ≤ vdc)
    (hv : s.vAlphaBeta st (s.angleAt st (2 * d + s.carrierHalf st peak)) = (va, vb)) :
    (s.modulate st peak d).get (uStage st) trac_TMI_MI = modIndex (va * va + vb * vb).toNat vdc.toNat ∧
      (s.modulate st peak d).get (uStage st) trac_TPSTAT_VLIM =
        if s.get (uStage st) trac_TCFG_OVM = 0 ∧ overLinear (va * va + vb * vb).toNat vdc.toNat = true then 1 else 0 := by
  unfold State.modulate
  extract_lets u th sig read link low free w ovm warned
  have hread : read = s := by simp [read, State.sigParity, hparity]
  have hlink : link = vdc := by simp only [link, hread, sig, u, hvdc]
  have hlow : ¬ low := by simp only [low, hread, hlink, u]; omega
  have hfree : ¬ free := by simp only [free, hlink]; omega
  split
  next va' vb' hv' =>
    obtain ⟨rfl, rfl⟩ : va' = va ∧ vb' = vb := Prod.mk.inj (hv'.symm.trans hv)
    extract_lets v2 mi six vlim gain duties d1 d2 loaded shown led first both reported
    have hreported : { reported with freeCtr := reported.freeCtr + 8 }.kept true = shown.kept true := by
      refine (reported.kept_freeCtr _).trans ?_
      simp [reported, both, first, led, State.kept_forN]
    obtain ⟨hmi, hvlim⟩ := mem_modFields hst
    rw [State.get_of_kept hreported hmi, State.get_of_kept hreported hvlim]
    constructor
    · have hne : u.addr trac_TMI_MI.off ≠ u.addr trac_TPSTAT_VLIM.off := Unit.addr_ne (by decide) (by decide) (.inr (by decide))
      rw [State.get_set_addr _ _ _ _ _ _ hne, State.get_set_same _ _ _ _ (Fld.fits_of_ble rfl)]
      have hindex : mi = modIndex v2 vdc.toNat := by simp only [mi, hfree, if_false, w, hlink]
      rw [hindex, Nat.mod_eq_of_lt (modIndex_lt _ _)]
    · rw [State.get_set_same _ _ _ _ (Fld.fits_of_ble rfl)]
      have hlimited : (vlim = true) = (s.get (uStage st) trac_TCFG_OVM = 0 ∧ overLinear v2 vdc.toNat = true) := by
        simp [vlim, hlow, hfree, ovm, hread, w, hlink, u, State.on]
      simp only [hlimited, v2]
      split <;> rfl

end Sys2Proof.Machine

end

section
/-!
PROOF. The points of TA's and TB's carriers (R230 to R232, R238 to R240): what a valley makes of a carrier, and what a load point shows.
-/

namespace Sys2Proof.Machine

variable {mi : Bool} (s : State)

/-! ## The three parts of a carrier point -/

/-- A point is passed: the carrier has its next one, and the cadence generators count this one (R55, R232). -/
def State.pointPassed (s : State) (st : Nat) (peak : Bool) (d : Nat) : State :=
  let s := if peak then s.carrierPeak st else (s.valleyOf st d).intervalsFollow st
  let s := s.carrierPoint st peak d
  if st = 0 && s.six && s.tracRuns 1 then s.carrierPoint 1 peak d else s

/-- A load point computes the duties (R238). -/
def State.pointLoaded (s : State) (st : Nat) (peak : Bool) (d : Nat) : State :=
  if s.isLoad st peak then (s.loadPoint st).modulate st peak d else s

/-- The duties in force act over the half period that begins (R240). -/
def State.pointPlaced (s : State) (st : Nat) (peak : Bool) (d : Nat) : State :=
  let h := s.carrierHalf st peak
  let s := s.placeHalf st st false peak d h
  if s.six then s.placeHalf st 1 true peak d h else s

theorem State.at_six (t : Nat) : (s.at t).six = s.six := by simp [State.six]

theorem State.at_lead (t st : Nat) : (s.at t).lead st = s.lead st := by simp [State.lead, s.at_six]

theorem State.at_enabled (t : Nat) (u : Unit) : (s.at t).enabled u = s.enabled u := by simp [State.enabled]

theorem State.at_tracRuns (t st : Nat) : (s.at t).tracRuns st = s.tracRuns st := by
  simp [State.tracRuns, State.runsMode, State.locked, State.at_lead, State.at_enabled]

/-- A point of a running carrier that is due (R230, R231). -/
theorem exec_tractionLoadPoint {t st d : Nat} {peak : Bool} (hst : st < 2) (hlead : s.lead st = st)
    (hruns : s.tracRuns st = true) (hdue : (s.at t).carrierDue st peak = some d) :
    exec (.tractionLoadPoint t st peak) s =
      .next ((((s.at t).pointPassed st peak d).pointLoaded st peak d).pointPlaced st peak d) := by
  simp [exec, execTractionLoadPoint, Nat.mod_eq_of_lt hst, State.at_lead, hlead, State.at_tracRuns, hruns, hdue,
    State.pointPassed, State.pointLoaded, State.pointPlaced]

/-- A carrier runs in the modes with runs, of which CALIBRATE is none (R159, R231). -/
theorem State.not_calibrates_of_tracRuns {st : Nat} (h : s.tracRuns st = true) : (s.kept mi).calibrates = false := by
  have hmode : s.runsMode = true := by
    simp only [State.tracRuns, Bool.and_eq_true] at h
    exact h.1.1.1.1
  rw [State.kept_calibrates]
  simp only [State.runsMode, State.inMode, Bool.or_eq_true, decide_eq_true_eq] at hmode
  simp only [State.inMode, decide_eq_false_iff_not]
  intro hcal
  simp [hcal, Mode.code] at hmode

@[simp ↓] theorem State.kept_pointPlaced (st : Nat) (peak : Bool) (d : Nat) (hc : (s.kept mi).calibrates = false) :
    (s.pointPlaced st peak d).kept mi = s.kept mi := by
  simp [State.pointPlaced, hc]

@[simp ↓] theorem State.kept_pointLoaded (st : Nat) (peak : Bool) (d : Nat) (hc : (s.kept false).calibrates = false) :
    (s.pointLoaded st peak d).kept false = s.kept false := by
  simp [State.pointLoaded, hc]

/-! ## A valley (R232) -/

/-- A valley takes the period in force; only TB's lock makes a period of another length. -/
theorem State.kept_valleyOf (st d : Nat) (hc : (s.kept false).calibrates = false) :
    ∃ (x : State) (len : Nat), x.kept false = s.kept false ∧
      (st = 0 ∨ s.get (uStage 1) trac_TCSYNC_EN = 0 → len = s.get (uStage st) trac_TCAR_PERIOD) ∧
      (s.valleyOf st d).kept false = (x.carrierValley st d (s.get (uStage st) trac_TCAR_PERIOD) len).kept false := by
  have hcal : ∀ (x : State) (p len : Nat), x.kept false = s.kept false →
      ((x.carrierValley st d p len).kept false).calibrates = false := fun x _ _ hx => by
    have hx' : (x.kept false).calibrates = false := hx ▸ hc
    exact hx'
  by_cases hst : st = 1
  · have hlock := s.kept_tbLock (mi := false) d (s.get (uStage st) trac_TCAR_PERIOD)
    refine ⟨_, (s.tbLock d (s.get (uStage st) trac_TCAR_PERIOD)).2, hlock, fun hfree => ?_, ?_⟩
    · have hoff : s.on (uStage 1) trac_TCSYNC_EN = false := by
        have hen : s.get (uStage 1) trac_TCSYNC_EN = 0 := by omega
        simp [State.on, hen]
      simp [State.tbLock, hoff]
    · simp only [State.valleyOf, if_pos hst]
      exact State.kept_offsetCheck _ st (hcal _ _ _ hlock)
  · refine ⟨s, s.get (uStage st) trac_TCAR_PERIOD, rfl, fun _ => rfl, ?_⟩
    simp only [State.valleyOf, if_neg hst]
    exact State.kept_offsetCheck _ st (hcal s _ _ rfl)

/-- What is left of a state behind a valley is what the valley makes of its carrier. -/
theorem State.pointPassed_valley (st d : Nat) (hc : (s.kept false).calibrates = false) :
    ∃ (x : State) (len : Nat), x.kept false = s.kept false ∧
      (st = 0 ∨ s.get (uStage 1) trac_TCSYNC_EN = 0 → len = s.get (uStage st) trac_TCAR_PERIOD) ∧
      (s.pointPassed st false d).kept false = (x.carrierValley st d (s.get (uStage st) trac_TCAR_PERIOD) len).kept false := by
  obtain ⟨x, len, hx, hlen, hvalley⟩ := s.kept_valleyOf st d hc
  refine ⟨x, len, hx, hlen, ?_⟩
  have hcal : ((s.valleyOf st d).kept false).calibrates = false := by
    rw [hvalley]
    exact (congrArg Kept.calibrates hx).trans hc
  have hkept : (s.pointPassed st false d).kept false = (s.valleyOf st d).kept false := by simp [State.pointPassed, hcal]
  exact hkept.trans hvalley

/-- A valley of a running carrier that is due. -/
theorem exec_valley {t st d : Nat} (hst : st < 2) (hlead : s.lead st = st) (hruns : s.tracRuns st = true)
    (hdue : (s.at t).carrierDue st false = some d) :
    ∃ (s' : State) (len : Nat), exec (.tractionLoadPoint t st false) s = .next s' ∧ s'.mem = s.mem ∧
      (s'.tr st).points = ⟨s.get (uStage st) trac_TCAR_PERIOD, len, d, some (d + len / 2), true, some d⟩ ∧
      (st = 0 ∨ s.get (uStage 1) trac_TCSYNC_EN = 0 → len = s.get (uStage st) trac_TCAR_PERIOD) := by
  have hc : ((s.at t).kept false).calibrates = false := by simpa using s.not_calibrates_of_tracRuns hruns
  obtain ⟨x, len, hx, hlen, hpassed⟩ := (s.at t).pointPassed_valley st d hc
  have hcal : (((s.at t).pointPassed st false d).kept false).calibrates = false := by
    rw [hpassed]
    exact (congrArg Kept.calibrates hx).trans hc
  have hkept : ((((s.at t).pointPassed st false d).pointLoaded st false d).pointPlaced st false d).kept false =
      (x.carrierValley st d ((s.at t).get (uStage st) trac_TCAR_PERIOD) len).kept false := by
    rw [State.kept_pointPlaced _ st false d (by rw [State.kept_pointLoaded _ st false d hcal]; exact hcal),
      State.kept_pointLoaded _ st false d hcal, hpassed]
  simp only [State.at_get] at hlen hkept
  refine ⟨_, len, exec_tractionLoadPoint s hst hlead hruns hdue, ?_, ?_, hlen⟩
  · rw [State.mem_of_kept hkept]
    exact (State.mem_of_kept hx).trans (s.at_mem t)
  · rw [State.points_of_kept hkept hst, State.carrierValley, State.tr_modTr_same]
    rfl

/-! ## What the modulator reads (R237 to R239)

Up to the load point a peak changes cadence generators, commands of the stages and the next point of its carrier, none of which the
modulator reads. -/

/-- Is a word one of the pages 0x002 to 0x03F, where the cadence generators and their shell stand? -/
def cadWord (a : Nat) : Bool := 0x2000 ≤ a && a < 0x40000

/-- What of a carrier an angle and a half period depend on: all but its next point. -/
def TracH.turning (h : TracH) : TracH := { h with next := none, nextPeak := false }

/-- What a load point reads: the words apart from the cadence generators', the pods, the references and what lies behind an angle. -/
structure Basis where
  words : Nat → Word
  badParity : List Nat
  tick : Nat
  pods : SMap PodH
  refs : SMap Word
  freeCtr : Nat
  turning : Nat → TracH

def State.basis (s : State) : Basis where
  words a := if cadWord a then 0 else s.getW a
  badParity := s.badParity
  tick := s.tick
  pods := s.pods
  refs := s.refs
  freeCtr := s.freeCtr
  turning st := (s.tr st).turning

variable {s} {s' : State}

theorem State.getW_of_basis {a : Nat} (h : s'.basis = s.basis) (ha : cadWord a = false) : s'.getW a = s.getW a := by
  have hword := congrFun (congrArg Basis.words h) a
  simpa [State.basis, ha] using hword

theorem State.get_of_basis {u : Unit} {f : Fld} (h : s'.basis = s.basis) (ha : cadWord (u.addr f.off) = false) :
    s'.get u f = s.get u f := congrArg f.get (State.getW_of_basis h ha)

theorem cadWord_eq_false {a : Nat} (h : 0x40000 ≤ a) : cadWord a = false := by
  simp only [cadWord, Bool.and_eq_false_iff, decide_eq_false_iff_not]
  omega

theorem cadWord_eq_true {a : Nat} (h : 0x2000 ≤ a) (h' : a < 0x40000) : cadWord a = true := by
  simp only [cadWord, h, h', decide_true, Bool.and_self]

@[simp] theorem cadWord_uStage (n o : Nat) : cadWord ((uStage n).addr o) = false :=
  cadWord_eq_false (by simp only [Unit.addr, Unit.page, uStage]; omega)

@[simp] theorem cadWord_uPod (n o : Nat) : cadWord ((uPod n).addr o) = false :=
  cadWord_eq_false (by simp only [Unit.addr, Unit.page, uPod]; omega)

@[simp] theorem cadWord_sigAddr (n : Nat) : cadWord (sigAddr n) = false :=
  cadWord_eq_false (by simp only [sigAddr]; omega)

/-! ### Reading -/

theorem State.stageGet_of_basis (h : s'.basis = s.basis) (st : Nat) (f : Fld) : s'.get (uStage st) f = s.get (uStage st) f :=
  State.get_of_basis h (cadWord_uStage st f.off)

theorem State.sig_of_basis (h : s'.basis = s.basis) (n : Nat) : s'.sig n = s.sig n :=
  State.getW_of_basis h (cadWord_sigAddr n)

theorem State.isLoad_of_basis (h : s'.basis = s.basis) (st : Nat) (peak : Bool) : s'.isLoad st peak = s.isLoad st peak := by
  simp only [State.isLoad, State.loadPts, State.stageGet_of_basis h]

theorem State.applyDue_of_basis (h : s'.basis = s.basis) (p : Nat) : s'.applyDue p = s.applyDue p := by
  have htick : s'.tick = s.tick := congrArg Basis.tick h
  have hpods : s'.pods = s.pods := congrArg Basis.pods h
  have hlock : s'.get ⟨.tbase, 0⟩ tb_TBSTAT_LOCK = s.get ⟨.tbase, 0⟩ tb_TBSTAT_LOCK := State.get_of_basis h rfl
  have hlocked : s'.locked = s.locked := by simp only [State.locked, State.on, hlock]
  have hofs : s'.get (uPod p) pod_APPLY_TICKS = s.get (uPod p) pod_APPLY_TICKS := State.get_of_basis h (cadWord_uPod p _)
  simp only [State.applyDue, State.pod, State.due, hpods, hofs, hlocked, htick]

theorem State.ref_of_basis (h : s'.basis = s.basis) (st i : Nat) : s'.ref st i = s.ref st i := by
  have hrefs : s'.refs = s.refs := congrArg Basis.refs h
  simp only [State.ref, hrefs]

theorem State.vAlphaBeta_of_basis (h : s'.basis = s.basis) (st a : Nat) : s'.vAlphaBeta st a = s.vAlphaBeta st a := by
  simp only [State.vAlphaBeta, State.ref_of_basis h]

/-- What of a carrier does not depend on its next point. -/
theorem State.tr_of_basis {α : Type} (f : TracH → α) (hf : ∀ x : TracH, f x.turning = f x) (h : s'.basis = s.basis) (st : Nat) :
    f (s'.tr st) = f (s.tr st) := by
  have hturning : (s'.tr st).turning = (s.tr st).turning := congrFun (congrArg Basis.turning h) st
  rw [← hf (s'.tr st), hturning, hf]

theorem State.angleAt_of_basis (h : s'.basis = s.basis) (st t2 : Nat) : s'.angleAt st t2 = s.angleAt st t2 := by
  have hfree : s'.freeCtr = s.freeCtr := congrArg Basis.freeCtr h
  have hfrom := State.tr_of_basis TracH.heldFrom (fun _ => rfl) h st
  have hspeed := State.tr_of_basis TracH.heldSpeed (fun _ => rfl) h st
  have htick := State.tr_of_basis TracH.heldTick (fun _ => rfl) h st
  have hlast := State.tr_of_basis TracH.lastAngle (fun _ => rfl) h st
  have hstamp := State.tr_of_basis TracH.thetaAt (fun _ => rfl) h st
  simp only [State.angleAt, State.stageGet_of_basis h, State.ref_of_basis h, hfree, hfrom, hspeed, htick, hlast, hstamp]

theorem State.carrierHalf_of_basis (h : s'.basis = s.basis) (st : Nat) (peak : Bool) :
    s'.carrierHalf st peak = s.carrierHalf st peak := by
  simp only [State.carrierHalf, State.tr_of_basis TracH.len (fun _ => rfl) h st]

/-! ### A peak -/

variable (s)

theorem State.basis_setW {a : Nat} (w : Word) (h : cadWord a = true) : (s.setW a w).basis = s.basis := by
  have hwords : (fun b => if cadWord b then 0 else (s.setW a w).getW b) = fun b => if cadWord b then 0 else s.getW b := by
    funext b
    by_cases hb : b = a
    · simp [hb, h]
    · simp [State.getW_setW_other s w hb]
  simp only [State.basis, hwords]
  rfl

theorem State.basis_set {u : Unit} {f : Fld} (v : Nat) (h : cadWord (u.addr f.off) = true) : (s.set u f v).basis = s.basis :=
  s.basis_setW _ h

theorem State.basis_hold (u : Unit) (f : Fld) : (s.hold u f).basis = s.basis := by
  unfold State.hold
  split <;> rfl

theorem State.basis_cor {u : Unit} {f : Fld} (v : Nat) (h : cadWord (u.addr f.off) = true) : (s.cor u f v).basis = s.basis :=
  (State.basis_hold _ u f).trans (s.basis_set v h)

theorem State.basis_cadErr {n : Nat} (cause : Nat) (hn : n < 16) : (s.cadErr n cause).basis = s.basis := by
  have hword : ∀ o < 0x1000, cadWord ((uCad n).addr o) = true := by
    intro o ho
    exact cadWord_eq_true (by simp only [Unit.addr, Unit.page, uCad]; omega) (by simp only [Unit.addr, Unit.page, uCad]; omega)
  refine (State.basis_cor _ _ (hword _ (by decide))).trans ?_
  unfold State.first
  split
  · exact s.basis_cor _ (hword _ (by decide))
  · rfl

theorem State.basis_modCad (n : Nat) (f : CadH → CadH) : (s.modCad n f).basis = s.basis := rfl

theorem State.basis_cadStop (n : Nat) : (s.cadStop n).basis = s.basis :=
  (State.basis_modCad _ n _).trans (s.basis_set _ (cadWord_eq_true (by decide) (by decide)))

theorem State.basis_cadPoint {n : Nat} (at_ : Nat) (hn : n < 16) : (s.cadPoint n at_).basis = s.basis := by
  unfold State.cadPoint
  dsimp only
  split
  · rfl
  · split
    · exact (State.basis_cadErr _ 2 hn).trans (s.basis_cadStop n)
    · rfl

theorem State.basis_forL {α : Type} {f : α → State → State} (l : List α) (h : ∀ x ∈ l, ∀ s', (f x s').basis = s'.basis) :
    (forL l f s).basis = s.basis := by
  induction l generalizing s with
  | nil => rfl
  | cons x l ih => exact (ih (f x s) fun y hy => h y (List.mem_cons_of_mem x hy)).trans (h x List.mem_cons_self s)

theorem State.basis_carrierPoint (st at_ : Nat) : (s.carrierPoint st true at_).basis = s.basis :=
  s.basis_forL _ fun n hn s' => by
    dsimp only
    split
    · exact s'.basis_cadPoint at_ (List.mem_range.mp hn)
    · rfl

theorem State.basis_carrierPeak (st : Nat) : (s.carrierPeak st).basis = s.basis := by
  have hturning : (fun k => ((s.carrierPeak st).tr k).turning) = fun k => (s.tr k).turning := by
    funext k
    by_cases hk : k = st
    · subst hk
      rw [State.carrierPeak, State.tr_modTr_same]
      rfl
    · rw [State.carrierPeak, State.tr_modTr_other _ _ hk]
  simp only [State.basis, hturning]
  rfl

/-- A peak leaves what a load point reads. -/
theorem State.basis_pointPassed (st d : Nat) : (s.pointPassed st true d).basis = s.basis := by
  have hpeak : ((s.carrierPeak st).carrierPoint st true d).basis = s.basis :=
    (State.basis_carrierPoint _ st d).trans (s.basis_carrierPeak st)
  simp only [State.pointPassed, if_true]
  split
  · exact (State.basis_carrierPoint _ 1 d).trans hpeak
  · exact hpeak

/-- So does a load point, up to its modulator, at which no pod's apply has come. -/
theorem State.basis_loadPoint (st : Nat) (h : ∀ p ∈ s.pods.map Prod.fst, s.applyDue p = false) :
    (s.loadPoint st).basis = s.basis := by
  have happlies : s.appliesDue = s := forL_id _ fun p hp => by simp [h p hp]
  have hlow : ∀ x : State, (x.loadLow st).basis = x.basis := fun x => by
    unfold State.loadLow
    split
    · exact x.basis_forL _ fun _ _ _ => rfl
    · rfl
  rw [State.loadPoint, happlies]
  exact hlow _

theorem State.basis_pointPassed_loadPoint (st d : Nat) (h : ∀ p ∈ s.pods.map Prod.fst, s.applyDue p = false) :
    ((s.pointPassed st true d).loadPoint st).basis = s.basis := by
  have hpassed := s.basis_pointPassed st d
  have hpods : (s.pointPassed st true d).pods = s.pods := congrArg Basis.pods hpassed
  refine (State.basis_loadPoint _ st fun p hp => ?_).trans hpassed
  rw [State.applyDue_of_basis hpassed]
  exact h p (hpods ▸ hp)

theorem State.calibrates_pointPassed_loadPoint (st d : Nat) (hc : (s.kept false).calibrates = false) :
    (((s.pointPassed st true d).loadPoint st).kept false).calibrates = false := by
  have hpassed : (s.pointPassed st true d).kept false = (s.carrierPeak st).kept false := by simp [State.pointPassed]
  have hcal : ((s.pointPassed st true d).kept false).calibrates = false := by
    rw [hpassed]
    exact hc
  rw [State.kept_loadPoint _ st hcal]
  exact hcal

/-- What a load point at a peak shows (R238, R239). -/
theorem State.peak_shows {st d : Nat} {va vb vdc : Int} (hst : st < 2) (hc : (s.kept false).calibrates = false)
    (hload : s.isLoad st true = true) (happly : ∀ p ∈ s.pods.map Prod.fst, s.applyDue p = false) (hparity : s.badParity = [])
    (hvdc : vdc = lo16 (s.sig (s.get (uStage st) trac_TVDC_SIG))) (hpos : 0 < vdc)
    (hmin : (s.get (uStage st) trac_TVDC_MIN : Int) ≤ vdc)
    (hv : s.vAlphaBeta st (s.angleAt st (2 * d + s.carrierHalf st true)) = (va, vb)) :
    let s' := ((s.pointPassed st true d).pointLoaded st true d).pointPlaced st true d
    s'.get (uStage st) trac_TMI_MI = modIndex (va * va + vb * vb).toNat vdc.toNat ∧
      s'.get (uStage st) trac_TPSTAT_VLIM =
        if s.get (uStage st) trac_TCFG_OVM = 0 ∧ overLinear (va * va + vb * vb).toNat vdc.toNat = true then 1 else 0 := by
  have hloaded : (s.pointPassed st true d).pointLoaded st true d = ((s.pointPassed st true d).loadPoint st).modulate st true d := by
    rw [State.pointLoaded, State.isLoad_of_basis (s.basis_pointPassed st d), hload, if_pos rfl]
  have hbasis := s.basis_pointPassed_loadPoint st d happly
  have hcal := s.calibrates_pointPassed_loadPoint st d hc
  rw [hloaded]
  generalize (s.pointPassed st true d).loadPoint st = b at hbasis hcal
  have hkept : ((b.modulate st true d).pointPlaced st true d).kept true = (b.modulate st true d).kept true :=
    State.kept_pointPlaced _ st true d ((congrArg Kept.calibrates (b.kept_modulate st true d hcal)).trans hcal)
  obtain ⟨hmi, hvlim⟩ := mem_modFields hst
  dsimp only
  rw [State.get_of_kept hkept hmi, State.get_of_kept hkept hvlim, ← State.stageGet_of_basis hbasis st trac_TCFG_OVM]
  refine b.modulate_shows hst ((congrArg Basis.badParity hbasis).trans hparity) ?_ hpos ?_ ?_
  · rw [State.stageGet_of_basis hbasis, State.sig_of_basis hbasis, hvdc]
  · rw [State.stageGet_of_basis hbasis]
    exact hmin
  · rw [State.carrierHalf_of_basis hbasis, State.angleAt_of_basis hbasis, State.vAlphaBeta_of_basis hbasis, hv]

/-! Time is none of what a load point reads but for the pods. -/

theorem State.at_isLoad (t st : Nat) (peak : Bool) : (s.at t).isLoad st peak = s.isLoad st peak := by
  simp only [State.at]
  split <;> rfl

theorem State.at_angleAt (t st t2 : Nat) : (s.at t).angleAt st t2 = s.angleAt st t2 := by
  simp only [State.at]
  split <;> rfl

theorem State.at_vAlphaBeta (t st a : Nat) : (s.at t).vAlphaBeta st a = s.vAlphaBeta st a := by
  simp only [State.at]
  split <;> rfl

theorem State.at_carrierHalf (t st : Nat) (peak : Bool) : (s.at t).carrierHalf st peak = s.carrierHalf st peak := by
  simp only [State.at]
  split <;> rfl

end Sys2Proof.Machine

open Sys2Proof Sys2Proof.Machine

/-- Settles O26. The valley: what follows keeps the points that it makes of its carrier (R230 to R232). The load point at a peak: what
comes before the modulator changes nothing that the modulator reads, and what follows keeps what it shows (R238, R239); the rounding of MI
is log entry 48. -/
theorem tractionCarrier : Obligations.TractionCarrier := by
  unfold Obligations.TractionCarrier
  refine ⟨fun t st d s hst hlead hruns hdue => ?_,
    fun t st d va vb vdc s hst hlead hruns hdue hload happly hparity hvdc hpos hmin hv => ?_⟩
  · obtain ⟨s', len, hexec, hmem, hpoints, hlen⟩ := exec_valley s hst hlead hruns hdue
    have hlength : (s'.tr st).len = len := congrArg Points.len hpoints
    exact ⟨s', hexec, congrArg Points.period hpoints, congrArg Points.valley hpoints, hlength ▸ congrArg Points.next hpoints,
      congrArg Points.nextPeak hpoints, congrArg Points.selFrom hpoints, fun hfree => hlength.trans (hlen hfree),
      fun a => by simp only [State.byte, hmem]⟩
  · have hc : ((s.at t).kept false).calibrates = false := by simpa using s.not_calibrates_of_tracRuns hruns
    have hshows := (s.at t).peak_shows (va := va) (vb := vb) (vdc := vdc) hst hc ((s.at_isLoad t st true).trans hload)
      (by rwa [State.at_pods]) ((s.at_badParity t).trans hparity) (by simpa only [State.sig, State.at_get, State.at_getW] using hvdc) hpos
      (by rwa [State.at_get]) (by rwa [State.at_carrierHalf, State.at_angleAt, State.at_vAlphaBeta])
    rw [State.at_get] at hshows
    exact ⟨_, exec_tractionLoadPoint s hst hlead hruns hdue, hshows⟩

end
